-- ==== Sys2Proof/Word.lean ====
section
/-! DEFINITION. The one word type of the part: a byte of a show link frame. Everything else the manual counts
(levels, positions, times) is a number and is held as a Nat. -/

namespace Sys2Proof

/-- A byte of a show link frame (R169, section 11.3). -/
abbrev Byte := BitVec 8

end Sys2Proof
end

