-- ==== Sys2Proof/Syntax.lean ====
section
/-! DEFINITION. The commands of the Lomeric 6620: one constructor per row of spec/opcode_table.json, in the table's
order, with the operands the rules give each row. -/

namespace Sys2Proof

/-- The two fade channels (R42). -/
inductive Channel where
  | lamp | audio
  deriving DecidableEq, Repr

/-- Bytes 1 and 2 of a request frame, less the continuation flag and the command code, which the row gives
(section 11.3). -/
structure Header where
  addr   : BitVec 5
  mirror : BitVec 2
  reply  : Bool
  deriving DecidableEq, Repr

/-- The gate sensor and home mark readings that the changer makes in a step (R9, R18). -/
structure Sense where
  gateOccupied : Bool
  homeMark     : Bool
  deriving DecidableEq, Repr

/-- The seven front panel keys (section 10.3). -/
inductive PanelKey where
  | fwd | rev | home | lamp | tape | hold | power
  deriving DecidableEq, Repr

/-- Which panel key inputs are closed (R164). -/
structure PanelInputs where
  fwd   : Bool
  rev   : Bool
  home  : Bool
  lamp  : Bool
  tape  : Bool
  hold  : Bool
  power : Bool
  deriving DecidableEq, Repr

/-- The inputs a reset reads. `supplyLost` says that the supply was lost before a power-on reset, which tells supply
rising from mains returning after a warning (section 'Resets and Stopping Actions' of 00_scope.md, R185). -/
structure Pins where
  strap           : BitVec 5
  trayPresent     : Bool
  cassettePresent : Bool
  supplyFail      : Bool
  supplyLost      : Bool
  keys            : PanelInputs
  sense           : Sense
  deriving DecidableEq, Repr

/-- The commands and events of the part, one for each row of spec/opcode_table.json. A show link command carries its
frame's header and argument bytes; the frame has passed its check byte (R170). -/
inductive Instr where
  | powerOnReset (pins : Pins)
  | resetPart (h : Header) (args : List Byte)
  | linkReset (pins : Pins)
  | mechanismRestart (pins : Pins)
  | supplyFailWarning
  | supplyFailCleared
  | grant (sense : Sense)
  | indexPulse (homeMark : Bool)
  | homingStepCountReached
  | rotateStepTimeout
  | returnStepTimeout
  | homingStepTimeout
  | gateClearInLift (homeMark : Bool)
  | liftLimitExpiry
  | gateOccupiedInDrop
  | dropLimitExpiry
  | settleExpiry
  | trayRemoval
  | trayInsertion (sense : Sense)
  | dwellExpiry
  | rampStep (ch : Channel) (sense : Sense)
  | guardTick
  | zeroCrossing (dt : Nat)
  | firingPulse
  | mainsSilenceExpiry
  | scanPass (raws : List (BitVec 12))
  | cooldownMinTimeReached
  | offTimeout
  | fanTachPulse (dt : Nat)
  | speedTimeout
  | stallTimerExpiry
  | tapeTachPulse
  | tapeTachTimerExpiry (leader trailer : Bool)
  | leaderReached
  | cassetteRemoval
  | cassetteInsertion
  | windowClose (count : Nat)
  | secondTick
  | saveComplete
  | frameGapDiscard (gathered : List Byte)
  | frameDiscarded (frame : List Byte)
  | unknownCommand (h : Header) (code : BitVec 6) (args : List Byte)
  | partnerFrame (h : Header) (cont : Bool) (code : BitVec 6) (args : List Byte)
  | continuationFrame (h : Header) (code : BitVec 6) (args : List Byte)
  | step (h : Header) (args : List Byte)
  | goto (h : Header) (args : List Byte)
  | ret (h : Header) (args : List Byte)
  | home (h : Header) (args : List Byte)
  | mark (h : Header) (args : List Byte)
  | flush (h : Header) (args : List Byte)
  | fade (h : Header) (args : List Byte)
  | lamp (h : Header) (args : List Byte)
  | lampReset (h : Header) (args : List Byte)
  | hold (h : Header) (args : List Byte)
  | resume (h : Header) (args : List Byte)
  | auto (h : Header) (args : List Byte)
  | priority (h : Header) (args : List Byte)
  | lock (h : Header) (args : List Byte)
  | tape (h : Header) (args : List Byte)
  | seekCue (h : Header) (args : List Byte)
  | bindCue (h : Header) (args : List Byte)
  | clearMap (h : Header) (args : List Byte)
  | follow (h : Header) (args : List Byte)
  | takeShow (h : Header) (args : List Byte)
  | releaseShow (h : Header) (args : List Byte)
  | clearFault (h : Header) (args : List Byte)
  | limitClear (h : Header) (args : List Byte)
  | set (h : Header) (args : List Byte)
  | lawTable (h : Header) (args : List Byte)
  | scanSlot (h : Header) (args : List Byte)
  | save (h : Header) (args : List Byte)
  | read (h : Header) (args : List Byte)
  | readCompletion (h : Header) (args : List Byte)
  | readCounters (h : Header) (args : List Byte)
  | setCounter (h : Header) (args : List Byte)
  | standby (h : Header) (args : List Byte)
  | showModeLapse
  | remoteFwd
  | remoteRev
  | remoteHold
  | remoteResume
  | remoteMark
  | remoteBack
  | remoteFocusIn
  | remoteFocusOut
  | remoteIdleFrame (code : BitVec 4)
  | remoteFrameAbandoned (startPulse : Bool)
  | remoteComplementFail (bits : BitVec 8)
  | presenceTimeout
  | releaseTimerExpiry
  | autoStepExpiry
  | focusRunExpiry
  | panelFwd
  | panelRev
  | panelHome
  | panelPower
  | panelLamp
  | panelTape
  | panelHoldPress
  | panelHoldRelease
  | panelHoldLongPress
  | panelKeyRelease (key : PanelKey)
  | byteWithNoStopBit (gathered : List Byte)
  | lengthByteAbove8 (gathered : List Byte) (len : Byte)
  | replyDriverRelease
  deriving DecidableEq, Repr

end Sys2Proof
end

