-- ==== Sys2Proof/Decode.lean ====
section
/-! DEFINITION. Table words. spec/opcode_table.json gives no row any bits: its 105 rows are events and frame commands. -/

namespace Sys2Proof

/-- The command that a word spells by the table's bits: none, for the table gives none. -/
def decodeTableWord (_nbits _w : Nat) : Option Instr := none

end Sys2Proof
end

