-- ==== Sys2Proof/Config.lean ====
section
/-! DEFINITION. The free values: what the manual leaves open and the part goes on. Each is a constant with no body, so
that nothing can be proved of its value. Each is applied to State.freeCount, which a step that draws one advances. -/

namespace Sys2Proof

/-- Whether a save that a power-on reset without loss of supply cuts short still leaves its whole image in the store.
The manual gives the damage only for a loss of supply (R185); log 13. -/
opaque Config.saveSurvives : Nat → Bool

/-- Whether the configuration part of an image whose writing was cut off is the new one or the one it replaced. The
manual says only that the checksum fails (R185); log 13. -/
opaque Config.tornTakesNew : Nat → Bool

/-- The two bytes that the tape status read sends for the seek target while none stands. Section 11.3 excepts tape
positions from the all-ones rule for absent fields and gives no other value; log 14. -/
opaque Config.absentSeekTarget : Nat → BitVec 16

/-- The byte that the fault read sends for the last-fault cause while it is none: section 11.3 gives no code for it; log
14. -/
opaque Config.noCauseByte : Nat → BitVec 8

end Sys2Proof
end

