-- ==== Sys2Proof/Machine/Types.lean ====
section
/-! DEFINITION. The records of the thirteen blocks (the table of 00_scope.md, Block Diagram). Numbers are Nat held to
the manual's range; a time is the clock value, in microseconds, at which something is due. -/

namespace Sys2Proof.Machine

/-! ## Tray Changer (chapter 1) -/

/-- R10, and the rotate drive outputs. -/
inductive Direction where
  | forward | reverse
  deriving DecidableEq, Repr

/-- Section 1.3. -/
inductive ChangerState where
  | idle | dipping | lift | rotate | returning | drop | settle | homing | lost | jammed
  deriving DecidableEq, Repr

/-- The outcome of a change (R15, R40). -/
inductive ChangeOutcome where
  | done | empty | nothing | restored | jammed | aborted
  deriving DecidableEq, Repr

/-- Section 1.2. -/
inductive EntryState where
  | unseen | loaded | inGate | empty
  deriving DecidableEq, Repr

/-- One entry of the tray map (section 1.2). -/
structure TrayEntry where
  state       : EntryState
  skip        : Bool
  lampPreset  : Option Nat
  dwellPreset : Option Nat
  deriving DecidableEq, Repr

/-- R24. -/
inductive ReqKind where
  | stepFwd | stepRev | goto | ret | home
  deriving DecidableEq, Repr

/-- Section 2.1. -/
inductive Source where
  | link | cue | remote | panel | dwell
  deriving DecidableEq, Repr

/-- A request (R24). A cue reference is held as its entry's position, which is fixed at the entry's creation and is
held by no other entry (R127); log 28. -/
structure Request where
  kind     : ReqKind
  target   : Option Nat
  source   : Source
  noDip    : Bool
  waitFade : Bool
  noPush   : Bool
  tag      : Option Byte
  cueRef   : Option Nat
  standby  : Bool
  deriving DecidableEq, Repr

/-- The change record (R6), with the steps to go back (R13) and, from DROP or the arrival at 0 until the SETTLE expiry,
the outcome and whether the last drop found a slide (R14, R15), and the position that a RETURN popped at its grant
(R35). -/
structure ChangeRecord where
  request     : Option Request
  origin      : Option Nat
  target      : Option Nat
  direction   : Option Direction
  planned     : Nat
  stepsMade   : Nat
  stepsBack   : Nat
  retryUsed   : Bool
  restoring   : Bool
  homingSteps : Nat
  moved       : Bool
  popped      : Option Nat
  outcome     : Option ChangeOutcome
  found       : Bool
  deriving DecidableEq, Repr

structure Changer where
  state       : ChangerState
  position    : Option Nat
  map         : List TrayEntry
  record      : Option ChangeRecord
  jamClear    : Bool
  homingLift  : Bool
  stageDue    : Option Nat
  trayPresent : Bool
  drive       : Option Direction
  lift        : Bool
  dropRelease : Bool
  sense       : Sense
  deriving DecidableEq, Repr

/-! ## Request Arbiter (chapter 2) -/

structure Queues where
  link   : List Request
  cue    : List Request
  remote : List Request
  panel  : List Request
  dwell  : List Request
  deriving DecidableEq, Repr

/-- The priority table (R31). -/
structure Priorities where
  link   : Nat
  cue    : Nat
  remote : Nat
  panel  : Nat
  dwell  : Nat
  deriving DecidableEq, Repr

/-- The hold shadow (R38): a saved dwell remainder in microseconds, or none, and the saved auto mode. -/
structure Shadow where
  remainder : Option Nat
  auto      : Bool
  deriving DecidableEq, Repr

/-- An entry of the completion list (R40). -/
structure Completion where
  tag      : Byte
  outcome  : ChangeOutcome
  position : Option Nat
  deriving DecidableEq, Repr

/-- The return stack is held newest first, the completion list oldest first. -/
structure Arbiter where
  queues      : Queues
  priority    : Priorities
  lock        : Bool
  stack       : List Nat
  autoMode    : Bool
  dwellDue    : Option Nat
  hold        : Bool
  shadow      : Option Shadow
  completions : List Completion
  deriving DecidableEq, Repr

/-! ## Fade Engine (chapters 3 and 4) -/

/-- Section 3.1. -/
inductive FadeState where
  | steady | ramping | pending | dipped
  deriving DecidableEq, Repr

/-- A level and a time in tenths of a second (R43, R62, R69). -/
structure Fade where
  level : Nat
  time  : Nat
  deriving DecidableEq, Repr

/-- A fade channel (section 3.1) with its pending fade (R62) and the moment of its next ramp step (R44). -/
structure FadeChannel where
  level   : Nat
  target  : Nat
  start   : Nat
  steps   : Nat
  count   : Nat
  state   : FadeState
  pending : Option Fade
  stepDue : Option Nat
  deriving DecidableEq, Repr

/-- The change watch (R66). -/
structure Watch where
  dipped      : Bool
  savedTarget : Option Nat
  restoreTime : Option Nat
  override    : Option Fade
  deriving DecidableEq, Repr

structure FadeEngine where
  lamp  : FadeChannel
  audio : FadeChannel
  watch : Option Watch
  deriving DecidableEq, Repr

/-! ## Lamp Drive (chapter 3) -/

/-- R45. -/
inductive LampSwitch where
  | off | eco | full
  deriving DecidableEq, Repr

structure LampDrive where
  switch       : LampSwitch
  cycled       : Bool
  failed       : Bool
  failCount    : Nat
  guardAcc     : Nat
  guardEngaged : Bool
  guardDue     : Nat
  mainsNormal  : Bool
  halfPeriod   : Option Nat
  invalidRun   : Nat
  validRun     : Nat
  lastCrossing : Option Nat
  firingDue    : Option Nat
  lastPulse    : Option Nat
  deriving DecidableEq, Repr

/-! ## Cooling Controller (chapter 5) -/

/-- R84. -/
inductive PowerState where
  | run | coolingDown | off
  deriving DecidableEq, Repr

/-- Section 5.1. Cooldown runs exactly while `darkStart` is present; the dark time is the clock less it. -/
structure Cooling where
  th        : Option Nat
  lastTach  : Option Nat
  speed     : Option Nat
  stallDue  : Option Nat
  stalled   : Bool
  darkStart : Option Nat
  power     : PowerState
  offDue    : Option Nat
  warning   : Bool
  deriving DecidableEq, Repr

/-! ## Sensor Scanner (chapter 6) -/

/-- Section 6.1. -/
inductive Role where
  | none | housing | gate | lampCurrent | supply | cueLevel
  deriving DecidableEq, Repr

/-- The configuration of a scan slot (section 6.1). -/
structure SlotConfig where
  input  : Nat
  enable : Bool
  offset : Nat
  low    : Nat
  high   : Nat
  role   : Role
  deriving DecidableEq, Repr

/-- A scan slot with its limit state (section 6.1). -/
structure ScanSlot where
  cfg         : SlotConfig
  result      : Option Nat
  latchedHigh : Bool
  latchedLow  : Bool
  highCond    : Bool
  lowCond     : Bool
  highCount   : Nat
  lowCount    : Nat
  deriving DecidableEq, Repr

structure Scanner where
  slots    : List ScanSlot
  lastPass : Option Nat
  deriving DecidableEq, Repr

/-! ## Tape Controller (chapter 7) -/

/-- R107. -/
inductive TransportState where
  | noCassette | stopped | play | paused | fastFwd | rewind | seek | ended
  deriving DecidableEq, Repr

/-- Section 7.1. -/
inductive StopCause where
  | none | command | leader | trailer | tapeJam | seekArrived | standby | lockout | supplyFail
  deriving DecidableEq, Repr

/-- The pause-reason set (R111). -/
structure PauseSet where
  hold    : Bool
  queue   : Bool
  cueStop : Bool
  safe    : Bool
  deriving DecidableEq, Repr

/-- The standing reasons (R111). -/
structure Standing where
  hold  : Bool
  queue : Bool
  safe  : Bool
  deriving DecidableEq, Repr

structure Tape where
  state      : TransportState
  cassette   : Bool
  counter    : Nat
  direction  : Direction
  pause      : PauseSet
  standing   : Standing
  tachDue    : Option Nat
  seekTarget : Option Nat
  lastStop   : StopCause
  deriving DecidableEq, Repr

/-! ## Cue Decoder (chapter 7) and Cue Map (chapter 8) -/

/-- R120. -/
inductive ToneClass where
  | a | b | c | d
  deriving DecidableEq, Repr

/-- R121. -/
inductive TrackerState where
  | idle | running | active
  deriving DecidableEq, Repr

structure Tracker where
  state  : TrackerState
  run    : Nat
  first  : Nat
  misses : Nat
  length : Nat
  stuck  : Bool
  deriving DecidableEq, Repr

structure Trackers where
  a : Tracker
  b : Tracker
  c : Tracker
  d : Tracker
  deriving DecidableEq, Repr

/-- The last window classified (R120). -/
structure LastWindow where
  count : Nat
  cls   : Option ToneClass
  deriving DecidableEq, Repr

/-- `levelLow` is the low limit that came with the latest CUE-LEVEL result (R105). -/
structure CueDecoder where
  trackers   : Trackers
  lastWindow : Option LastWindow
  windowDue  : Nat
  levelLow   : Nat
  deriving DecidableEq, Repr

/-- R127. -/
structure CueEntry where
  position : Nat
  cls      : ToneClass
  confirms : Nat
  slot     : Option Nat
  deriving DecidableEq, Repr

structure CueMap where
  entries    : List CueEntry
  debt       : Nat
  queueLen   : Nat
  queueAsked : Bool
  deriving DecidableEq, Repr

/-! ## Protect Unit (chapter 9) -/

/-- Section 9.1. -/
inductive Cause where
  | housingOvertemp | gateOvertemp | trayJam | gateJam | homeFail | fanStall | lampOvercurrent
  deriving DecidableEq, Repr

/-- An entry of the fault stack (R145). -/
structure FaultEntry where
  cause : Cause
  level : Nat
  time  : Nat
  deriving DecidableEq, Repr

/-- The activity of the four live causes (R142). -/
structure LiveActivity where
  housing  : Bool
  gate     : Bool
  fan      : Bool
  overcurrent : Bool
  deriving DecidableEq, Repr

/-- The last-fault record (R146). -/
structure LastFault where
  cause    : Option Cause
  level    : Nat
  stacked  : Bool
  time     : Nat
  raises   : Nat
  restarts : Nat
  deriving DecidableEq, Repr

/-- The fault stack is held newest first. -/
structure Protect where
  pl     : Nat
  stack  : List FaultEntry
  active : LiveActivity
  last   : LastFault
  deriving DecidableEq, Repr

/-! ## Show Link Port (chapter 11) -/

/-- The result codes of section 11.3. -/
inductive ResultCode where
  | accepted | full | badSlot | badArg | locked | plProtected | noTape | unknownCue | busy | notHome | stillActive
  | unknownCommand | standby | lockout
  deriving DecidableEq, Repr

/-- The two commands sent as continuation sequences (R174). -/
inductive SeqCommand where
  | lawTable | scanSlot
  deriving DecidableEq, Repr

/-- The pending continuation sequence (R174). -/
structure PendingSeq where
  command   : SeqCommand
  broadcast : Bool
  bytes     : List Byte
  due       : Nat
  replyBits : List Bool
  deriving DecidableEq, Repr

/-- The eight attention flags (R180). -/
structure Attention where
  completion : Bool
  fault      : Bool
  limit      : Bool
  cuemap     : Bool
  lamp       : Bool
  counter    : Bool
  syncTape   : Bool
  showStore  : Bool
  deriving DecidableEq, Repr

/-- `rxFrame` is empty while the port hunts; `reply` is empty while the line driver is off. `resetDue` stands from
RESET-PART to its link reset, `resetPins` holds the inputs of a link reset that has begun and waits (R173, R186). -/
structure LinkPort where
  strap      : BitVec 5
  rxFrame    : List Byte
  seq        : Option PendingSeq
  errCount   : Nat
  showMode   : Bool
  silenceDue : Option Nat
  flags      : Attention
  partner    : Option Nat
  following  : Bool
  reply      : List Byte
  resetDue   : Bool
  resetPins  : Option Pins
  deriving DecidableEq, Repr

/-! ## Remote/Panel Interface (chapter 10) -/

/-- The eight handset keys (section 10.1). -/
inductive HandsetKey where
  | fwd | rev | hold | resume | mark | back | focusIn | focusOut
  deriving DecidableEq, Repr

/-- The focus motor outputs (R161). -/
inductive FocusMotor where
  | off | inward | outward
  deriving DecidableEq, Repr

/-- A panel key's debounced state and inert mark (R164). -/
structure PanelKeyState where
  pressed : Bool
  inert   : Bool
  deriving DecidableEq, Repr

structure PanelKeys where
  fwd   : PanelKeyState
  rev   : PanelKeyState
  home  : PanelKeyState
  lamp  : PanelKeyState
  tape  : PanelKeyState
  hold  : PanelKeyState
  power : PanelKeyState
  deriving DecidableEq, Repr

structure RemotePanel where
  held        : Option HandsetKey
  releaseDue  : Option Nat
  autoDue     : Option Nat
  inert       : Bool
  presenceDue : Option Nat
  handsetBits : Option (List Bool)
  focus       : FocusMotor
  focusDue    : Option Nat
  keys        : PanelKeys
  longDue     : Option Nat
  resetEnd    : Option Nat
  deriving DecidableEq, Repr

/-! ## Usage Counters and Store (chapter 12) -/

/-- A usage counter and its overflow flag (R182). -/
structure Counter where
  value    : Nat
  overflow : Bool
  deriving DecidableEq, Repr

/-- The eight counters in index order (section 12.1). -/
structure Counters where
  lampFem  : Counter
  lampMin  : Counter
  changes  : Counter
  jams     : Counter
  fanMin   : Counter
  tapeMin  : Counter
  cues     : Counter
  syncErrs : Counter
  deriving DecidableEq, Repr

structure Usage where
  counters  : Counters
  femAcc    : Nat
  lampAcc   : Nat
  fanAcc    : Nat
  tapeAcc   : Nat
  uptime    : Nat
  secondDue : Nat
  deriving DecidableEq, Repr

/-- The stored configuration items, items 0 to 33 of section 12.4, in the table's order. -/
structure Items where
  traySize      : Nat
  skipEmpty     : Bool
  autoHome      : Bool
  dipPolicy     : Bool
  dipLevel      : Nat
  dipTime       : Nat
  restoreTime   : Nat
  stickyLock    : Bool
  autoAtStart   : Bool
  defaultDwell  : Nat
  ecoCeiling    : Nat
  derateStart   : Nat
  derateEnd     : Nat
  derateFloor   : Nat
  guardLimit    : Nat
  filmCeiling   : Nat
  protectGuard  : Nat
  preheat       : Nat
  soundAtStart  : Nat
  partnerAtStart : Option Nat
  followAtStart : Bool
  fanStart      : Nat
  fanFull       : Nat
  coolTemp      : Nat
  lampOnMin     : Nat
  cooldownMin   : Nat
  cooldownTime  : Nat
  homeOnStandby : Bool
  tolerance     : Nat
  preroll       : Nat
  autoResync    : Bool
  lockoutRestart : Bool
  silenceTime   : Nat
  lampLife      : Nat
  deriving DecidableEq, Repr

/-- The configuration part of the store image (R186). -/
structure StoredConfig where
  items : Items
  law   : List Nat
  slots : List SlotConfig
  deriving DecidableEq, Repr

/-- The five persisted counters with their flags (section 12.1). -/
structure Persisted where
  lampFem : Counter
  lampMin : Counter
  changes : Counter
  jams    : Counter
  fanMin  : Counter
  deriving DecidableEq, Repr

/-- The store image (R185, R186). -/
structure Image where
  config   : StoredConfig
  counters : Persisted
  deriving DecidableEq, Repr

/-- The store: its image, whether the checksum is good, the store state (R186, R187) and the waiting counter save. A
save is in progress exactly while `saving` is present. -/
structure Store where
  image         : Image
  good          : Bool
  factoryLoaded : Bool
  saving        : Option Image
  saveDue       : Option Nat
  waiting       : Bool
  deriving DecidableEq, Repr

end Sys2Proof.Machine
end

