-- ==== Sys2Proof/Machine/Factory.lean ====
section
/-! DEFINITION. Times, factory defaults and the values each block takes at a reset, block by block from the reset tables
of the chapters. -/

namespace Sys2Proof.Machine

/-! ## Times, in microseconds of the clock -/

def ms (n : Nat) : Nat := n * 1000
def tenths (n : Nat) : Nat := n * 100000
def secs (n : Nat) : Nat := n * 1000000

/-! ## Factory configuration -/

/-- The factory defaults of section 12.4. -/
def factoryItems : Items where
  traySize := 96
  skipEmpty := false
  autoHome := true
  dipPolicy := true
  dipLevel := 50
  dipTime := 1
  restoreTime := 2
  stickyLock := false
  autoAtStart := false
  defaultDwell := 80
  ecoCeiling := 700
  derateStart := 700
  derateEnd := 900
  derateFloor := 400
  guardLimit := 180000
  filmCeiling := 350
  protectGuard := 500
  preheat := 30
  soundAtStart := 800
  partnerAtStart := none
  followAtStart := false
  fanStart := 350
  fanFull := 750
  coolTemp := 450
  lampOnMin := 60
  cooldownMin := 40
  cooldownTime := 120
  homeOnStandby := true
  tolerance := 12
  preroll := 8
  autoResync := true
  lockoutRestart := false
  silenceTime := 5
  lampLife := 3000

/-- The factory lamp law table (R53). -/
def factoryLaw : List Nat := [1000, 880, 800, 730, 665, 600, 535, 465, 390, 300, 150]

/-- The factory scan slot configuration (R91). -/
def factorySlots : List SlotConfig :=
  [ ⟨0, true, 0, 0, 950, .housing⟩, ⟨1, true, 0, 0, 1200, .gate⟩, ⟨2, true, 0, 300, 3800, .lampCurrent⟩,
    ⟨3, true, 0, 2600, 4095, .supply⟩, ⟨4, true, 0, 200, 4095, .cueLevel⟩, ⟨5, false, 0, 0, 4095, .none⟩,
    ⟨5, false, 0, 0, 4095, .none⟩, ⟨5, false, 0, 0, 4095, .none⟩ ]

def factoryConfig : StoredConfig := ⟨factoryItems, factoryLaw, factorySlots⟩

/-! ## Reset values, block by block -/

/-- A map entry with its presets absent (R2, R3). -/
def freshEntry : TrayEntry := ⟨.unseen, false, none, none⟩

/-- The map of a tray of n slots, as R2 makes it. -/
def freshMap (n : Nat) : List TrayEntry := List.replicate n freshEntry

/-- R22, table: the changer after power-on reset and link reset, before a homing is started. -/
def changerAfterReset (traySize : Nat) (pins : Pins) : Changer where
  state := .lost
  position := none
  map := freshMap traySize
  record := none
  jamClear := false
  homingLift := false
  stageDue := none
  trayPresent := pins.trayPresent
  drive := none
  lift := false
  dropRelease := false
  sense := pins.sense

def noQueues : Queues := ⟨[], [], [], [], []⟩

/-- Section 2.9. -/
def arbiterAfterReset (items : Items) : Arbiter where
  queues := noQueues
  priority := ⟨7, 7, 7, 7, 7⟩
  lock := false
  stack := []
  autoMode := items.autoAtStart
  dwellDue := none
  hold := false
  shadow := none
  completions := []

/-- A channel standing STEADY at a level (R42). -/
def steadyChannel (level : Nat) : FadeChannel := ⟨level, level, level, 0, 0, .steady, none, none⟩

/-- R42, R65, R71. -/
def fadeAfterReset (items : Items) : FadeEngine := ⟨steadyChannel 0, steadyChannel items.soundAtStart, none⟩

/-- Section 3.10. -/
def lampAfterReset (now : Nat) : LampDrive where
  switch := .off
  cycled := false
  failed := false
  failCount := 0
  guardAcc := 0
  guardEngaged := false
  guardDue := now + ms 100
  mainsNormal := false
  halfPeriod := none
  invalidRun := 0
  validRun := 0
  lastCrossing := none
  firingDue := none
  lastPulse := none

/-- Section 5.9: `cooling` starts a cooldown at the reset (R83), `warning` is the warning that stands after it. The
stall timer starts at once, since the duty is 100, unless the warning stands (R81). -/
def coolingAfterReset (now : Nat) (cooling warning : Bool) : Cooling where
  th := none
  lastTach := none
  speed := none
  stallDue := if warning then none else some (now + ms 1500)
  stalled := false
  darkStart := if cooling then some now else none
  power := .run
  offDue := none
  warning := warning

/-- A slot with its limit state as R95 leaves it at power-on reset and link reset. -/
def slotAfterReset (cfg : SlotConfig) : ScanSlot := ⟨cfg, none, false, false, false, false, 0, 0⟩

def scannerAfterReset (slots : List SlotConfig) : Scanner := ⟨slots.map slotAfterReset, none⟩

def noPause : PauseSet := ⟨false, false, false, false⟩

/-- Section 7.8. -/
def tapeAfterReset (pins : Pins) : Tape where
  state := if pins.cassettePresent then .stopped else .noCassette
  cassette := pins.cassettePresent
  counter := 0
  direction := .forward
  pause := noPause
  standing := ⟨false, false, false⟩
  tachDue := none
  seekTarget := none
  lastStop := .none

def idleTracker : Tracker := ⟨.idle, 0, 0, 0, 0, false⟩

def idleTrackers : Trackers := ⟨idleTracker, idleTracker, idleTracker, idleTracker⟩

/-- Section 7.8. -/
def decoderAfterReset (now : Nat) : CueDecoder := ⟨idleTrackers, none, now + ms 20, 0⟩

/-- R126. -/
def cueMapAfterReset : CueMap := ⟨[], 0, 0, false⟩

/-- R145, R146, R142. -/
def protectAfterReset : Protect := ⟨0, [], ⟨false, false, false, false⟩, ⟨none, 0, false, 0, 0, 0⟩⟩

def noAttention : Attention := ⟨false, false, false, false, false, false, false, false⟩

/-- R181; `badStore` raises STORE on the SHOW/STORE flag and `life` raises LAMP for the life mark (R180, R183). -/
def linkAfterReset (strap : BitVec 5) (items : Items) (badStore life : Bool) : LinkPort where
  strap := strap
  rxFrame := []
  seq := none
  errCount := 0
  showMode := false
  silenceDue := none
  flags := { noAttention with showStore := badStore, lamp := life }
  partner := items.partnerAtStart
  following := items.followAtStart && items.partnerAtStart.isSome
  reply := []
  resetDue := false
  resetPins := none

/-- A key found closed at a reset is pressed and inert (R164). -/
def keyAfterReset (closed : Bool) : PanelKeyState := ⟨closed, closed⟩

def keysAfterReset (i : PanelInputs) : PanelKeys where
  fwd := keyAfterReset i.fwd
  rev := keyAfterReset i.rev
  home := keyAfterReset i.home
  lamp := keyAfterReset i.lamp
  tape := keyAfterReset i.tape
  hold := keyAfterReset i.hold
  power := keyAfterReset i.power

/-- R157, R161, R163, R164; a handset frame in progress is dropped and the long-press timer is absent (log 52). -/
def panelAfterReset (now : Nat) (pins : Pins) : RemotePanel where
  held := none
  releaseDue := none
  autoDue := none
  inert := false
  presenceDue := none
  handsetBits := none
  focus := .off
  focusDue := none
  keys := keysAfterReset pins.keys
  longDue := none
  resetEnd := some now

def zeroCounter : Counter := ⟨0, false⟩

def zeroPersisted : Persisted := ⟨zeroCounter, zeroCounter, zeroCounter, zeroCounter, zeroCounter⟩

/-- R182: the persisted counters from the store, the others 0, accumulators and uptime 0. -/
def usageAfterReset (now : Nat) (p : Persisted) : Usage where
  counters := ⟨p.lampFem, p.lampMin, p.changes, p.jams, p.fanMin, zeroCounter, zeroCounter, zeroCounter⟩
  femAcc := 0
  lampAcc := 0
  fanAcc := 0
  tapeAcc := 0
  uptime := 0
  secondDue := now + secs 1

/-- The store state at load (R186): the image as it stands, its checksum tested. -/
def storeAfterLoad (image : Image) (good : Bool) : Store := ⟨image, good, !good, none, none, false⟩

/-- A store never written: its checksum fails, and its content is the factory configuration with zero counters
(DESIGN CHOICE, log 7). -/
def unwrittenImage : Image := ⟨factoryConfig, zeroPersisted⟩

def noKeysClosed : PanelInputs := ⟨false, false, false, false, false, false, false⟩

/-- The inputs State.reset is taken with: all inactive, the strap pins 0 (DESIGN CHOICE, log 6). -/
def quietPins : Pins where
  strap := 0#5
  trayPresent := false
  cassettePresent := false
  supplyFail := false
  supplyLost := true
  keys := noKeysClosed
  sense := ⟨false, false⟩

end Sys2Proof.Machine
end

