-- ==== Sys2Proof/Machine/State.lean ====
section
/-! DEFINITION. The state of the part: the thirteen blocks of 00_scope.md, the configuration, and the model's own clock,
free value counter and command queue. Fault and Refusal, and the state after reset. -/

namespace Sys2Proof.Machine

/-- The whole part. `items` and `law` are the configuration in force, `store` the nonvolatile image. `clock`,
`freeCount` and `pending` are the model's own (log 1, 13, 14). -/
structure State where
  changer   : Changer
  arb       : Arbiter
  fade      : FadeEngine
  lamp      : LampDrive
  cool      : Cooling
  scan      : Scanner
  tape      : Tape
  dec       : CueDecoder
  cue       : CueMap
  prot      : Protect
  link      : LinkPort
  panel     : RemotePanel
  usage     : Usage
  store     : Store
  items     : Items
  law       : List Nat
  clock     : Nat
  freeCount : Nat
  pending   : List Instr
  deriving DecidableEq, Repr

/-- Why a command stops the part. The manual gives no command that does: the type has no constructor. -/
inductive Fault where
  deriving DecidableEq, Repr

/-- Why a command is refused a meaning. -/
inductive Refusal where
  /-- Raised by exec for a row that has no meaning yet. Safe: the model stops where the part goes on. No row is left
  without a meaning, so no arm answers it. -/
  | notModelled (mnemonic : String)
  deriving DecidableEq, Repr

/-- The part right after a power-on reset (R186 and the reset tables of every chapter), with the inputs of log 6 and a
store never written (log 7). The manual fixes every other field. -/
def State.reset : State where
  changer := changerAfterReset factoryItems.traySize quietPins
  arb := arbiterAfterReset factoryItems
  fade := fadeAfterReset factoryItems
  lamp := lampAfterReset 0
  cool := coolingAfterReset 0 false false
  scan := scannerAfterReset factorySlots
  tape := tapeAfterReset quietPins
  dec := decoderAfterReset 0
  cue := cueMapAfterReset
  prot := protectAfterReset
  link := linkAfterReset quietPins.strap factoryItems true false
  panel := panelAfterReset 0 quietPins
  usage := usageAfterReset 0 zeroPersisted
  store := storeAfterLoad unwrittenImage false
  items := factoryItems
  law := factoryLaw
  clock := 0
  freeCount := 0
  pending := []

end Sys2Proof.Machine
end

