-- ==== Sys2Proof/Machine/Operands.lean ====
section
/-! DEFINITION. Operand forms: the argument bytes of a frame read as numbers and flag bits, and numbers written as the
bytes of a reply, high byte first (section 11.3). -/

namespace Sys2Proof.Machine

/-! ## Reading arguments -/

/-- Argument byte i as a number. -/
def arg (args : List Byte) (i : Nat) : Nat := (args.getD i 0#8).toNat

/-- The two-byte field at i. -/
def arg2 (args : List Byte) (i : Nat) : Nat := arg args i * 256 + arg args (i + 1)

/-- The four-byte field at i. -/
def arg4 (args : List Byte) (i : Nat) : Nat := arg2 args i * 65536 + arg2 args (i + 2)

/-- Request flags: bit 0 NO-DIP, bit 1 WAIT-FADE, bit 2 NO-PUSH. -/
def flagNoDip (flags : Nat) : Bool := flags.testBit 0
def flagWaitFade (flags : Nat) : Bool := flags.testBit 1
def flagNoPush (flags : Nat) : Bool := flags.testBit 2

/-- Fade flags: bit 0 WAIT-CHANGE. -/
def flagWaitChange (flags : Nat) : Bool := flags.testBit 0

/-- The four-byte value that stands for "none" or "absent" in SET (section 12.4). -/
def absent4 : Nat := 0xFFFFFFFF

/-- A SET value as an optional number. -/
def optOfValue (v : Nat) : Option Nat := if v = absent4 then none else some v

/-- A channel argument of FADE: 0 LAMP, 1 AUDIO. -/
def channelOfCode (n : Nat) : Option Channel :=
  if n = 0 then some .lamp else if n = 1 then some .audio else none

/-- The switch argument of LAMP: 0 OFF, 1 ECO, 2 FULL. -/
def switchOfCode (n : Nat) : Option LampSwitch :=
  if n = 0 then some .off else if n = 1 then some .eco else if n = 2 then some .full else none

/-- The role codes of SCAN-SLOT. -/
def roleOfCode (n : Nat) : Option Role :=
  if n = 0 then some .none else if n = 1 then some .housing else if n = 2 then some .gate
  else if n = 3 then some .lampCurrent else if n = 4 then some .supply else if n = 5 then some .cueLevel else none

/-! ## Writing reply fields -/

def b1 (n : Nat) : List Byte := [BitVec.ofNat 8 n]
def b2 (n : Nat) : List Byte := [BitVec.ofNat 8 (n / 256), BitVec.ofNat 8 n]
def b4 (n : Nat) : List Byte := b2 (n / 65536) ++ b2 n
def bBool (b : Bool) : List Byte := b1 b.toNat

/-- A field of one or two bytes that is sent as all ones when absent (section 11.3). -/
def opt1 (o : Option Nat) : List Byte := b1 (o.getD 0xFF)
def opt2 (o : Option Nat) : List Byte := b2 (o.getD 0xFFFF)

/-- Bits packed into a number, bit 0 first. -/
def packBits : List Bool → Nat
  | [] => 0
  | b :: bs => b.toNat + 2 * packBits bs

/-- The sum of bytes, not reduced. -/
def byteSum (bytes : List Byte) : Nat := bytes.foldl (fun n b => n + b.toNat) 0

/-- The check byte: the two's complement of the sum, modulo 256 (R170, section 11.3). -/
def checkByte (bytes : List Byte) : Byte := -(BitVec.ofNat 8 (byteSum bytes))

/-! ## Codes of section 11.3 -/

def ResultCode.code : ResultCode → Nat
  | .accepted => 0 | .full => 1 | .badSlot => 2 | .badArg => 3 | .locked => 4 | .plProtected => 5 | .noTape => 6
  | .unknownCue => 7 | .busy => 8 | .notHome => 9 | .stillActive => 10 | .unknownCommand => 11 | .standby => 12
  | .lockout => 13

def ChangerState.code : ChangerState → Nat
  | .idle => 0 | .dipping => 1 | .lift => 2 | .rotate => 3 | .returning => 4 | .drop => 5 | .settle => 6
  | .homing => 7 | .lost => 8 | .jammed => 9

def TransportState.code : TransportState → Nat
  | .noCassette => 0 | .stopped => 1 | .play => 2 | .paused => 3 | .fastFwd => 4 | .rewind => 5 | .seek => 6
  | .ended => 7

def PowerState.code : PowerState → Nat
  | .run => 0 | .coolingDown => 1 | .off => 2

def ChangeOutcome.code : ChangeOutcome → Nat
  | .done => 0 | .empty => 1 | .nothing => 2 | .restored => 3 | .jammed => 4 | .aborted => 5

def LampSwitch.code : LampSwitch → Nat
  | .off => 0 | .eco => 1 | .full => 2

def FadeState.code : FadeState → Nat
  | .steady => 0 | .ramping => 1 | .pending => 2 | .dipped => 3

/-- The motion direction byte of the tape status: the codes of STEP's argument (section 11.3; log 50). -/
def Direction.code : Direction → Nat
  | .forward => 0 | .reverse => 1

def StopCause.code : StopCause → Nat
  | .none => 0 | .command => 1 | .leader => 2 | .trailer => 3 | .tapeJam => 4 | .seekArrived => 5 | .standby => 6
  | .lockout => 7 | .supplyFail => 8

def ToneClass.code : ToneClass → Nat
  | .a => 0 | .b => 1 | .c => 2 | .d => 3

def Role.code : Role → Nat
  | .none => 0 | .housing => 1 | .gate => 2 | .lampCurrent => 3 | .supply => 4 | .cueLevel => 5

/-- The cause numbers of section 9.1. -/
def Cause.number : Cause → Nat
  | .housingOvertemp => 1 | .gateOvertemp => 2 | .trayJam => 3 | .gateJam => 4 | .homeFail => 5 | .fanStall => 6
  | .lampOvercurrent => 7

end Sys2Proof.Machine
end

