-- ==== Sys2Proof/Machine/Flags.lean ====
section
/-! DEFINITION. The attention flags of the Show Link Port (R178, R180) and the usage counters' overflow flags (R182). -/

namespace Sys2Proof.Machine

/-- The eight attention flags, in the bit order of reply byte 7. -/
inductive AttentionFlag where
  | completion | fault | limit | cuemap | lamp | counter | syncTape | showStore
  deriving DecidableEq, Repr

def Attention.get (a : Attention) : AttentionFlag → Bool
  | .completion => a.completion | .fault => a.fault | .limit => a.limit | .cuemap => a.cuemap | .lamp => a.lamp
  | .counter => a.counter | .syncTape => a.syncTape | .showStore => a.showStore

def Attention.put (a : Attention) (f : AttentionFlag) (v : Bool) : Attention :=
  match f with
  | .completion => { a with completion := v }
  | .fault => { a with fault := v }
  | .limit => { a with limit := v }
  | .cuemap => { a with cuemap := v }
  | .lamp => { a with lamp := v }
  | .counter => { a with counter := v }
  | .syncTape => { a with syncTape := v }
  | .showStore => { a with showStore := v }

/-- Reply byte 7. -/
def Attention.byte (a : Attention) : Nat :=
  packBits [a.completion, a.fault, a.limit, a.cuemap, a.lamp, a.counter, a.syncTape, a.showStore]

/-- Raising a flag that is already raised changes nothing (R180). -/
def State.raiseFlag (f : AttentionFlag) (s : State) : State :=
  { s with link := { s.link with flags := s.link.flags.put f true } }

def State.clearFlag (f : AttentionFlag) (s : State) : State :=
  { s with link := { s.link with flags := s.link.flags.put f false } }

/-- Raise the flag if the condition holds. -/
def State.raiseFlagIf (b : Bool) (f : AttentionFlag) (s : State) : State := if b then s.raiseFlag f else s

/-- The flag that a READ item carries (R178). -/
def readFlag (item : Nat) : Option AttentionFlag :=
  if item = 1 then some .showStore else if item = 2 then some .lamp else if item = 4 then some .syncTape
  else if item = 5 then some .limit else if item = 6 then some .fault else if item = 7 then some .cuemap else none

/-! ## Usage counters -/

/-- The largest value of a counter (R182). -/
def counterMax : Nat := 4294967295

/-- A gain of 1: at the maximum the counter wraps to 0 and its overflow flag is set (R182). -/
def Counter.gain (c : Counter) : Counter :=
  if c.value ≥ counterMax then ⟨0, true⟩ else { c with value := c.value + 1 }

/-- The eight counters by index (section 12.1). -/
inductive CounterIndex where
  | lampFem | lampMin | changes | jams | fanMin | tapeMin | cues | syncErrs
  deriving DecidableEq, Repr

def Counters.get (c : Counters) : CounterIndex → Counter
  | .lampFem => c.lampFem | .lampMin => c.lampMin | .changes => c.changes | .jams => c.jams | .fanMin => c.fanMin
  | .tapeMin => c.tapeMin | .cues => c.cues | .syncErrs => c.syncErrs

def Counters.put (c : Counters) (i : CounterIndex) (v : Counter) : Counters :=
  match i with
  | .lampFem => { c with lampFem := v }
  | .lampMin => { c with lampMin := v }
  | .changes => { c with changes := v }
  | .jams => { c with jams := v }
  | .fanMin => { c with fanMin := v }
  | .tapeMin => { c with tapeMin := v }
  | .cues => { c with cues := v }
  | .syncErrs => { c with syncErrs := v }

def counterOfIndex (n : Nat) : Option CounterIndex :=
  if n = 0 then some .lampFem else if n = 1 then some .lampMin else if n = 2 then some .changes
  else if n = 3 then some .jams else if n = 4 then some .fanMin else if n = 5 then some .tapeMin
  else if n = 6 then some .cues else if n = 7 then some .syncErrs else none

def State.putCounter (i : CounterIndex) (v : Counter) (s : State) : State :=
  { s with usage := { s.usage with counters := s.usage.counters.put i v } }

/-- A counter gains 1; a wrap raises COUNTER (R182). -/
def State.gainCounter (i : CounterIndex) (s : State) : State :=
  let c := s.usage.counters.get i
  (s.putCounter i c.gain).raiseFlagIf (decide (counterMax ≤ c.value)) .counter

/-- Gain 1 if the condition holds. -/
def State.gainCounterIf (b : Bool) (i : CounterIndex) (s : State) : State := if b then s.gainCounter i else s

end Sys2Proof.Machine
end

