-- ==== Sys2Proof/Machine/Levels.lean ====
section
/-! DEFINITION. What is computed from the state and never stored: ramps, ceilings, the effective level, the drive, the
lamp law, the fan, the sound output, the scan rate, the display (chapters 3, 5, 6, 7 and 10; log 33). -/

namespace Sys2Proof.Machine

/-! ## Ramps (R43, R44) -/

/-- A level above 1000 is clamped to 1000 (R43). -/
def clampLevel (l : Nat) : Nat := min l 1000

/-- L0 + trunc(D × k / N), D = L1 − L0 (R44). -/
def rampLevel (l0 l1 k n : Nat) : Nat :=
  ((l0 : Int) + Int.tdiv (((l1 : Int) - (l0 : Int)) * (k : Int)) (n : Int)).toNat

/-- Take a fade to a level over t tenths of a second (R43). The pending fade is the caller's concern. -/
def FadeChannel.rampTo (now l t : Nat) (c : FadeChannel) : FadeChannel :=
  if 10 * t = 0 then
    { c with start := c.level, level := l, target := l, steps := 0, count := 0, state := .steady, stepDue := none }
  else
    { c with start := c.level, target := l, steps := 10 * t, count := 0, state := .ramping,
             stepDue := some (now + ms 10) }

/-- Whether a ramp runs: in RAMPING, or under PENDING or DIPPED until its last step (R44, R63, R68). -/
def FadeChannel.running (c : FadeChannel) : Bool := c.count < c.steps && c.state != .steady

/-- One ramp step (R44). Only a RAMPING channel becomes STEADY at k = N (R63, R68). -/
def FadeChannel.stepRamp (now : Nat) (c : FadeChannel) : FadeChannel :=
  let k := c.count + 1
  { c with count := k
           level := rampLevel c.start c.target k c.steps
           state := if k ≥ c.steps ∧ c.state = .ramping then .steady else c.state
           stepDue := if k ≥ c.steps then none else some (now + ms 10) }

/-! ## Ceilings, effective level and drive (R46 to R52) -/

/-- R47. -/
def State.switchCeiling (s : State) : Nat :=
  match s.lamp.switch with
  | .off => 0
  | .eco => s.items.ecoCeiling
  | .full => 1000

/-- R48. -/
def derateOf (it : Items) (th : Nat) : Nat :=
  if th ≤ it.derateStart then 1000
  else if it.derateEnd ≤ th then it.derateFloor
  else 1000 - ((1000 - it.derateFloor) * (th - it.derateStart)) / (it.derateEnd - it.derateStart)

/-- R48: Cf until the first HOUSING result. -/
def State.derateCeiling (s : State) : Nat :=
  match s.cool.th with
  | none => s.items.derateFloor
  | some th => derateOf s.items th

/-- R50. -/
def State.filmCeiling (s : State) : Nat := if s.lamp.guardEngaged then s.items.filmCeiling else 1000

/-- R51. -/
def State.protectCeiling (s : State) : Nat :=
  if s.prot.pl = 0 then 1000 else if s.prot.pl = 1 then s.items.protectGuard else 0

/-- R51. -/
def State.failedCeiling (s : State) : Nat := if s.lamp.failed then 0 else 1000

/-- The least of the five ceilings (R46). -/
def State.ceiling (s : State) : Nat :=
  min s.switchCeiling (min s.derateCeiling (min s.filmCeiling (min s.protectCeiling s.failedCeiling)))

/-- Which ceiling sets C, the first in the order switch, derate, film guard, protect, failed (R60). -/
def State.ceilingSetter (s : State) : Nat :=
  if s.switchCeiling = s.ceiling then 0 else if s.derateCeiling = s.ceiling then 1
  else if s.filmCeiling = s.ceiling then 2 else if s.protectCeiling = s.ceiling then 3 else 4

/-- The effective level E (R46). -/
def State.effective (s : State) : Nat := min s.fade.lamp.level s.ceiling

/-- The drive (R52). -/
def State.drive (s : State) : Nat :=
  if s.lamp.switch = .full ∧ s.lamp.failed = false ∧ s.prot.pl < 2 then max s.effective s.items.preheat
  else s.effective

/-- The lamp state reported outside the part (section 3.6). -/
def State.lampStateCode (s : State) : Nat :=
  if s.lamp.failed then 2 else if s.lamp.mainsNormal then 0 else 1

/-- Whether the lamp state is NORMAL. -/
def State.lampNormal (s : State) : Bool := !s.lamp.failed && s.lamp.mainsNormal

/-! ## The lamp law and the firing delay (R54, R56) -/

/-- The per-mille delay of a drive of 1 to 1000 (R54). -/
def lawDelay (w : List Nat) (x : Nat) : Nat :=
  if 1000 ≤ x then w.getD 10 0
  else
    let i := x / 100
    w.getD i 0 - ((w.getD i 0 - w.getD (i + 1) 0) * (x - 100 * i)) / 100

/-- The firing delay in microseconds, moved to H − 200 when later (R56). -/
def firingDelay (w : List Nat) (x h : Nat) : Nat := min (lawDelay w x * h / 1000) (h - 200)

/-! ## The film guard (R49, R50) -/

/-- G after a guard tick at effective level e. -/
def guardStep (it : Items) (g e : Nat) : Nat := min (g + e - it.filmCeiling) it.guardLimit

/-- The guard after G has taken a value: engaged at Gmax, released at or below Gmax × 3 div 4, else as it was. -/
def guardLatch (it : Items) (engaged : Bool) (g : Nat) : Bool :=
  if g = it.guardLimit then true else if g ≤ it.guardLimit * 3 / 4 then false else engaged

/-! ## The fan (R77 to R79) -/

/-- R77. -/
def demandOf (it : Items) (th : Nat) : Nat :=
  if th < it.fanStart then 0
  else if it.fanFull ≤ th then 100
  else 30 + (70 * (th - it.fanStart)) / (it.fanFull - it.fanStart)

/-- R77: 100 until the first HOUSING result. -/
def State.fanDemand (s : State) : Nat :=
  match s.cool.th with
  | none => 100
  | some th => demandOf s.items th

/-- Th above Tcool, and so treated until the first HOUSING result (R78). -/
def State.hotHousing (s : State) : Bool :=
  match s.cool.th with
  | none => true
  | some th => s.items.coolTemp < th

/-- The commanded duty (R78). -/
def State.duty (s : State) : Nat :=
  if 2 ≤ s.prot.pl then 100
  else if s.cool.power = .coolingDown ∧ s.hotHousing then 100
  else max s.fanDemand (max (if 0 < s.drive then s.items.lampOnMin else 0)
                            (if s.cool.darkStart.isSome then s.items.cooldownMin else 0))

/-- The fan output: held off while the warning stands (R79). -/
def State.fanOutput (s : State) : Nat := if s.cool.warning then 0 else s.duty

/-- The power-hold relay: released in OFF (R84). -/
def State.relay (s : State) : Bool := s.cool.power != .off

/-! ## Sound, motors and mutes (R59, R107, R118) -/

/-- The attenuation in half-decibel steps (R59). -/
def State.attenuation (s : State) : Nat := (1000 - s.fade.audio.level) * 96 / 1000

/-- R118. -/
def State.levelMute (s : State) : Bool := s.fade.audio.level == 0
def State.transportMute (s : State) : Bool := s.tape.state != .play
def State.muted (s : State) : Bool := s.levelMute || s.transportMute

/-- The capstan runs in PLAY alone; Off and Released are both false, not driven (R107; log 51). -/
def State.capstan (s : State) : Bool := s.tape.state == .play

/-- The reel drives (R107). -/
inductive Reels where
  | off | takeUpPlay | takeUpWind | supplyWind
  deriving DecidableEq, Repr

/-- R107. -/
def State.reels (s : State) : Reels :=
  match s.tape.state with
  | .play => .takeUpPlay
  | .fastFwd => .takeUpWind
  | .rewind => .supplyWind
  | .seek => if s.tape.direction = .forward then .takeUpWind else .supplyWind
  | _ => .off

/-! ## Scan rate (R94) -/

/-- Passes come every 50 ms while any of the three holds, every 500 ms otherwise. -/
def State.scanInterval (s : State) : Nat :=
  if 0 < s.drive ∨ s.cool.darkStart.isSome ∨ s.cool.power = .coolingDown then ms 50 else ms 500

/-- When the next pass starts: the interval in force after the last pass started, at once if that has passed or if no
pass has been made since a reset (R94, R95). -/
def State.scanDue (s : State) : Nat :=
  match s.scan.lastPass with
  | none => s.clock
  | some t => max s.clock (t + s.scanInterval)

/-! ## Conditions read across blocks -/

/-- The changer is free (R61). -/
def State.changerFree (s : State) : Bool := s.changer.state = .idle || s.changer.state = .lost

/-- The slot holding a role. -/
def State.slotOfRole (r : Role) (s : State) : Option ScanSlot := s.scan.slots.find? (fun sl => sl.cfg.role == r)

/-- The low-supply hold (R27, R104). -/
def State.lowSupplyHold (s : State) : Bool :=
  match s.slotOfRole .supply with
  | none => false
  | some sl => sl.lowCond

/-- The cue gate: the latest result against the low limit handed with it (R105, R120). -/
def State.cueGateOpen (s : State) : Bool :=
  match s.slotOfRole .cueLevel with
  | none => true
  | some sl =>
    match sl.result with
    | none => false
    | some r => s.dec.levelLow ≤ r

/-- The life mark (R183). -/
def State.lifeMark (s : State) : Bool := s.items.lampLife ≤ s.usage.counters.lampFem.value

/-- The dark time in microseconds, or absent (R82). -/
def State.darkTime (s : State) : Option Nat := s.cool.darkStart.map (fun t => s.clock - t)

/-- The map entry of a position; the gap has none (section 1.2). -/
def State.entryAt (p : Nat) (s : State) : Option TrayEntry := if p = 0 then none else s.changer.map[p - 1]?

/-! ## The display (R168) -/

/-- What the display shows: "E" and a cause number, "---", or the position. -/
inductive Display where
  | fault (cause : Nat) | unknown | position (p : Nat)
  deriving DecidableEq, Repr

/-- R168. -/
def State.display (s : State) : Display :=
  if 0 < s.prot.pl then .fault ((s.prot.stack.head?.map (fun e => e.cause.number)).getD 0)
  else match s.changer.position with
    | none => .unknown
    | some p => .position p

/-- A digit as its character. -/
def digitChar (n : Nat) : Char := Char.ofNat (48 + n % 10)

/-- The three characters of the display (R168): a position right-justified, unused places blank. -/
def Display.chars : Display → List Char
  | .fault n => ['E', ' ', digitChar n]
  | .unknown => ['-', '-', '-']
  | .position p =>
    [ if p < 100 then ' ' else digitChar (p / 100), if p < 10 then ' ' else digitChar (p / 10), digitChar p ]

end Sys2Proof.Machine
end

