-- ==== Sys2Proof/Machine/Ops.lean ====
section
/-! DEFINITION. Operations shared by the commands, first part: the clock, the transport and its pause reasons (chapter 7),
counter saves (chapter 12), fades, dip and restore (chapters 3 and 4), the lamp switch and the film guard. -/

namespace Sys2Proof.Machine

/-! ## The clock -/

/-- An event that says a moment has come brings the clock to that moment (log 2). -/
def State.reachAt (due : Nat) (s : State) : State := { s with clock := max s.clock due }

def State.reach (due : Option Nat) (s : State) : State :=
  match due with
  | none => s
  | some d => s.reachAt d

/-- A measured pulse comes `dt` microseconds after the clock's last value (log 34). -/
def State.elapse (dt : Nat) (s : State) : State := { s with clock := s.clock + dt }

/-! ## The transport (R107 to R115) -/

/-- PLAY and PAUSED, the playing condition (R111). -/
def TransportState.playing : TransportState → Bool
  | .play | .paused => true
  | _ => false

/-- The states in which the tach timer runs (R109). -/
def TransportState.driven : TransportState → Bool
  | .play | .fastFwd | .rewind | .seek => true
  | _ => false

/-- The decoding modes (R119). -/
inductive DecodingMode where
  | playSpeed | search | off
  deriving DecidableEq, Repr

/-- R119. -/
def TransportState.mode : TransportState → DecodingMode
  | .play | .paused => .playSpeed
  | .fastFwd | .rewind | .seek => .search
  | .stopped | .ended | .noCassette => .off

/-- The motion direction on entering a state (R107). -/
def TransportState.directionFrom (st : TransportState) (d : Direction) : Direction :=
  match st with
  | .play | .paused | .fastFwd => .forward
  | .rewind => .reverse
  | _ => d

/-- Every tracker IDLE (R123). -/
def State.resetTrackers (s : State) : State := { s with dec := { s.dec with trackers := idleTrackers } }

/-- Enter a transport state: the tach timer of R109, the emptying of the set of R111, the end of a seek of R115, and the
tracker reset of R123 at a change of decoding mode. -/
def State.setTransport (st : TransportState) (s : State) : State :=
  { s with
    tape := { s.tape with
      state := st
      direction := st.directionFrom s.tape.direction
      tachDue := if st.driven then some (s.clock + secs 1) else none
      pause := if st.playing then s.tape.pause else noPause
      seekTarget := if st = .seek then s.tape.seekTarget else none }
    dec := if st.mode = s.tape.state.mode then s.dec else { s.dec with trackers := idleTrackers } }

/-- The four pause reasons (section 7.2). -/
inductive PauseReason where
  | hold | queue | cueStop | safe
  deriving DecidableEq, Repr

def PauseSet.get (p : PauseSet) : PauseReason → Bool
  | .hold => p.hold | .queue => p.queue | .cueStop => p.cueStop | .safe => p.safe

def PauseSet.put (p : PauseSet) (r : PauseReason) (v : Bool) : PauseSet :=
  match r with
  | .hold => { p with hold := v }
  | .queue => { p with queue := v }
  | .cueStop => { p with cueStop := v }
  | .safe => { p with safe := v }

/-- CUE-STOP has no standing (R111). -/
def Standing.put (p : Standing) (r : PauseReason) (v : Bool) : Standing :=
  match r with
  | .hold => { p with hold := v }
  | .queue => { p with queue := v }
  | .cueStop => p
  | .safe => { p with safe := v }

/-- The set built at an entry to play (R111). -/
def Standing.toPause (p : Standing) : PauseSet := ⟨p.hold, p.queue, false, p.safe⟩

/-- Add a pause reason (R111, R112). -/
def State.addReason (r : PauseReason) (s : State) : State :=
  let s1 := { s with tape := { s.tape with standing := s.tape.standing.put r true } }
  if s.tape.state.playing then
    { s1 with tape := { s1.tape with pause := s1.tape.pause.put r true } }.setTransport .paused
  else s1

/-- Remove a pause reason (R111, R112). Only a reason that is in the set can let the tape go on. -/
def State.removeReason (r : PauseReason) (s : State) : State :=
  let s1 := { s with tape := { s.tape with standing := s.tape.standing.put r false } }
  if s.tape.state.playing ∧ s.tape.pause.get r = true then
    let s2 := { s1 with tape := { s1.tape with pause := s1.tape.pause.put r false } }
    if s2.tape.pause = noPause then s2.setTransport .play else s2
  else s1

/-- The three stops from other blocks, and TAPE STOP where the tape is not STOPPED (R113, R114). -/
def State.stopTape (cause : StopCause) (s : State) : State :=
  match s.tape.state with
  | .noCassette => s
  | .stopped => { s with tape := { s.tape with lastStop := cause } }
  | _ =>
    let s1 := s.setTransport .stopped
    { s1 with tape := { s1.tape with lastStop := cause } }

/-- Entry to play: the set is built from the standing reasons (R111). -/
def State.enterPlay (s : State) : State :=
  let set := s.tape.standing.toPause
  let s1 := s.setTransport (if set = noPause then .play else .paused)
  { s1 with tape := { s1.tape with pause := set } }

/-- The operations of the link TAPE command (R113). -/
inductive TapeOp where
  | play | stop | fastFwd | rewind
  deriving DecidableEq, Repr

def tapeOpOfCode (n : Nat) : Option TapeOp :=
  if n = 0 then some .play else if n = 1 then some .stop else if n = 2 then some .fastFwd
  else if n = 3 then some .rewind else none

/-- An operation on a transport with a cassette (R113). While the warning stands, no operation starts a motor (R114). -/
def State.tapeOp (op : TapeOp) (s : State) : State :=
  match op with
  | .stop =>
    match s.tape.state with
    | .noCassette | .stopped => s
    | _ => s.stopTape .command
  | .play =>
    if s.cool.warning then s else
    match s.tape.state with
    | .noCassette | .play => s
    | .paused => s.removeReason .cueStop
    | _ => s.enterPlay
  | .fastFwd =>
    if s.cool.warning then s else
    match s.tape.state with
    | .noCassette | .fastFwd => s
    | _ => s.setTransport .fastFwd
  | .rewind =>
    if s.cool.warning then s else
    match s.tape.state with
    | .noCassette | .rewind => s
    | _ => s.setTransport .rewind

/-- The counter stands at or beyond the seek target in the seek direction (R115). -/
def seekArrived (d : Direction) (counter target : Nat) : Bool :=
  match d with
  | .forward => target ≤ counter
  | .reverse => counter ≤ target

/-- Take a seek target (R115). -/
def State.beginSeek (target : Nat) (s : State) : State :=
  if s.tape.counter = target then
    let s1 := s.setTransport .stopped
    { s1 with tape := { s1.tape with lastStop := .seekArrived } }
  else
    { s with tape := { s.tape with
        seekTarget := some target
        direction := if s.tape.counter < target then .forward else .reverse } }.setTransport .seek

/-- One unit of travel, clamped at 0 and 65535 (R108). -/
def tapeMove (d : Direction) (n : Nat) : Nat :=
  match d with
  | .forward => min (n + 1) 65535
  | .reverse => n - 1

/-! ## Counter saves (R185) -/

/-- The persisted counters as they stand. -/
def State.persisted (s : State) : Persisted :=
  let c := s.usage.counters
  ⟨c.lampFem, c.lampMin, c.changes, c.jams, c.fanMin⟩

/-- The configuration in force (R187). -/
def State.runningConfig (s : State) : StoredConfig := ⟨s.items, s.law, s.scan.slots.map ScanSlot.cfg⟩

/-- Begin to write an image; a save takes up to 30 ms (R185). -/
def State.startSave (image : Image) (s : State) : State :=
  { s with store := { s.store with saving := some image, saveDue := some (s.clock + ms 30) } }

/-- A counter save keeps the image's configuration part as last written (R185). -/
def State.startCounterSave (s : State) : State := s.startSave ⟨s.store.image.config, s.persisted⟩

/-- A counter save is asked for: at once, or waiting while a save is in progress (R185). -/
def State.requestCounterSave (s : State) : State :=
  if s.store.saving.isSome then { s with store := { s.store with waiting := true } } else s.startCounterSave

/-! ## Fades (R43, R62 to R64, R67, R69 to R72) -/

def FadeEngine.channel (f : FadeEngine) : Channel → FadeChannel
  | .lamp => f.lamp
  | .audio => f.audio

def FadeEngine.putChannel (f : FadeEngine) (ch : Channel) (c : FadeChannel) : FadeEngine :=
  match ch with
  | .lamp => { f with lamp := c }
  | .audio => { f with audio := c }

def State.putChannel (ch : Channel) (c : FadeChannel) (s : State) : State :=
  { s with fade := s.fade.putChannel ch c }

/-- A plain fade, its level already clamped (R43, R63, R69, R72). On the LAMP channel it is also the override of an open
watch; a DIPPED channel keeps its ramp and level. Any pending fade of the channel is discarded. -/
def State.plainFade (ch : Channel) (l t : Nat) (s : State) : State :=
  let c := s.fade.channel ch
  let c' := if c.state = .dipped then { c with pending := none }
            else { c.rampTo s.clock l t with pending := none }
  let s1 := s.putChannel ch c'
  match ch with
  | .audio => s1
  | .lamp => { s1 with fade := { s1.fade with
                 watch := s1.fade.watch.map (fun w => { w with override := some ⟨l, t⟩ }) } }

/-- A fade carrying WAIT-CHANGE (R62, R63, R69). -/
def State.waitFade (ch : Channel) (l t : Nat) (s : State) : State :=
  if s.changerFree then s.plainFade ch l t
  else
    let c := s.fade.channel ch
    s.putChannel ch { c with pending := some ⟨l, t⟩, state := if c.state = .dipped then .dipped else .pending }

/-- A fade with or without WAIT-CHANGE, its level clamped first (R43, R62). -/
def State.takeFade (ch : Channel) (l t : Nat) (wait : Bool) (s : State) : State :=
  if wait then s.waitFade ch (clampLevel l) t else s.plainFade ch (clampLevel l) t

/-- The channel takes its pending fade as an ordinary fade (R64). -/
def State.takePending (ch : Channel) (s : State) : State :=
  let c := s.fade.channel ch
  match c.pending with
  | none => s
  | some f => s.putChannel ch { c.rampTo s.clock f.level f.time with pending := none }

/-- The changer has become free (R64). -/
def State.takePendings (s : State) : State := (s.takePending .lamp).takePending .audio

/-- A watch is opened at each grant of a change that runs (R66). -/
def State.openWatch (s : State) : State := { s with fade := { s.fade with watch := some ⟨false, none, none, none⟩ } }

/-- The dip (R67). -/
def State.takeDip (s : State) : State :=
  let c := s.fade.lamp
  { s with fade := { s.fade with
      lamp := { c.rampTo s.clock 0 s.items.dipTime with state := .dipped }
      watch := s.fade.watch.map (fun w =>
        { w with dipped := true, savedTarget := some c.target, restoreTime := some s.items.restoreTime }) } }

/-- The dip fade is complete: the dip ramp is at its end (R68). -/
def State.dipComplete (s : State) : Bool := s.fade.lamp.state = .dipped && s.fade.lamp.steps ≤ s.fade.lamp.count

/-- The lamp preset that applies at a change end (R70 case 2, R72). -/
def State.presetAt (final : Option Nat) (found : Bool) (s : State) : Option Nat :=
  if found then (final.bind (fun p => s.entryAt p)).bind TrayEntry.lampPreset else none

/-- Level and time of the restore, by the precedence of R70. -/
def State.restoreChoice (w : Watch) (final : Option Nat) (found : Bool) (s : State) : Fade :=
  match w.override with
  | some f => f
  | none =>
    ⟨(s.presetAt final found).getD (w.savedTarget.getD s.fade.lamp.target), w.restoreTime.getD s.items.restoreTime⟩

/-- What the LAMP channel does at a change end where it takes no pending fade (R70, R72). -/
def State.restoreLamp (w : Watch) (final : Option Nat) (found : Bool) (s : State) : State :=
  let c := s.fade.lamp
  if w.dipped then
    let f := s.restoreChoice w final found
    let c' := c.rampTo s.clock f.level f.time
    s.putChannel .lamp (if c.pending.isSome then { c' with state := .pending } else c')
  else if w.override.isSome then s
  else
    match s.presetAt final found with
    | none => s
    | some p => s.putChannel .lamp (c.rampTo s.clock p s.items.restoreTime)

/-- The change end as the Fade Engine takes it: final position, whether the last drop found a slide, and whether the
changer becomes free, when pending fades are taken in place of the restore (R64, R70, R72). The watch is closed. -/
def State.fadeChangeEnd (final : Option Nat) (found free : Bool) (s : State) : State :=
  let s1 :=
    if free ∧ s.fade.lamp.pending.isSome then s.takePending .lamp
    else match s.fade.watch with
      | none => s
      | some w => s.restoreLamp w final found
  let s2 := { s1 with fade := { s1.fade with watch := none } }
  if free then s2.takePending .audio else s2

/-! ## Lamp switch, lamp failure and film guard (R45, R49, R58) -/

/-- A write of the lamp switch, taking part in clearing FAILED (R45, R58). -/
def State.writeSwitch (v : LampSwitch) (s : State) : State :=
  let l := s.lamp
  let clears := l.failed ∧ l.cycled ∧ l.switch = .off ∧ v ≠ .off
  let marks := l.failed ∧ l.switch ≠ .off ∧ v = .off
  { s with lamp := { l with
      switch := v
      failed := if clears then false else l.failed
      cycled := if clears then false else if marks then true else l.cycled
      failCount := if clears then 0 else l.failCount } }

/-- LAMP-RESET clears FAILED and the mark (R58). -/
def State.clearFailed (s : State) : State :=
  if s.lamp.failed then { s with lamp := { s.lamp with failed := false, cycled := false, failCount := 0 } } else s

/-- G is zeroed when a drop finds a slide, which releases the guard (R14, R49). -/
def State.zeroGuard (s : State) : State := { s with lamp := { s.lamp with guardAcc := 0, guardEngaged := false } }

/-- G takes a value and the guard follows (R50). -/
def State.putGuard (g : Nat) (s : State) : State :=
  { s with lamp := { s.lamp with guardAcc := g, guardEngaged := guardLatch s.items s.lamp.guardEngaged g } }

end Sys2Proof.Machine
end

