-- ==== Sys2Proof/Machine/ArbiterOps.lean ====
section
/-! DEFINITION. Operations shared by the commands, second part: requests, queues, flushes, the completion list, the return
stack, hold and dwell (chapter 2), and the Cue Map's debt and QUEUE reason (sections 8.6). -/

namespace Sys2Proof.Machine

/-! ## Queues and requests (R23 to R26) -/

def Queues.get (q : Queues) : Source → List Request
  | .link => q.link | .cue => q.cue | .remote => q.remote | .panel => q.panel | .dwell => q.dwell

def Queues.put (q : Queues) (src : Source) (l : List Request) : Queues :=
  match src with
  | .link => { q with link := l }
  | .cue => { q with cue := l }
  | .remote => { q with remote := l }
  | .panel => { q with panel := l }
  | .dwell => { q with dwell := l }

/-- Section 2.1. -/
def Source.depth : Source → Nat
  | .link => 6 | .cue => 4 | .remote => 3 | .panel => 2 | .dwell => 1

/-- The sources in tie-break rank order (section 2.1). -/
def sourcesByRank : List Source := [.link, .cue, .remote, .panel, .dwell]

/-- A request with all flags clear and nothing carried (R24). -/
def plainRequest (kind : ReqKind) (src : Source) : Request := ⟨kind, none, src, false, false, false, none, none, false⟩

def State.putQueue (src : Source) (l : List Request) (s : State) : State :=
  { s with arb := { s.arb with queues := s.arb.queues.put src l } }

/-- The acceptance tests of R25 in order; none when the request passes all four. -/
def State.refuses (r : Request) (s : State) : Option ResultCode :=
  if s.cool.power = .coolingDown ∧ r.standby = false then some .standby
  else if 2 ≤ s.prot.pl then some .plProtected
  else if r.source = .link ∧ r.kind = .goto ∧ s.items.traySize < r.target.getD 0 then some .badSlot
  else if r.source.depth ≤ (s.arb.queues.get r.source).length then some .full
  else none

/-- A request joins its queue at the tail (R23). -/
def State.join (r : Request) (s : State) : State := s.putQueue r.source (s.arb.queues.get r.source ++ [r])

/-! ## Cue debt and the QUEUE reason (R137 to R139) -/

/-- An owed step: source CUE, flags clear, no reference (R139). -/
def owedStep : Request := plainRequest .stepFwd .cue

/-- One owed step is offered and the debt falls by 1, whether or not R25 drops it (R139). -/
def State.offerOwed (s : State) : State :=
  let s1 := if s.refuses owedStep = none then s.join owedStep else s
  { s1 with cue := { s1.cue with debt := s1.cue.debt - 1 } }

/-- Convert debt until the queue is full or the debt is 0 (R139). -/
def State.convertDebt : Nat → State → State
  | 0, s => s
  | n + 1, s =>
    if s.arb.queues.cue.length < 4 ∧ 0 < s.cue.debt then State.convertDebt n s.offerOwed else s

/-- Judge the QUEUE reason on the length that stands (R137 step 2). -/
def State.judgeQueue (s : State) : State :=
  let len := s.arb.queues.cue.length
  let s1 := { s with cue := { s.cue with queueLen := len } }
  if 4 ≤ len ∧ s.cue.queueAsked = false then
    { s1 with cue := { s1.cue with queueAsked := true } }.addReason .queue
  else if len ≤ 1 ∧ s.cue.queueAsked = true then
    { s1 with cue := { s1.cue with queueAsked := false } }.removeReason .queue
  else s1

/-- The CUE queue length is reported to the Cue Map (R23, R137). -/
def State.reportCue (s : State) : State := (State.convertDebt s.cue.debt s).judgeQueue

/-- A request is offered to the arbiter (R25): the state after, and ACCEPTED or the code of the test that failed. -/
def State.offer (r : Request) (s : State) : State × ResultCode :=
  match s.refuses r with
  | some code => (s, code)
  | none =>
    let s1 := s.join r
    (if r.source = .cue then s1.reportCue else s1, .accepted)

/-- A request offered by a source that hears no answer. -/
def State.offered (r : Request) (s : State) : State := (s.offer r).1

/-! ## Completion list and flushes (R40, R41) -/

/-- Adding to a list of 8 discards the oldest entry first; each addition raises COMPLETION (R40). -/
def State.addCompletion (c : Completion) (s : State) : State :=
  let l := s.arb.completions ++ [c]
  { s with arb := { s.arb with completions := l.drop (l.length - 8) } }.raiseFlag .completion

/-- The completion entry of a change or of a flush; only a LINK request makes one (R30, R41). -/
def State.completeRequest (r : Request) (o : ChangeOutcome) (final : Option Nat) (s : State) : State :=
  if r.source = .link then s.addCompletion ⟨r.tag.getD 0#8, o, final⟩ else s

/-- The LINK queue is flushed, oldest first, with the current position (R41). -/
def State.flushLink (s : State) : State :=
  (s.arb.queues.link.foldl (fun t r => t.completeRequest r .aborted s.changer.position) s).putQueue .link []

/-- All five queues are flushed, and the new CUE queue length is reported (R41). -/
def State.flushAll (s : State) : State :=
  let s1 := s.flushLink
  { s1 with arb := { s1.arb with queues := noQueues } }.reportCue

/-! ## The return stack (R33, R34) -/

/-- Push onto the stack, newest first, discarding the oldest of six (R33). -/
def pushPosition (stack : List Nat) (p : Nat) : List Nat := (p :: stack).take 6

def State.pushStack (p : Nat) (s : State) : State :=
  { s with arb := { s.arb with stack := pushPosition s.arb.stack p } }

/-- MARK, ignored while the position is unknown (R34). -/
def State.markPosition (s : State) : State :=
  match s.changer.position with
  | none => s
  | some p => s.pushStack p

/-! ## Dwell and hold (R36 to R39) -/

def State.cancelDwell (s : State) : State := { s with arb := { s.arb with dwellDue := none } }

/-- The duration of the dwell timer at a position, in microseconds: none unless the entry is IN-GATE and the duration is
above 0 (R37). -/
def State.dwellTime (p : Nat) (s : State) : Option Nat :=
  match s.entryAt p with
  | none => none
  | some e =>
    if e.state = .inGate then
      match e.dwellPreset with
      | some d => some (tenths d)
      | none => if s.items.defaultDwell = 0 then none else some (tenths s.items.defaultDwell)
    else none

/-- Start the dwell timer, or prime the shadow during hold, with auto mode on (R37, R38). -/
def State.startDwell (s : State) : State :=
  match s.arb.autoMode, s.changer.position.bind (fun p => s.dwellTime p) with
  | true, some d =>
    if s.arb.hold then
      { s with arb := { s.arb with shadow := s.arb.shadow.map (fun h => { h with remainder := some d }) } }
    else { s with arb := { s.arb with dwellDue := some (s.clock + d) } }
  | _, _ => s

/-- HOLD (R38). -/
def State.takeHold (s : State) : State :=
  if s.arb.hold then s
  else
    { s with arb := { s.arb with
        hold := true
        shadow := some ⟨s.arb.dwellDue.map (fun d => d - s.clock), s.arb.autoMode⟩
        dwellDue := none } }.addReason .hold

/-- RESUME (R39). -/
def State.takeResume (s : State) : State :=
  if s.arb.hold then
    let sh := s.arb.shadow.getD ⟨none, s.arb.autoMode⟩
    { s with arb := { s.arb with
        hold := false
        autoMode := sh.auto
        dwellDue := match sh.remainder with
          | none => s.arb.dwellDue
          | some d => if sh.auto then some (s.clock + d) else s.arb.dwellDue
        shadow := none } }.removeReason .hold
  else s

/-- AUTO (R36). -/
def State.writeAuto (on : Bool) (s : State) : State :=
  let a := s.arb
  if a.hold then
    { s with arb := { a with
        autoMode := on
        dwellDue := if on then a.dwellDue else none
        shadow := a.shadow.map (fun h => ⟨if on then h.remainder else none, on⟩) } }
  else if on then
    let s1 := { s with arb := { a with autoMode := true } }
    if a.autoMode = false ∧ s.changer.state = .idle then s1.startDwell else s1
  else { s with arb := { a with autoMode := false, dwellDue := none } }

/-! ## Eligibility and the preferred head (R27, R28) -/

/-- R27. -/
def State.eligible (r : Request) (s : State) : Bool :=
  !((r.source = .cue || r.source = .dwell) && s.arb.hold) && !(r.waitFade && s.fade.lamp.state != .steady)
    && !s.lowSupplyHold

def Priorities.get (p : Priorities) : Source → Nat
  | .link => p.link | .cue => p.cue | .remote => p.remote | .panel => p.panel | .dwell => p.dwell

/-- The sources whose head is eligible, in rank order. -/
def State.readySources (s : State) : List Source :=
  sourcesByRank.filter (fun src =>
    match s.arb.queues.get src with
    | [] => false
    | r :: _ => s.eligible r)

/-- The source of numerically lowest priority, the first in rank order among equals (R28). -/
def bestSource (p : Priorities) : List Source → Option Source
  | [] => none
  | src :: rest =>
    match bestSource p rest with
    | none => some src
    | some other => if p.get src ≤ p.get other then some src else some other

/-- The source granted next, if the changer takes a grant and a head is eligible (R28). -/
def State.preferred (s : State) : Option Source :=
  if s.changerFree then bestSource s.arb.priority s.readySources else none

end Sys2Proof.Machine
end

