-- ==== Sys2Proof/Machine/ChangerOps.lean ====
section
/-! DEFINITION. Operations shared by the commands, third part: the Tray Changer (chapter 1) and the grant (chapter 2). -/

namespace Sys2Proof.Machine

/-! ## Positions and the map (R1, R4, R10, R11) -/

/-- One step on the ring of T + 1 positions (R1). -/
def ringStep (d : Direction) (t p : Nat) : Nat :=
  match d with
  | .forward => if t ≤ p then 0 else p + 1
  | .reverse => if p = 0 then t else p - 1

def Direction.opposite : Direction → Direction
  | .forward => .reverse
  | .reverse => .forward

/-- Direction and planned steps from p to q (R10). -/
def planRotation (t p q : Nat) : Direction × Nat :=
  let d := (q + (t + 1) - p) % (t + 1)
  if d ≤ t + 1 - d then (.forward, d) else (.reverse, t + 1 - d)

/-- Eligible for skip-empty stepping: the gap always, a slot unless EMPTY or skipped (R11). -/
def State.stepEligible (p : Nat) (s : State) : Bool :=
  match s.entryAt p with
  | none => true
  | some e => e.state != .empty && !e.skip

/-- Walk the ring to the first eligible position (R11). -/
def walkRing (eligible : Nat → Bool) (d : Direction) (t : Nat) : Nat → Nat → Nat
  | 0, p => p
  | n + 1, p => if eligible (ringStep d t p) then ringStep d t p else walkRing eligible d t n (ringStep d t p)

/-- The target of STEP-FWD or STEP-REV from p (R11). -/
def State.stepTarget (d : Direction) (p : Nat) (s : State) : Nat :=
  if s.items.skipEmpty then walkRing (fun q => s.stepEligible q) d s.items.traySize (s.items.traySize + 1) p
  else ringStep d s.items.traySize p

/-- Write the state of the entry of a position; the gap has none. -/
def putEntryState (p : Nat) (st : EntryState) (map : List TrayEntry) : List TrayEntry :=
  if p = 0 then map else map.modify (p - 1) (fun e => { e with state := st })

/-- Every entry UNSEEN, skip flags and presets kept (R4, R19). -/
def unseenMap (map : List TrayEntry) : List TrayEntry := map.map (fun e => { e with state := .unseen })

def State.putChanger (c : Changer) (s : State) : State := { s with changer := c }

/-- Write the state of the entry at the current position. -/
def State.markEntry (st : EntryState) (s : State) : State :=
  match s.changer.position with
  | none => s
  | some p => s.putChanger { s.changer with map := putEntryState p st s.changer.map }

/-- The motors are energised only while the supply-fail warning does not stand (R88; log 23). -/
def State.motorsAllowed (s : State) : Bool := !s.cool.warning

/-! ## Ends (R15 to R17, R19) -/

/-- The outputs off, the record discarded, and the changer in a state (R15). -/
def Changer.stopIn (c : Changer) (st : ChangerState) : Changer :=
  { c with state := st, record := none, jamClear := false, homingLift := false, stageDue := none,
           drive := none, lift := false, dropRelease := false }

/-- Enter LOST (R19): position unknown, every entry UNSEEN, the dwell timer cancelled (R37). Pending fades are the
caller's concern. -/
def State.enterLost (s : State) : State :=
  { s with changer := { s.changer.stopIn .lost with position := none, map := unseenMap s.changer.map } }.cancelDwell

/-- CHANGES and JAMS at the end of a granted change (R16). -/
def State.countChange (o : ChangeOutcome) (r : ChangeRecord) (s : State) : State :=
  (s.gainCounterIf (r.moved || o == .restored) .changes).gainCounterIf (o == .restored || o == .jammed) .jams

/-- The end of the change or homing in flight (R15): usage counters (unless `count` is clear, R22), the changer's state
after, the completion entry (R30), and the change end for the Fade Engine, which is handed the position that stood at
the end, so that a change ABORTED in SETTLE takes its slot's preset (R70). A jam clear that waits makes the changer LOST
in place of IDLE, with the position handed over as counted (R17). -/
def State.endChange (o : ChangeOutcome) (after : ChangerState) (count : Bool) (s : State) : State :=
  match s.changer.record with
  | none => s
  | some r =>
    let final := if after = .lost then none else s.changer.position
    let s1 := if count ∧ r.request.isSome then s.countChange o r else s
    let s2 := if after = .lost ∨ (after = .idle ∧ s.changer.jamClear) then s1.enterLost
              else s1.putChanger (s1.changer.stopIn after)
    let s3 := match r.request with
      | none => s2
      | some q => s2.completeRequest q o final
    s3.fadeChangeEnd s.changer.position r.found (after != .jammed)

/-- Tray removal, supply-fail warning, mechanism restart: what is in flight ends ABORTED, and the changer enters LOST
from any state (R20 to R22). -/
def State.abortToLost (count : Bool) (s : State) : State :=
  match s.changer.record with
  | none => s.enterLost.takePendings
  | some _ => s.endChange .aborted .lost count

/-- A jam is cleared (R17): LOST at once from IDLE or JAMMED, at the end of what is in flight otherwise. -/
def State.jamCleared (s : State) : State :=
  match s.changer.state with
  | .idle | .jammed => s.enterLost.takePendings
  | .lost => s
  | _ => s.putChanger { s.changer with jamClear := true }

/-! ## Stages (R9, R12 to R14) -/

def State.putRecord (r : ChangeRecord) (s : State) : State := s.putChanger { s.changer with record := some r }

/-- Enter SETTLE with an outcome (R14, R15). -/
def State.enterSettle (o : ChangeOutcome) (s : State) : State :=
  s.putChanger { s.changer with
    state := .settle, stageDue := some (s.clock + ms 40), drive := none, lift := false, dropRelease := false
    record := s.changer.record.map (fun r => { r with outcome := some o }) }

/-- Enter DROP (R14). -/
def State.enterDrop (s : State) : State :=
  s.putChanger { s.changer with
    state := .drop, stageDue := some (s.clock + ms 150), drive := none, lift := false
    dropRelease := s.motorsAllowed }

/-- The rotation has reached its end: DROP at a slot, SETTLE at the gap (R12, R13). -/
def State.arrive (o : ChangeOutcome) (s : State) : State :=
  if s.changer.position = some 0 then s.enterSettle o else s.enterDrop

/-- Enter ROTATE toward the record's target: direction and planned steps are fixed (R10, R12). -/
def State.startRotate (r : ChangeRecord) (p q : Nat) (s : State) : State :=
  let plan := planRotation s.items.traySize p q
  s.putChanger { s.changer with
    state := .rotate, stageDue := some (s.clock + ms 150), lift := false
    drive := if s.motorsAllowed then some plan.1 else none
    record := some { r with direction := some plan.1, planned := plan.2 } }

/-- LIFT is complete (R9): ROTATE if the target differs from the position, else SETTLE with DONE. -/
def State.liftDone (s : State) : State :=
  match s.changer.record, s.changer.position with
  | some r, some p =>
    match r.target with
    | some q => if q = p then s.enterSettle .done else s.startRotate r p q
    | none => s.enterSettle .done
  | _, _ => s

/-- Enter LIFT, reading the gate sensor (R9). -/
def State.startLift (s : State) : State :=
  if s.changer.sense.gateOccupied then
    s.putChanger { s.changer with state := .lift, stageDue := some (s.clock + ms 250), lift := s.motorsAllowed }
  else
    let s1 := match s.changer.position.bind (fun p => s.entryAt p) with
      | some e => if e.state = EntryState.inGate then s.markEntry .empty else s
      | none => s
    { s1 with changer := { s1.changer with state := .lift } }.liftDone

/-- Enter RETURNING (R13); with no step made the origin is reached at once. -/
def State.startReturn (r : ChangeRecord) (s : State) : State :=
  let r' := { r with restoring := true, stepsBack := r.stepsMade }
  if r.stepsMade = 0 then
    (s.putChanger { s.changer with state := .returning, record := some r' }).arrive .restored
  else
    s.putChanger { s.changer with
      state := .returning, stageDue := some (s.clock + ms 150), record := some r'
      drive := if s.motorsAllowed then r.direction.map Direction.opposite else none }

/-! ## Targets and resync (R7, R11, R135, R136) -/

/-- The position that a request asks for from p (R7 step 3, R11, R35). -/
def State.targetFrom (q : Request) (popped : Option Nat) (p : Nat) (s : State) : Nat :=
  match q.kind with
  | .stepFwd => s.stepTarget .forward p
  | .stepRev => s.stepTarget .reverse p
  | .goto => q.target.getD 0
  | .ret => popped.getD 0
  | .home => 0

/-- The expected slot with which a cue step is compared, when the test is made (R135). -/
def State.expectedSlot (q : Request) (s : State) : Option Nat :=
  if q.source = .cue ∧ q.kind = .stepFwd then
    match q.cueRef.bind (fun p => s.cue.entries.find? (fun e => e.position == p)) with
    | none => none
    | some e => e.slot.filter (fun t => decide (t ≤ s.items.traySize))
  else none

/-- Fix the target from a known position, with the resync test (R135, R136): the state with the mismatch counted, the
request as it runs, and the target. -/
def State.fixTarget (q : Request) (popped : Option Nat) (p : Nat) (s : State) : State × Request × Nat :=
  let tau := s.targetFrom q popped p
  match s.expectedSlot q with
  | none => (s, q, tau)
  | some slot =>
    if tau = slot then (s, q, tau)
    else
      let s1 := (s.gainCounter .syncErrs).raiseFlag .syncTape
      if s.items.autoResync then (s1, { q with kind := .goto, target := some slot, noPush := true }, slot)
      else (s1, q, tau)

/-! ## Homing (R18) -/

/-- A homing succeeds: the position is 0; a homing without a request ends, a granted change goes on at LIFT, which finds
the gate clear, or enters SETTLE when the target is 0. -/
def State.homingSuccess (s : State) : State :=
  match s.changer.record with
  | none => s
  | some r =>
    let s1 := s.putChanger { s.changer with
      position := some 0, drive := none, lift := false, homingLift := false, stageDue := none }
    match r.request with
    | none => s1.endChange .done .idle false
    | some q =>
      let (s2, q', target) := s1.fixTarget q r.popped 0
      (s2.putChanger { s2.changer with
        state := .lift
        record := some { r with request := some q', origin := some 0, target := some target } }).liftDone

/-- The search of a homing (R18 steps 2 and 3), with the gate clear. -/
def State.homingSearch (s : State) : State :=
  if s.changer.sense.homeMark then s.homingSuccess
  else s.putChanger { s.changer with
    homingLift := false, lift := false, stageDue := some (s.clock + ms 150)
    drive := if s.motorsAllowed then some .forward else none }

/-- Enter HOMING for the record in flight (R18 step 1). -/
def State.startHoming (s : State) : State :=
  let s1 := s.putChanger { s.changer with state := .homing, position := none }
  if s.changer.sense.gateOccupied then
    s1.putChanger { s1.changer with homingLift := true, lift := s.motorsAllowed, stageDue := some (s.clock + ms 250) }
  else s1.homingSearch

/-- A record as it is formed (R6). -/
def newRecord (q : Option Request) (origin target popped : Option Nat) : ChangeRecord :=
  ⟨q, origin, target, none, 0, 0, 0, false, false, 0, false, popped, none, false⟩

/-- A homing without a request (R5): the dwell timer is cancelled (R37). -/
def State.homeWithoutRequest (s : State) : State :=
  ({ s with changer := { s.changer with record := some (newRecord none none none none) } }.cancelDwell).startHoming

/-! ## The grant (R7, R8, R28, R29, R35) -/

/-- The dip conditions (R8). -/
def State.dipHolds (q : Request) (s : State) : Bool :=
  s.items.dipPolicy && !q.noDip && decide (s.items.dipLevel < s.effective)

/-- From DIPPING to HOMING or LIFT (R8). -/
def State.leaveDipping (s : State) : State :=
  match s.changer.position with
  | none => s.startHoming
  | some _ => s.startLift

/-- The first stage of a change that runs (R7 step 4, R8, R67, R68). -/
def State.firstStage (q : Request) (s : State) : State :=
  let s1 := s.openWatch
  if s.dipHolds q then
    let s2 := { s1.takeDip with changer := { s1.changer with state := .dipping } }
    if s2.dipComplete then s2.leaveDipping else s2
  else s1.leaveDipping

/-- A change that ends at grant (R7): the outcome and the position go to the arbiter, nothing moves. -/
def State.endAtGrant (q : Request) (o : ChangeOutcome) (s : State) : State := s.completeRequest q o s.changer.position

/-- The origin of a GOTO granted with the position known goes onto the return stack, unless it carries NO-PUSH, asks for
a target above T or asks for that position (R29). -/
def State.pushOrigin (q : Request) (s : State) : State :=
  match s.changer.position with
  | none => s
  | some p =>
    if q.kind = .goto ∧ q.noPush = false ∧ q.target.getD 0 ≤ s.items.traySize ∧ q.target.getD 0 ≠ p then s.pushStack p
    else s

/-- The changer's decision at grant (R7), with the push of a GOTO's origin, which the warning does not except (R29). -/
def State.decideGrant (q : Request) (popped : Option Nat) (s : State) : State :=
  if s.changer.trayPresent = false ∨ s.cool.warning = true then (s.pushOrigin q).endAtGrant q .aborted
  else if q.kind = .goto ∧ s.items.traySize < q.target.getD 0 then s.endAtGrant q .aborted
  else if q.kind = .ret ∧ popped = none then s.endAtGrant q .nothing
  else
    match s.changer.position with
    | none =>
      let s1 := s.putRecord (newRecord (some q) none none popped)
      s1.firstStage q
    | some p =>
      let (s1, q', target) := s.fixTarget q popped p
      if target = p then s1.endAtGrant q' .nothing
      else ((s1.pushOrigin q').putRecord (newRecord (some q') (some p) (some target) popped)).firstStage q'

/-- The arbiter's part of a grant (R28, R29): the head leaves its queue, the dwell timer is cancelled, the shadow's
remainder is discarded during hold, and a RETURN pops the stack (R35). -/
def State.takeHead (src : Source) (q : Request) (rest : List Request) (s : State) : State :=
  let s1 := s.putQueue src rest
  { s1 with arb := { s1.arb with
      dwellDue := none
      shadow := if s1.arb.hold then s1.arb.shadow.map (fun h => { h with remainder := none }) else s1.arb.shadow
      stack := if q.kind = .ret then s1.arb.stack.tail else s1.arb.stack } }

/-- The grant of the head of a source's queue (R28). The new CUE queue length is reported when it changed (R23). -/
def State.grantHead (src : Source) (q : Request) (rest : List Request) (s : State) : State :=
  let popped := if q.kind = .ret then s.arb.stack.head? else none
  let s1 := s.takeHead src q rest
  let s2 := if src = .cue then s1.reportCue else s1
  s2.decideGrant q popped

end Sys2Proof.Machine
end

