-- ==== Sys2Proof/Machine/ProtectOps.lean ====
section
/-! DEFINITION. Operations shared by the commands, fourth part: raising and clearing faults (chapter 9), standby entry
(chapter 5), and what follows at once from a change of drive, duty, life mark or OFF condition (chapters 3, 5, 12). -/

namespace Sys2Proof.Machine

/-! ## Keys at LOCKOUT (R149, R162, R164, R167) -/

/-- A key pressed when PL reaches 3 is inert (R164). -/
def PanelKeyState.lockout (k : PanelKeyState) : PanelKeyState := { k with inert := k.inert || k.pressed }

def PanelKeys.lockout (k : PanelKeys) : PanelKeys :=
  ⟨k.fwd.lockout, k.rev.lockout, k.home.lockout, k.lamp.lockout, k.tape.lockout, k.hold.lockout, k.power.lockout⟩

/-- The handset's held key is inert, its auto-step and focus run end, pressed panel keys are inert, and a long press
timer ends (R161, R162, R164, R167). -/
def State.lockKeys (s : State) : State :=
  { s with panel := { s.panel with
      inert := s.panel.inert || s.panel.held.isSome
      autoDue := none
      focus := .off
      focusDue := none
      keys := s.panel.keys.lockout
      longDue := none } }

/-! ## Raising (R142 to R149) -/

/-- The minimum levels of section 9.1. -/
def Cause.minLevel : Cause → Nat
  | .fanStall | .lampOvercurrent => 2
  | _ => 1

def LiveActivity.get (a : LiveActivity) : Cause → Bool
  | .housingOvertemp => a.housing | .gateOvertemp => a.gate | .fanStall => a.fan | .lampOvercurrent => a.overcurrent
  | _ => false

def LiveActivity.put (a : LiveActivity) (c : Cause) (v : Bool) : LiveActivity :=
  match c with
  | .housingOvertemp => { a with housing := v }
  | .gateOvertemp => { a with gate := v }
  | .fanStall => { a with fan := v }
  | .lampOvercurrent => { a with overcurrent := v }
  | _ => a

/-- The live causes in the order of their numbers (R152). -/
def liveCauses : List Cause := [.housingOvertemp, .gateOvertemp, .fanStall, .lampOvercurrent]

/-- PL′ of a raise (R143). -/
def raisedLevel (pl : Nat) (c : Cause) : Nat := min 3 (max (pl + 1) c.minLevel)

/-- The Protect Unit's own part of a raise: level, stack entry, last-fault record (R143, R146). -/
def Protect.record (c : Cause) (now : Nat) (p : Protect) : Protect :=
  let level := raisedLevel p.pl c
  let stacked := decide (p.pl < 3)
  { p with
    pl := if stacked then level else p.pl
    stack := if stacked then ⟨c, level, now⟩ :: p.stack else p.stack
    last := { p.last with cause := some c, level := level, stacked := stacked, time := now,
                          raises := min 255 (p.last.raises + 1) } }

/-- A raise, before PL is handed to the neighbours (R143, R146). -/
def State.recordRaise (c : Cause) (s : State) : State :=
  { s with prot := s.prot.record c s.usage.uptime }.raiseFlag .fault

/-- The acts of a rise from PL 0 or 1 to 2 or 3: debt zeroed, every queue flushed, SAFE added (R140, R148). -/
def State.crossToSafe (s : State) : State :=
  ({ s with cue := { s.cue with debt := 0 } }.flushAll).addReason .safe

/-- The acts of a rise to PL 3 (R149). -/
def State.crossToLockout (s : State) : State := (s.stopTape .lockout).lockKeys

/-- PL is handed to the neighbours: the acts of the crossings from the old level (R147 to R150). -/
def State.handPL (old : Nat) (s : State) : State :=
  let s1 := if old < 2 ∧ 2 ≤ s.prot.pl then s.crossToSafe
            else if 2 ≤ old ∧ s.prot.pl < 2 then s.removeReason .safe
            else s
  if old < 3 ∧ 3 ≤ s.prot.pl then s1.crossToLockout else s1

/-- A raise (R143). -/
def State.raise (c : Cause) (s : State) : State := (s.recordRaise c).handPL s.prot.pl

/-- A live cause is in the stack (R143, R144). -/
def stacked (c : Cause) (stack : List FaultEntry) : Bool := stack.any (fun e => e.cause == c)

/-- A live cause is reported active (R142 to R144). -/
def State.liveActive (c : Cause) (s : State) : State :=
  if s.prot.active.get c then s
  else
    let s1 := { s with prot := { s.prot with active := s.prot.active.put c true } }
    if stacked c s.prot.stack then s1 else s1.raise c

/-- A live cause is reported inactive (R142). -/
def State.liveInactive (c : Cause) (s : State) : State :=
  { s with prot := { s.prot with active := s.prot.active.put c false } }

/-- A condition behind a live cause has changed from one value to another (R142). -/
def State.liveChange (c : Cause) (old new : Bool) (s : State) : State :=
  if old = new then s else if new then s.liveActive c else s.liveInactive c

/-! ## Clearing (R151, R152) -/

/-- After a pop each active live cause without an entry is raised, in the order of cause number (R152). -/
def State.reraise (s : State) : State :=
  liveCauses.foldl (fun t c => if t.prot.active.get c ∧ stacked c t.prot.stack = false then t.recordRaise c else t) s

/-- What a clear tells the Tray Changer (R17, R151). -/
def State.tellJamCleared (popped : Cause) (s : State) : State :=
  let s1 := if popped = .trayJam ∨ popped = .gateJam then s.jamCleared else s
  if s1.changer.state = .jammed ∧ s1.prot.pl < 3 ∧ stacked .trayJam s1.prot.stack = false then
    s1.enterLost.takePendings
  else s1

/-- CLEAR-FAULT (R151): the state after and the link's answer. -/
def State.clearFault (s : State) : State × ResultCode :=
  match s.prot.stack with
  | [] => (s, .accepted)
  | e :: rest =>
    if s.prot.active.get e.cause then (s, .stillActive)
    else
      let s1 := { s with prot := { s.prot with stack := rest, pl := (rest.head?.map FaultEntry.level).getD 0 } }
      ((s1.reraise.handPL s.prot.pl).tellJamCleared e.cause, .accepted)

/-! ## Homing failure and gate jam (R9, R18) -/

/-- A homing fails: what is in flight ends ABORTED and the changer stays LOST; then the cause is given (log 18). -/
def State.failHoming (c : Cause) (s : State) : State := (s.endChange .aborted .lost true).raise c

/-! ## What follows at once from the derived quantities -/

/-- The conditions of OFF (R87). -/
def State.offReady (s : State) : Bool :=
  s.cool.power = .coolingDown && s.cool.darkStart.isNone && s.changerFree
    && !(s.arb.queues.panel.any (fun r => r.standby))

/-- The drive has gone between 0 and above 0 (R56, R82, R185): a fall starts cooldown from 0, cancels a pulse not yet
sent and asks for a counter save; a rise ends cooldown. -/
def State.driveChanged (before : Nat) (s : State) : State :=
  if 0 < before ∧ s.drive = 0 then
    { s with
      cool := { s.cool with darkStart := some s.clock }
      lamp := { s.lamp with firingDue := none } }.requestCounterSave
  else if before = 0 ∧ 0 < s.drive then { s with cool := { s.cool with darkStart := none } }
  else s

/-- Entry to OFF at the event that makes its last condition hold, before any GRANT that the event leads to (R86, R87;
log 49). -/
def State.offChanged (before : Bool) (s : State) : State :=
  if s.offReady ∧ before = false then
    { s with cool := { s.cool with power := .off, offDue := some (s.clock + secs 2) } }
  else s

/-- The commanded duty has crossed 30 (R81). -/
def State.dutyChanged (before : Nat) (s : State) : State :=
  if s.cool.warning then s
  else if before < 30 ∧ 30 ≤ s.duty then { s with cool := { s.cool with stallDue := some (s.clock + ms 1500) } }
  else if 30 ≤ before ∧ s.duty < 30 then
    { s with cool := { s.cool with stallDue := none, stalled := false } }.liveInactive .fanStall
  else s

/-- The life mark passes from clear to set (R183). -/
def State.lifeChanged (before : Bool) (s : State) : State := s.raiseFlagIf (s.lifeMark && !before) .lamp

/-- What a step brings about at once through the quantities that are computed and not stored: `before` is the state the
step started from, `after` the state its own effects made (log 29). -/
def State.settleFrom (before after : State) : State :=
  (((after.driveChanged before.drive).offChanged before.offReady).dutyChanged before.duty).lifeChanged before.lifeMark

/-- One grant, if the changer takes one and a head is eligible (R28). -/
def State.grantOnce (s : State) : Option State :=
  match s.preferred with
  | none => none
  | some src =>
    match s.arb.queues.get src with
    | [] => none
    | q :: rest => some (s.settleFrom (s.grantHead src q rest))

/-- The grants that follow one another at once, while changes end at their grant (R28). -/
def State.grantsDue : Nat → State → State
  | 0, s => s
  | n + 1, s =>
    match s.grantOnce with
    | none => s
    | some s' => State.grantsDue n s'

/-! ## Power states (R85, R86) -/

/-- The standby HOME (R85). -/
def standbyHome : Request := { plainRequest .home .panel with standby := true }

/-- Entry to COOLING-DOWN (R85). -/
def State.enterStandby (s : State) : State :=
  let s1 := ({ s with cool := { s.cool with power := .coolingDown } }.writeSwitch .off).stopTape .standby
  if s.items.homeOnStandby then s1.offered standbyHome else s1

/-- The panel POWER key or a link STANDBY (R85 to R87); `on` is none for the key. -/
def State.powerAsked (on : Option Bool) (s : State) : State :=
  match s.cool.power with
  | .run => if on = some false then s else s.enterStandby
  | .coolingDown => if on = some true then s else { s with cool := { s.cool with power := .run } }
  | .off => s

end Sys2Proof.Machine
end

