-- ==== Sys2Proof/WellFormed.lean ====
section
/-! DEFINITION. Which commands are well formed: operands within what the line, the converters and the handset can carry.
No meaning assumes it: every command has a meaning on every operand. -/

namespace Sys2Proof

/-- The argument length n of a request is 0 to 8 (section 11.3). -/
def argsWf (args : List Byte) : Bool := args.length ≤ 8

/-- The bytes of a frame in progress begin with the start byte 0xD3 (R169). -/
def gatheredWf (bytes : List Byte) : Bool :=
  match bytes with
  | [] => true
  | b :: _ => b == 0xD3#8

/-- The command codes of the command table of section 11.3 are 1 to 33. -/
def knownCode (code : BitVec 6) : Bool := 1 ≤ code.toNat && code.toNat ≤ 33

/-- The handset key codes of section 10.1 are 1 to 8. -/
def handsetKeyCode (code : BitVec 4) : Bool := 1 ≤ code.toNat && code.toNat ≤ 8

/-- A command's operands are what its row's event can carry. -/
def Instr.wf : Instr → Bool
  | .resetPart _ a | .step _ a | .goto _ a | .ret _ a | .home _ a | .mark _ a | .flush _ a | .fade _ a
  | .lamp _ a | .lampReset _ a | .hold _ a | .resume _ a | .auto _ a | .priority _ a | .lock _ a | .tape _ a
  | .seekCue _ a | .bindCue _ a | .clearMap _ a | .follow _ a | .takeShow _ a | .releaseShow _ a
  | .clearFault _ a | .limitClear _ a | .set _ a | .lawTable _ a | .scanSlot _ a | .save _ a | .read _ a
  | .readCompletion _ a | .readCounters _ a | .setCounter _ a | .standby _ a => argsWf a
  | .unknownCommand _ code a => argsWf a && !knownCode code
  | .partnerFrame _ _ _ a => argsWf a
  | .continuationFrame _ _ a => argsWf a
  | .scanPass raws => raws.length == 8
  | .frameGapDiscard g => gatheredWf g && g.length ≤ 12
  | .byteWithNoStopBit g => gatheredWf g && g.length ≤ 12
  | .lengthByteAbove8 g len => gatheredWf g && g.length == 3 && 8 < len.toNat
  | .frameDiscarded f => gatheredWf f && 5 ≤ f.length && f.length ≤ 13
  | .remoteIdleFrame code => !handsetKeyCode code
  | .powerOnReset _ | .linkReset _ | .mechanismRestart _ | .supplyFailWarning | .supplyFailCleared | .grant _
  | .indexPulse _ | .homingStepCountReached | .rotateStepTimeout | .returnStepTimeout | .homingStepTimeout
  | .gateClearInLift _ | .liftLimitExpiry | .gateOccupiedInDrop | .dropLimitExpiry | .settleExpiry
  | .trayRemoval | .trayInsertion _ | .dwellExpiry | .rampStep _ _ | .guardTick | .zeroCrossing _
  | .firingPulse | .mainsSilenceExpiry | .cooldownMinTimeReached | .offTimeout | .fanTachPulse _
  | .speedTimeout | .stallTimerExpiry | .tapeTachPulse | .tapeTachTimerExpiry _ _ | .leaderReached
  | .cassetteRemoval | .cassetteInsertion | .windowClose _ | .secondTick | .saveComplete | .showModeLapse
  | .remoteFwd | .remoteRev | .remoteHold | .remoteResume | .remoteMark | .remoteBack | .remoteFocusIn
  | .remoteFocusOut | .remoteFrameAbandoned _ | .remoteComplementFail _ | .presenceTimeout
  | .releaseTimerExpiry | .autoStepExpiry | .focusRunExpiry | .panelFwd | .panelRev | .panelHome
  | .panelPower | .panelLamp | .panelTape | .panelHoldPress | .panelHoldRelease | .panelHoldLongPress
  | .panelKeyRelease _ | .replyDriverRelease => true

end Sys2Proof
end

