-- ==== Sys2Proof/Machine/LinkOps.lean ====
section
/-! DEFINITION. The Show Link Port: sorting a frame, the tests of a command, the reply, continuation sequences, partner
frames and the data of the reads (chapter 11). -/

namespace Sys2Proof.Machine

/-! ## Frames (R169 to R171, R179) -/

/-- How the port sorts a valid frame by its address (R170, R171). -/
inductive FrameKind where
  | own | broadcast | partner | other
  deriving DecidableEq, Repr

def State.frameKind (h : Header) (s : State) : FrameKind :=
  if h.addr = 31#5 then .broadcast
  else if h.addr = s.link.strap then .own
  else if s.link.following = true ∧ s.link.partner = some h.addr.toNat then .partner
  else .other

/-- The receiver is off while the driver is enabled for a reply (R169, R173). -/
def State.receiverOn (s : State) : Bool := s.link.reply.isEmpty

/-- The port hunts again. -/
def State.endFrame (s : State) : State := { s with link := { s.link with rxFrame := [] } }

/-- The link error count stays at 65535 once there. -/
def State.linkError (s : State) : State := { s with link := { s.link with errCount := min 65535 (s.link.errCount + 1) } }

/-- Every valid own or broadcast frame restarts the silence timer while show mode is on (R179). -/
def State.heardMaster (s : State) : State :=
  if s.link.showMode then
    { s with link := { s.link with silenceDue := some (s.clock + secs s.items.silenceTime) } }
  else s

/-- A frame in progress is discarded (R169): the bytes gathered before the step and those that came with it. -/
def State.discardFrame (gathered : List Byte) (s : State) : State :=
  if s.receiverOn ∧ (s.link.rxFrame ++ gathered) ≠ [] then s.endFrame.linkError else s

/-! ## Replies (R173, section 11.3) -/

/-- What taking a command makes of the part, its result code and the data of its reply. -/
structure Answer where
  st   : State
  code : ResultCode
  data : List Byte

def Answer.ok (s : State) : Answer := ⟨s, .accepted, []⟩
def Answer.refuse (code : ResultCode) (s : State) : Answer := ⟨s, code, []⟩

/-- Reply byte 5. -/
def State.statusByte (s : State) : Nat :=
  s.prot.pl % 4 + 4 * s.cool.power.code + 16 * s.link.showMode.toNat + 32 * s.arb.hold.toNat

/-- Bytes 1 to 8 + m of a reply that reports the state s (section 11.3). -/
def State.replyBody (code : ResultCode) (data : List Byte) (s : State) : List Byte :=
  b1 s.link.strap.toNat ++ b1 code.code ++ b1 s.changer.state.code ++ opt1 s.changer.position ++ b1 s.statusByte
    ++ b1 s.tape.state.code ++ b1 s.link.flags.byte ++ b1 data.length ++ data

/-- The start byte, the body and its check byte. -/
def frameReply (body : List Byte) : List Byte := 0xD4#8 :: (body ++ [checkByte body])

/-- The reply is formed from the state as it stands once the command has been taken, with the grants it leads to made
(R28, R173): at most 16 queued requests and 15 owed steps (log 4). -/
def State.replyBytes (code : ResultCode) (data : List Byte) (s : State) : List Byte :=
  frameReply ((s.grantsDue 32).replyBody code data)

/-- A reply goes out for an own frame whose reply bit is set, and for no other (R173). -/
def Answer.send (kind : FrameKind) (h : Header) (a : Answer) : State :=
  if kind = .own ∧ h.reply then
    { a.st with link := { a.st.link with reply := a.st.replyBytes a.code a.data } }
  else a.st

/-! ## Partner frames (R75, R76) -/

/-- The fade that a partner frame hands to the Fade Engine, if it is one: level, time and WAIT-CHANGE (R75, R76). -/
def partnerFade (h : Header) (cont : Bool) (code : Nat) (args : List Byte) : Option (Nat × Nat × Bool) :=
  if code = 7 ∧ cont = false ∧ args.length = 5 ∧ arg args 0 = 0 then
    let l := clampLevel (arg2 args 1)
    if h.mirror = 1#2 then some (1000 - l, arg args 3, flagWaitChange (arg args 4))
    else if h.mirror = 2#2 then some (l, arg args 3, flagWaitChange (arg args 4))
    else none
  else none

/-- A partner frame is not answered; a mirrored fade is taken as a fade of this part, and ignored at PL 3 (R75, R76). -/
def State.followPartner (h : Header) (cont : Bool) (code : Nat) (args : List Byte) (s : State) : State :=
  match partnerFade h cont code args with
  | none => s
  | some (l, t, wait) => if 3 ≤ s.prot.pl then s else s.settleFrom (s.takeFade .lamp l t wait)

/-! ## Taking a command (R172) -/

/-- READ, READ-COMPLETION and READ-COUNTERS are discarded when they arrive by broadcast (R172). -/
def givesUpState (code : Nat) : Bool := code == 28 || code == 29 || code == 30

/-- READ, CLEAR-FAULT and RESET-PART are taken at PL 3 (R172). -/
def takenAtLockout (code : Nat) : Bool := code == 28 || code == 22 || code == 33

/-- Tests 2 and 3 of R172, then the command's own. -/
def commandTests (code len : Nat) (args : List Byte) (body : State → Answer) (s : State) : Answer :=
  if 3 ≤ s.prot.pl ∧ takenAtLockout code = false then .refuse .lockout s
  else if args.length ≠ len then .refuse .badArg s
  else body s

/-- An own or broadcast command frame: the silence timer restarts, a pending sequence is abandoned, the command is taken
and answered (R172 to R174, R179). -/
def State.takeOwn (kind : FrameKind) (code : Nat) (h : Header) (take : State → Answer) (s : State) : State :=
  let s1 := s.endFrame.heardMaster
  if kind = .broadcast ∧ givesUpState code then s1
  else
    let s2 := { s1 with link := { s1.link with seq := none } }
    let a := take s2
    Answer.send kind h { a with st := s2.settleFrom a.st }

/-- A valid command frame, sorted by its address (R170). Frames that come while the receiver is off are lost (R169). -/
def State.commandFrame (code : Nat) (h : Header) (args : List Byte) (take : State → Answer) (s : State) : State :=
  if s.receiverOn then
    match s.frameKind h with
    | .other => s.endFrame
    | .partner => s.endFrame.followPartner h false code args
    | .own => s.takeOwn .own code h take
    | .broadcast => s.takeOwn .broadcast code h take
  else s

/-- A command of the command table: its code, its argument length and what it does (section 11.3). -/
def linkCommand (code len : Nat) (h : Header) (args : List Byte) (body : State → Answer) (s : State) :
    Host.Outcome State Fault Refusal :=
  .next (s.commandFrame code h args (commandTests code len args body))

/-! ## Continuation sequences (R174) -/

/-- A head frame opens the pending sequence. -/
def State.openSequence (cmd : SeqCommand) (h : Header) (args : List Byte) (due : Nat) (s : State) : Answer :=
  .ok { s with link := { s.link with seq := some ⟨cmd, h.addr == 31#5, args, due, [h.reply]⟩ } }

def SeqCommand.code : SeqCommand → Nat
  | .lawTable => 25
  | .scanSlot => 26

/-- The eleven entries of a LAW-TABLE string. -/
def lawEntries (bytes : List Byte) : List Nat := (List.range 11).map (fun i => arg2 bytes (2 * i))

/-- Each entry equal to or less than the one before it (R53). -/
def nonIncreasing : List Nat → Bool
  | [] => true
  | [_] => true
  | a :: b :: rest => b ≤ a && nonIncreasing (b :: rest)

/-- R53. -/
def lawOk (w : List Nat) : Bool := nonIncreasing w && w.getD 0 0 ≤ 1000 && 50 ≤ w.getD 10 0

/-- A completed LAW-TABLE (R53). -/
def State.applyLaw (bytes : List Byte) (s : State) : Answer :=
  let w := lawEntries bytes
  if lawOk w then .ok { s with law := w } else .refuse .badArg s

/-- The configuration that a SCAN-SLOT string carries (section 11.3), less its slot number. -/
def slotConfigOf (bytes : List Byte) (role : Role) : SlotConfig where
  input := arg bytes 1
  enable := arg bytes 2 == 1
  offset := arg2 bytes 4
  low := arg2 bytes 6
  high := arg2 bytes 8
  role := role

/-- The tests of R100 on a new configuration for slot n, whose present one is `old`. -/
def slotWriteOk (enableByte : Nat) (old new : SlotConfig) : Bool :=
  new.input ≤ 5 && enableByte ≤ 1 && new.offset ≤ 4095 && new.low ≤ 4095 && new.high ≤ 4095
    && !(0 < new.low && new.high < 4095 && new.high ≤ new.low)
    && !(new.role != .none && !new.enable)
    && !(old.role == .housing && new.role != .housing)
    && !(old.role == .housing && !new.enable)

/-- The limit state of a slot whose input, role or enable changes (R101). -/
def ScanSlot.cleared (cfg : SlotConfig) (sl : ScanSlot) : ScanSlot :=
  { sl with cfg := cfg, result := none, highCond := false, lowCond := false, highCount := 0, lowCount := 0 }

/-- The limit state of a written slot (R101). -/
def ScanSlot.written (cfg : SlotConfig) (sl : ScanSlot) : ScanSlot :=
  if cfg = sl.cfg then sl
  else if cfg.input = sl.cfg.input ∧ cfg.role = sl.cfg.role ∧ cfg.enable = sl.cfg.enable then
    { sl with cfg := cfg, highCount := 0, lowCount := 0 }
  else sl.cleared cfg

/-- A slot that loses its role to the written one (R100, R101). -/
def ScanSlot.loseRole (role : Role) (sl : ScanSlot) : ScanSlot :=
  if role ≠ .none ∧ sl.cfg.role = role then sl.cleared { sl.cfg with role := .none } else sl

/-- The live cause behind a role's high condition (section 6.5). -/
def Role.cause : Role → Option Cause
  | .housing => some .housingOvertemp
  | .gate => some .gateOvertemp
  | .lampCurrent => some .lampOvercurrent
  | _ => Option.none

/-- The neighbours of a slot's role are told that a delivered condition has become inactive by a write (R101). The
SUPPLY condition is read where it is needed. -/
def State.tellInactive (before after : ScanSlot) (s : State) : State :=
  match before.cfg.role.cause with
  | none => s
  | some c => if before.highCond ∧ after.highCond = false then s.liveInactive c else s

/-- Write slot n, the role moving from any other slot that holds it (R100, R101). -/
def State.writeSlot (n : Nat) (cfg : SlotConfig) (s : State) : State :=
  let old := s.scan.slots
  let new := old.mapIdx (fun i sl => if i = n then sl.written cfg else sl.loseRole cfg.role)
  (old.zip new).foldl (fun t p => t.tellInactive p.1 p.2) { s with scan := { s.scan with slots := new } }

/-- A completed SCAN-SLOT (R100); the repeated slot number must equal the head's (R174). -/
def State.applySlot (bytes : List Byte) (s : State) : Answer :=
  let n := arg bytes 0
  match s.scan.slots[n]?, roleOfCode (arg bytes 3) with
  | some sl, some role =>
    let cfg := slotConfigOf bytes role
    if n ≤ 7 ∧ arg bytes 10 = n ∧ slotWriteOk (arg bytes 2) sl.cfg cfg then .ok (s.writeSlot n cfg)
    else .refuse .badArg s
  | _, _ => .refuse .badArg s

/-- The whole argument string goes to its owner; at PL 3 it is refused (R174). -/
def State.applySequence (cmd : SeqCommand) (bytes : List Byte) (s : State) : Answer :=
  if 3 ≤ s.prot.pl then .refuse .lockout s
  else match cmd with
    | .lawTable => s.applyLaw bytes
    | .scanSlot => s.applySlot bytes

/-- A valid continuation frame of an own or broadcast address (R174). -/
def State.takeContinuation (kind : FrameKind) (h : Header) (code : Nat) (args : List Byte) (s : State) : State :=
  let s1 := s.endFrame.heardMaster
  let closed := { s1 with link := { s1.link with seq := none } }
  match s1.link.seq with
  | none => s1.linkError
  | some q =>
    if q.broadcast ≠ (kind == .broadcast) then s1.linkError
    else if code ≠ q.command.code ∨ args.length ≠ 8 then closed.linkError
    else if 1 < q.due then
      let q' := { q with bytes := q.bytes ++ args, due := q.due - 1, replyBits := q.replyBits ++ [h.reply] }
      Answer.send kind h (.ok { s1 with link := { s1.link with seq := some q' } })
    else
      let a := closed.applySequence q.command (q.bytes ++ args)
      Answer.send kind h { a with st := closed.settleFrom a.st }

/-! ## The data of the reads (section 11.3) -/

/-- The 0.1 s units left of the silence timer, absent when it is. -/
def State.silenceLeft (s : State) : Option Nat := s.link.silenceDue.map (fun d => (d - s.clock) / 100000)

/-- The store state code (section 11.3). -/
def State.storeStateCode (s : State) : Nat :=
  if s.store.saving.isSome then 2 else if s.store.factoryLoaded then 1 else 0

def State.readStatus (s : State) : List Byte :=
  bBool s.link.showMode ++ opt2 s.silenceLeft ++ b1 s.link.strap.toNat ++ opt1 s.link.partner ++ bBool s.link.following
    ++ bBool s.panel.presenceDue.isSome ++ b2 s.link.errCount ++ b1 s.storeStateCode ++ b4 s.usage.uptime

/-- The per-mille delay of the drive and the law table as they stand, absent for drive 0 (R54, R60; log 48). -/
def State.delayInForce (s : State) : Option Nat := if s.drive = 0 then none else some (lawDelay s.law s.drive)

def State.readLamp (s : State) : List Byte :=
  b1 s.lamp.switch.code ++ b1 s.lampStateCode ++ b2 s.fade.lamp.level ++ b2 s.fade.lamp.target
    ++ b1 s.fade.lamp.state.code ++ b2 s.ceiling ++ b1 s.ceilingSetter ++ b2 s.effective ++ b2 s.drive
    ++ b4 s.lamp.guardAcc ++ bBool s.lamp.guardEngaged ++ opt2 s.lamp.halfPeriod ++ opt2 s.delayInForce

/-- The cooling status; the relay byte is 1 energised, 0 released (log 50). -/
def State.readCooling (s : State) : List Byte :=
  b1 s.cool.power.code ++ bBool s.relay ++ opt2 s.cool.th ++ b1 s.fanDemand ++ b1 s.duty ++ bBool s.cool.warning
    ++ opt2 s.cool.speed ++ bBool s.cool.stalled ++ bBool s.cool.darkStart.isSome
    ++ opt2 (s.darkTime.map (fun d => d / 1000000)) ++ bBool s.cool.warning

/-- The tape status; with no window classified the count is absent and the class none (log 15, 50). -/
def State.readTape (s : State) : List Byte :=
  let t := s.tape
  let seek := match t.seekTarget with
    | some n => n
    | none => (Config.absentSeekTarget s.freeCount).toNat
  b1 t.state.code ++ bBool t.cassette ++ b2 t.counter ++ b1 t.direction.code
    ++ b1 (packBits [t.pause.hold, t.pause.queue, t.pause.cueStop, t.pause.safe])
    ++ b1 (packBits [t.standing.hold, t.standing.queue, t.standing.safe, t.seekTarget.isSome])
    ++ b2 seek ++ b1 t.lastStop.code
    ++ opt2 (s.dec.lastWindow.map LastWindow.count)
    ++ b1 (((s.dec.lastWindow.bind LastWindow.cls).map ToneClass.code).getD 4)
    ++ b2 s.fade.audio.level ++ b2 s.fade.audio.target ++ b1 s.fade.audio.state.code ++ b1 s.attenuation
    ++ b1 (s.levelMute.toNat + 2 * s.transportMute.toNat)

/-- One slot of the scan slots read; the bits that section 11.3 does not name are 0 (log 50). -/
def ScanSlot.readBytes (sl : ScanSlot) : List Byte :=
  b1 sl.cfg.input ++ b1 (128 * sl.cfg.enable.toNat + sl.cfg.role.code) ++ b2 sl.cfg.offset ++ b2 sl.cfg.low
    ++ b2 sl.cfg.high ++ opt2 sl.result ++ b1 (packBits [sl.latchedHigh, sl.latchedLow, sl.highCond, sl.lowCond])

def State.readSlots (s : State) : List Byte := (s.scan.slots.map ScanSlot.readBytes).flatten

/-- The three conditions of the lockout restart (R154). -/
def State.restartReady (s : State) : Bool :=
  !(s.prot.active.housing || s.prot.active.gate || s.prot.active.fan || s.prot.active.overcurrent)
    && s.cool.darkStart.isNone && !s.hotHousing && s.cool.th != some s.items.coolTemp

/-- One of the three entry places of the fault read; an unused one is sent as 0. -/
def faultBytes (e : Option FaultEntry) : List Byte :=
  match e with
  | none => b1 0 ++ b1 0 ++ b4 0
  | some e => b1 e.cause.number ++ b1 e.level ++ b4 e.time

def State.readFault (s : State) : List Byte :=
  let p := s.prot
  let up := p.stack.reverse
  let cause := match p.last.cause with
    | some c => c.number
    | none => (Config.noCauseByte s.freeCount).toNat
  b1 p.pl ++ b1 up.length ++ faultBytes up[0]? ++ faultBytes up[1]? ++ faultBytes up[2]?
    ++ b1 (packBits [p.active.housing, p.active.gate, p.active.fan, p.active.overcurrent])
    ++ b1 cause ++ b1 p.last.level ++ bBool p.last.stacked ++ b4 p.last.time
    ++ b1 p.last.raises ++ b1 p.last.restarts ++ bBool s.items.lockoutRestart ++ bBool s.restartReady

/-- One entry of the cue map read with its ordinal. -/
def cueBytes (ordinal : Nat) (e : CueEntry) : List Byte :=
  b1 ordinal ++ b2 e.position ++ b1 e.cls.code ++ b1 e.confirms ++ opt1 e.slot

/-- Up to 15 entries from the starting ordinal, 0 taken as 1 (R178). -/
def State.readCues (start : Nat) (s : State) : List Byte :=
  let from0 := start - 1
  let t := s.dec.trackers
  b1 s.cue.entries.length ++ b1 s.cue.debt ++ b1 s.cue.queueLen
    ++ b1 (packBits [t.a.stuck, t.b.stuck, t.c.stuck, t.d.stuck, s.cue.queueAsked])
    ++ (((s.cue.entries.drop from0).take 15).mapIdx (fun i e => cueBytes (from0 + i + 1) e)).flatten

def State.readStack (s : State) : List Byte := b1 s.arb.stack.length ++ (s.arb.stack.reverse.map b1).flatten

/-- The data of a READ item, 0 to 8 (section 11.3, R178). -/
def State.readItem (item param : Nat) (s : State) : List Byte :=
  match item with
  | 0 => b2 6620 ++ b1 1
  | 1 => s.readStatus
  | 2 => s.readLamp
  | 3 => s.readCooling
  | 4 => s.readTape
  | 5 => s.readSlots
  | 6 => s.readFault
  | 7 => s.readCues param
  | _ => s.readStack

/-- A READ draws a free value where an item has a field with no value given (log 14). -/
def State.readDraws (item : Nat) (s : State) : Bool :=
  (item == 4 && s.tape.seekTarget.isNone) || (item == 6 && s.prot.last.cause.isNone)

def Completion.bytes (c : Completion) : List Byte := [c.tag] ++ b1 c.outcome.code ++ opt1 c.position

def State.counterBytes (s : State) : List Byte :=
  let c := s.usage.counters
  b4 c.lampFem.value ++ b4 c.lampMin.value ++ b4 c.changes.value ++ b4 c.jams.value ++ b4 c.fanMin.value
    ++ b4 c.tapeMin.value ++ b4 c.cues.value ++ b4 c.syncErrs.value
    ++ b1 (packBits [c.lampFem.overflow, c.lampMin.overflow, c.changes.overflow, c.jams.overflow, c.fanMin.overflow,
        c.tapeMin.overflow, c.cues.overflow, c.syncErrs.overflow])

end Sys2Proof.Machine
end

