-- ==== Sys2Proof/Machine/Deck.lean ====
section
/-! DEFINITION. The commands of the Tape Controller, the Cue Decoder and the Cue Map (chapters 7 and 8): TAPE_TACH_PULSE to
WINDOW_CLOSE, and the link commands TAPE, SEEK_CUE, BIND_CUE and CLEAR_MAP. -/

namespace Sys2Proof.Machine

/-! ## The transport -/

/-- The transport stops with a cause (R109, R110, R115). -/
def State.tapeEnds (st : TransportState) (cause : StopCause) (s : State) : State :=
  let s1 := s.setTransport st
  { s1 with tape := { s1.tape with lastStop := cause } }

/-- The leader is acted on (R110). -/
def State.atLeader (s : State) : State :=
  { s with tape := { s.tape with counter := 0 } }.tapeEnds .stopped .leader

/-- TAPE_TACH_PULSE (R108, R109, R115). -/
def execTapeTachPulse (s : State) : Host.Outcome State Fault Refusal :=
  if s.tape.state = .noCassette then .next s
  else
    let counter := tapeMove s.tape.direction s.tape.counter
    let s1 := { s with tape := { s.tape with
      counter := counter, tachDue := if s.tape.state.driven then some (s.clock + secs 1) else s.tape.tachDue } }
    match s.tape.state, s.tape.seekTarget with
    | .seek, some target =>
      .next (if seekArrived s.tape.direction counter target then s1.tapeEnds .stopped .seekArrived else s1)
    | _, _ => .next s1

/-- TAPE_TACH_TIMER_EXPIRY, with the readings of the two end sensors (R109, R110). -/
def execTapeTachTimerExpiry (leader trailer : Bool) (s : State) : Host.Outcome State Fault Refusal :=
  match s.tape.tachDue with
  | none => .next s
  | some due =>
    if s.tape.state.driven then
      let s1 := s.reachAt due
      match s.tape.direction with
      | .forward =>
        if trailer then .next ((s1.tapeEnds .ended .trailer).raiseFlag .syncTape)
        else .next ((s1.tapeEnds .stopped .tapeJam).raiseFlag .syncTape)
      | .reverse =>
        if leader then .next s1.atLeader else .next ((s1.tapeEnds .stopped .tapeJam).raiseFlag .syncTape)
    else .next s

/-- LEADER_REACHED: acted on in REWIND and in a reverse SEEK (R110). -/
def execLeaderReached (s : State) : Host.Outcome State Fault Refusal :=
  match s.tape.state, s.tape.direction with
  | .rewind, _ => .next s.atLeader
  | .seek, .reverse => .next s.atLeader
  | _, _ => .next s

/-! ## Emptying the map (R131, R132) -/

/-- A request without its cue reference. -/
def Request.unlink (r : Request) : Request := { r with cueRef := none }

/-- Every entry goes, and every reference to one becomes absent (R132). -/
def State.emptyMap (s : State) : State :=
  { s with
    cue := { s.cue with entries := [] }
    arb := { s.arb with queues := { s.arb.queues with cue := s.arb.queues.cue.map Request.unlink } }
    changer := { s.changer with
      record := s.changer.record.map (fun r => { r with request := r.request.map Request.unlink }) } }

/-- CASSETTE_REMOVAL (R116, R132, R140). -/
def execCassetteRemoval (s : State) : Host.Outcome State Fault Refusal :=
  if s.tape.cassette then
    let s1 := (s.setTransport .noCassette).resetTrackers
    let s2 := { s1 with tape := { s1.tape with cassette := false, counter := 0 }, cue := { s1.cue with debt := 0 } }
    .next s2.emptyMap
  else .next s

/-- CASSETTE_INSERTION (R116). -/
def execCassetteInsertion (s : State) : Host.Outcome State Fault Refusal :=
  if s.tape.cassette then .next s
  else
    let s1 := s.setTransport .stopped
    .next { s1 with tape := { s1.tape with cassette := true, counter := 0, direction := .forward } }

/-! ## Windows and bursts (R119 to R122) -/

/-- The band of a class at play speed, and six times it in search (R120, table). -/
def ToneClass.band : ToneClass → Nat × Nat
  | .a => (46, 54) | .b => (29, 35) | .c => (74, 86) | .d => (18, 22)

/-- A count lies in a class's band for a speed factor of 1 or 6 (R120). -/
def ToneClass.holds (factor count : Nat) (k : ToneClass) : Bool :=
  factor * k.band.1 ≤ count && count ≤ factor * k.band.2

/-- The four classes. -/
def toneClasses : List ToneClass := [.a, .b, .c, .d]

/-- The class of a window in a decoding mode (R119, R120). -/
def classify (mode : DecodingMode) (gate : Bool) (count : Nat) : Option ToneClass :=
  if gate then
    match mode with
    | .playSpeed => toneClasses.find? (fun k => k.holds 1 count)
    | .search => toneClasses.find? (fun k => k.holds 6 count)
    | .off => none
  else none

/-- The recognition count (R121). -/
def DecodingMode.recognition : DecodingMode → Nat
  | .search => 2
  | .playSpeed | .off => 3

/-- One tracker at a window's close: `own` says that the window is of its class (R121, R122). The fields that the table
of R121 gives to the other states only are held at 0 (log 35). -/
def Tracker.close (need counter : Nat) (own : Bool) (t : Tracker) : Tracker :=
  match t.state with
  | .idle => if own then { idleTracker with state := .running, run := 1, first := counter } else idleTracker
  | .running =>
    if own then
      if need ≤ t.run + 1 then
        { t with state := .active, run := 0, misses := 0, length := t.run + 1, stuck := false }
      else { t with run := t.run + 1 }
    else idleTracker
  | .active =>
    if own then { t with misses := 0, length := t.length + 1, stuck := t.stuck || t.length + 1 == 31 }
    else if 2 ≤ t.misses + 1 then idleTracker
    else { t with misses := t.misses + 1, length := t.length + 1, stuck := t.stuck || t.length + 1 == 31 }

/-- The close recognised a burst (R121). -/
def Tracker.recognised (before after : Tracker) : Bool := before.state == .running && after.state == .active

/-- The close found the burst stuck (R122). -/
def Tracker.becameStuck (before after : Tracker) : Bool := after.stuck && !before.stuck

def Trackers.get (t : Trackers) : ToneClass → Tracker
  | .a => t.a | .b => t.b | .c => t.c | .d => t.d

/-- The four trackers at a window's close. -/
def Trackers.close (need counter : Nat) (cls : Option ToneClass) (t : Trackers) : Trackers :=
  ⟨t.a.close need counter (cls == some .a), t.b.close need counter (cls == some .b),
   t.c.close need counter (cls == some .c), t.d.close need counter (cls == some .d)⟩

/-! ## Learning and confirming (R128, R129) -/

/-- The difference of two positions. -/
def tapeDistance (p q : Nat) : Nat := (p - q) + (q - p)

/-- The entry within tolerance that is nearest to p, the lower one when two are equally near (R128). -/
def nearestEntry (tol p : Nat) : List CueEntry → Option CueEntry
  | [] => none
  | e :: rest =>
    match nearestEntry tol p rest with
    | none => if tapeDistance p e.position ≤ tol then some e else none
    | some other =>
      if tapeDistance p e.position ≤ tol ∧ tapeDistance p e.position ≤ tapeDistance p other.position then some e
      else some other

/-- A confirming burst of a class (R127, R128). -/
def CueEntry.confirm (cls : ToneClass) (e : CueEntry) : CueEntry :=
  { e with confirms := min 255 (e.confirms + 1), cls := cls }

/-- Confirm the entry; a change of its class raises CUEMAP (R128). -/
def State.confirmEntry (e : CueEntry) (cls : ToneClass) (s : State) : State :=
  { s with cue := { s.cue with
      entries := s.cue.entries.map (fun (x : CueEntry) => if x.position = e.position then x.confirm cls else x) } }.raiseFlagIf
    (e.cls != cls) .cuemap

/-- A new entry between those below p and those above it (R128). -/
def insertEntry (e : CueEntry) (l : List CueEntry) : List CueEntry :=
  l.filter (fun x => x.position < e.position) ++ e :: l.filter (fun x => !(x.position < e.position))

/-- A play-speed burst is learned: the state after and the entry it belongs to (R128). -/
def State.learnCue (p : Nat) (cls : ToneClass) (s : State) : State × Option Nat :=
  match nearestEntry s.items.tolerance p s.cue.entries with
  | some e => (s.confirmEntry e cls, some e.position)
  | none =>
    if s.cue.entries.length < 48 then
      ({ s with cue := { s.cue with entries := insertEntry ⟨p, cls, 0, none⟩ s.cue.entries } }, some p)
    else (s.raiseFlag .cuemap, none)

/-- A burst recognised in search confirms or changes nothing (R129). -/
def State.searchCue (p : Nat) (cls : ToneClass) (s : State) : State :=
  match nearestEntry s.items.tolerance p s.cue.entries with
  | some e => s.confirmEntry e cls
  | none => s

/-! ## Dispatch (R124, R125, R138) -/

/-- A class A step that finds the CUE queue full is owed, or lost with CUE-LOST at debt 15 (R138). -/
def State.oweStep (s : State) : State :=
  if s.cue.debt < 15 then { s with cue := { s.cue with debt := s.cue.debt + 1 } } else s.raiseFlag .cuemap

/-- What the class of a play-speed burst does, with the entry as reference (R124). -/
def State.actClass (cls : ToneClass) (ref : Option Nat) (s : State) : State :=
  match cls with
  | .a =>
    let o := s.offer { plainRequest .stepFwd .cue with cueRef := ref }
    if o.2 = .full then o.1.oweStep else o.1
  | .b =>
    let o := s.offer { plainRequest .stepRev .cue with cueRef := ref }
    if o.2 = .full then o.1.raiseFlag .cuemap else o.1
  | .c => s.addReason .cueStop
  | .d => s

/-- A burst recognised in a decoding mode is dispatched (R124, R125). -/
def State.dispatchBurst (mode : DecodingMode) (p : Nat) (cls : ToneClass) (s : State) : State :=
  match mode with
  | .playSpeed =>
    let l := (s.gainCounter .cues).learnCue p cls
    l.1.actClass cls l.2
  | .search => s.searchCue p cls
  | .off => s

/-- The dispatch and the CUE-STUCK attention of one tracker's close (R121, R122). -/
def State.closeClass (mode : DecodingMode) (before after : Trackers) (s : State) (k : ToneClass) : State :=
  let b := before.get k
  let a := after.get k
  let s1 := if b.recognised a then s.dispatchBurst mode a.first k else s
  s1.raiseFlagIf (b.becameStuck a) .cuemap

/-- A window is classified and offered to the four trackers (R119 to R122). -/
def State.closeWindow (count : Nat) (s : State) : State :=
  let mode := s.tape.state.mode
  if mode = .off then s
  else
    let cls := classify mode s.cueGateOpen count
    let after := s.dec.trackers.close mode.recognition s.tape.counter cls
    let s1 := { s with dec := { s.dec with trackers := after, lastWindow := some ⟨count, cls⟩ } }
    toneClasses.foldl (State.closeClass mode s.dec.trackers after) s1

/-- WINDOW_CLOSE (R119): the next window closes 20 ms after this one was due. -/
def execWindowClose (count : Nat) (s : State) : Host.Outcome State Fault Refusal :=
  let s1 := s.reachAt s.dec.windowDue
  .next ({ s1 with dec := { s1.dec with windowDue := s.dec.windowDue + ms 20 } }.closeWindow count)

/-! ## Link commands -/

/-- TAPE, code 15 (R113, R176). -/
def execTape (h : Header) (args : List Byte) (s : State) : Host.Outcome State Fault Refusal :=
  linkCommand 15 1 h args (fun t =>
    match tapeOpOfCode (arg args 0) with
    | none => .refuse .badArg t
    | some op =>
      if t.tape.state = .noCassette then .refuse .noTape t
      else if t.cool.power = .coolingDown ∧ op ≠ .stop then .refuse .standby t
      else .ok (t.tapeOp op)) s

/-- The entry of an ordinal, counted from 1 (R127). -/
def State.entryOfOrdinal (n : Nat) (s : State) : Option CueEntry :=
  if n = 0 then none else s.cue.entries[n - 1]?

/-- SEEK-CUE, code 16 (R134, R115, R176); while the warning stands it starts nothing (R114; log 43). -/
def execSeekCue (h : Header) (args : List Byte) (s : State) : Host.Outcome State Fault Refusal :=
  linkCommand 16 1 h args (fun t =>
    if t.tape.state = .noCassette then .refuse .noTape t
    else if t.cool.power = .coolingDown then .refuse .standby t
    else match t.entryOfOrdinal (arg args 0) with
      | none => .refuse .unknownCue t
      | some e => if t.cool.warning then .ok t else .ok (t.beginSeek (e.position - t.items.preroll))) s

/-- Bind the entry of an ordinal (R133). -/
def State.bindEntry (n : Nat) (slot : Option Nat) (s : State) : State :=
  { s with cue := { s.cue with entries := s.cue.entries.modify (n - 1) (fun e => { e with slot := slot }) } }

/-- BIND-CUE, code 17 (R133, R176). -/
def execBindCue (h : Header) (args : List Byte) (s : State) : Host.Outcome State Fault Refusal :=
  linkCommand 17 2 h args (fun t =>
    match t.entryOfOrdinal (arg args 0) with
    | none => .refuse .unknownCue t
    | some _ =>
      if arg args 1 = 255 then .ok (t.bindEntry (arg args 0) none)
      else if t.items.traySize < arg args 1 then .refuse .badSlot t
      else .ok (t.bindEntry (arg args 0) (some (arg args 1)))) s

/-- CLEAR-MAP, code 18 (R131, R176). -/
def execClearMap (h : Header) (args : List Byte) (s : State) : Host.Outcome State Fault Refusal :=
  linkCommand 18 0 h args (fun t => .ok t.emptyMap) s

end Sys2Proof.Machine
end

