-- ==== Sys2Proof/Machine/Heat.lean ====
section
/-! DEFINITION. The commands of the Sensor Scanner and the Cooling Controller (chapters 5 and 6): SCAN_PASS to
STALL_TIMER_EXPIRY, and the link command STANDBY. -/

namespace Sys2Proof.Machine

/-! ## One read of a slot (R92, R93, R96, R97, R99) -/

/-- The result of a raw count (R92). -/
def slotResult (cfg : SlotConfig) (raw : Nat) : Nat := raw - cfg.offset

/-- One row of R99: three reads in a row that favour the other value change the condition. `beyond` is the read that
counts while inactive, `back` the one that counts while active. -/
def conditionStep (active : Bool) (count : Nat) (beyond back : Bool) : Bool × Nat :=
  if (if active then back else beyond) then
    if 3 ≤ count + 1 then (!active, 0) else (active, count + 1)
  else (active, 0)

/-- A slot with a new result r: limit tests, latched status and both conditions (R96, R97, R99). -/
def ScanSlot.read (r : Nat) (sl : ScanSlot) : ScanSlot :=
  let above := decide (sl.cfg.high < r)
  let below := decide (r < sl.cfg.low)
  let high := conditionStep sl.highCond sl.highCount above (decide (r + 20 ≤ sl.cfg.high))
  let low := conditionStep sl.lowCond sl.lowCount below (decide (sl.cfg.low + 20 ≤ r))
  { sl with
    result := some r
    latchedHigh := sl.latchedHigh || above
    latchedLow := sl.latchedLow || below
    highCond := high.1, highCount := high.2
    lowCond := low.1, lowCount := low.2 }

/-- A latched status has gone from clear to set (R97). -/
def ScanSlot.latchedNew (before after : ScanSlot) : Bool :=
  (after.latchedHigh && !before.latchedHigh) || (after.latchedLow && !before.latchedLow)

/-! ## What the roles deliver (R102, R103, R57, R82) -/

/-- Cooldown ends when Th is below Tcool and the dark time has reached its minimum (R82). -/
def State.testCooldownEnd (s : State) : State :=
  match s.cool.th, s.cool.darkStart with
  | some th, some t =>
    if th < s.items.coolTemp ∧ secs s.items.cooldownTime ≤ s.clock - t then
      { s with cool := { s.cool with darkStart := none } }
    else s
  | _, _ => s

/-- The HOUSING result is Th (R102). -/
def State.takeHousing (r : Nat) (s : State) : State := { s with cool := { s.cool with th := some r } }.testCooldownEnd

/-- The lamp failure test of a LAMP-CURRENT result (R57). -/
def State.failureTest (r low : Nat) (s : State) : State :=
  if s.lamp.failed then s
  else if s.lampNormal = true ∧ 200 ≤ s.drive ∧ r < low then
    if 3 ≤ s.lamp.failCount + 1 then
      { s with lamp := { s.lamp with failed := true, failCount := 0 } }.raiseFlag .lamp
    else { s with lamp := { s.lamp with failCount := s.lamp.failCount + 1 } }
  else { s with lamp := { s.lamp with failCount := 0 } }

/-- The low limit of the CUE-LEVEL slot, handed to the Cue Decoder with the result; the result itself is read in the
slot (R105). -/
def State.takeCueLevel (low : Nat) (s : State) : State := { s with dec := { s.dec with levelLow := low } }

/-- The result of a slot that holds a role, handed to its consumer. SUPPLY is read where it is needed (R104). -/
def State.deliverResult (role : Role) (r low : Nat) (s : State) : State :=
  match role with
  | .housing => s.takeHousing r
  | .lampCurrent => s.failureTest r low
  | .cueLevel => s.takeCueLevel low
  | .none | .gate | .supply => s

/-- A change of a high condition, handed to the Protect Unit (R102, R103). -/
def State.deliverHigh (role : Role) (old new : Bool) (s : State) : State :=
  match role.cause with
  | none => s
  | some c => s.liveChange c old new

/-- Slot i is read (R93): a disabled slot is skipped. -/
def State.readSlot (i : Nat) (raw : BitVec 12) (s : State) : State :=
  match s.scan.slots[i]? with
  | none => s
  | some sl =>
    if sl.cfg.enable then
      let r := slotResult sl.cfg raw.toNat
      let sl' := sl.read r
      let s1 := { s with scan := { s.scan with slots := s.scan.slots.set i sl' } }
      let s2 := s1.raiseFlagIf (sl.latchedNew sl') .limit
      let s3 := s2.deliverResult sl.cfg.role r sl.cfg.low
      s.settleFrom (s3.deliverHigh sl.cfg.role sl.highCond sl'.highCond)
    else s

/-- Slots from i on are read in slot order (R93). -/
def State.readSlotsFrom : Nat → List (BitVec 12) → State → State
  | _, [], s => s
  | i, raw :: rest, s => State.readSlotsFrom (i + 1) rest (s.readSlot i raw)

/-- A pass that delivers no LAMP-CURRENT result is no counting pass, so it returns the failure count to 0 (R57). -/
def State.passWithoutCurrent (s : State) : State :=
  if s.scan.slots.any (fun sl => sl.cfg.enable && sl.cfg.role == .lampCurrent) then s
  else { s with lamp := { s.lamp with failCount := 0 } }

/-- SCAN_PASS (R57, R93, R94): the raw conversions of slots 0 to 7; the pass starts when it is due. -/
def execScanPass (raws : List (BitVec 12)) (s : State) : Host.Outcome State Fault Refusal :=
  let s1 := s.reachAt s.scanDue
  .next (State.readSlotsFrom 0 raws { s1.passWithoutCurrent with scan := { s1.scan with lastPass := some s1.clock } })

/-! ## Cooldown and power -/

/-- COOLDOWN_MIN_TIME_REACHED (R82). -/
def execCooldownMinTimeReached (s : State) : Host.Outcome State Fault Refusal :=
  match s.cool.darkStart with
  | none => .next s
  | some t =>
    let s1 := s.reachAt (t + secs s.items.cooldownTime)
    .next (s1.settleFrom s1.testCooldownEnd)

/-- OFF_TIMEOUT (R87). -/
def execOffTimeout (s : State) : Host.Outcome State Fault Refusal :=
  match s.cool.power with
  | .off =>
    let s1 := s.reach s.cool.offDue
    .next (s1.settleFrom { s1 with cool := { s1.cool with power := .run, offDue := none } })
  | _ => .next s

/-! ## Tach and stall -/

/-- Stall detection watches the fan (R81). -/
def State.stallWatched (s : State) : Bool := decide (30 ≤ s.duty) && !s.cool.warning

/-- A tach pulse taken (R80, R81). -/
def State.takeTach (s : State) : State :=
  let s1 := { s with cool := { s.cool with
    speed := match s.cool.lastTach with
      | none => none
      | some t => some (30000000 / (s.clock - t))
    lastTach := some s.clock } }
  if s.stallWatched then
    let s2 := { s1 with cool := { s1.cool with stallDue := some (s.clock + ms 1500), stalled := false } }
    s2.liveChange .fanStall s.cool.stalled false
  else s1

/-- FAN_TACH_PULSE (R80), `dt` µs after the clock's last value (log 34): a pulse less than 2 ms after the last one taken
is ignored. -/
def execFanTachPulse (dt : Nat) (s : State) : Host.Outcome State Fault Refusal :=
  let s1 := s.elapse dt
  match s.cool.lastTach with
  | none => .next s1.takeTach
  | some t => if s1.clock - t < 2000 then .next s1 else .next s1.takeTach

/-- SPEED_TIMEOUT: 1.5 s with no pulse taken (R80). -/
def execSpeedTimeout (s : State) : Host.Outcome State Fault Refusal :=
  match s.cool.lastTach with
  | none => .next s
  | some t =>
    let s1 := s.reachAt (t + ms 1500)
    .next { s1 with cool := { s1.cool with lastTach := none, speed := none } }

/-- STALL_TIMER_EXPIRY (R81). -/
def execStallTimerExpiry (s : State) : Host.Outcome State Fault Refusal :=
  match s.cool.stallDue with
  | none => .next s
  | some due =>
    let s1 := s.reachAt due
    .next (s1.settleFrom ({ s1 with cool := { s1.cool with stallDue := none, stalled := true } }.liveActive .fanStall))

/-! ## Link command -/

/-- STANDBY, code 32 (R85 to R87, R177). -/
def execStandby (h : Header) (args : List Byte) (s : State) : Host.Outcome State Fault Refusal :=
  linkCommand 32 1 h args (fun t =>
    if 1 < arg args 0 then .refuse .badArg t else .ok (t.powerAsked (some (arg args 0 == 1)))) s

end Sys2Proof.Machine
end

