-- ==== Sys2Proof/Machine/Keys.lean ====
section
/-! DEFINITION. The events of the remote line and of the front panel (chapter 10): REMOTE_FWD to PANEL_KEY_RELEASE. -/

namespace Sys2Proof.Machine

/-! ## The remote line (R157 to R163) -/

/-- A valid frame renews presence (R157); no frame is then in progress. -/
def State.heardHandset (s : State) : State :=
  { s with panel := { s.panel with presenceDue := some (s.clock + secs 2), handsetBits := none } }

/-- The release of the held key ends its auto-step timer and its focus run, and clears the inert mark (R158, R162). -/
def State.releaseHeld (s : State) : State :=
  { s with panel := { s.panel with
      held := none, releaseDue := none, autoDue := none, inert := false, focus := .off, focusDue := none } }

/-- A press is inert at PL 3, and within 150 ms of a power-on or link reset (R162, R163; log 31). -/
def State.pressInert (s : State) : Bool :=
  decide (3 ≤ s.prot.pl) || (match s.panel.resetEnd with
    | none => false
    | some t => decide (s.clock ≤ t + ms 150))

/-- A focus run of 3 s; none is started while the warning stands (R161). -/
def State.startFocus (m : FocusMotor) (s : State) : State :=
  if s.cool.warning then s
  else { s with panel := { s.panel with focus := m, focusDue := some (s.clock + secs 3) } }

/-- A step request of a held key, and its auto-step timer (R159, R160). -/
def State.handsetStep (kind : ReqKind) (next : Nat) (s : State) : State :=
  let s1 := s.offered (plainRequest kind .remote)
  { s1 with panel := { s1.panel with autoDue := some (s.clock + next) } }

/-- What a press that is not inert does (R159). -/
def State.handsetAct (k : HandsetKey) (s : State) : State :=
  match k with
  | .fwd => s.handsetStep .stepFwd (ms 700)
  | .rev => s.handsetStep .stepRev (ms 700)
  | .back => s.offered (plainRequest .ret .remote)
  | .hold => s.takeHold
  | .resume => s.takeResume.removeReason .cueStop
  | .mark => s.markPosition
  | .focusIn => s.startFocus .inward
  | .focusOut => s.startFocus .outward

/-- The press of a key: held, release timer at 250 ms, and its action unless it is inert (R158, R159, R162). -/
def State.handsetPress (k : HandsetKey) (s : State) : State :=
  let s1 := { s with panel := { s.panel with
    held := some k, releaseDue := some (s.clock + ms 250), inert := s.pressInert } }
  if s.pressInert then s1 else s1.handsetAct k

/-- A valid frame of a key: repeat, press, or release of another key and press (R158). -/
def State.handsetKey (k : HandsetKey) (s : State) : State :=
  let s1 := s.heardHandset
  if s1.panel.held = some k then
    { s1 with panel := { s1.panel with releaseDue := some (s1.clock + ms 250) } }
  else if s1.panel.held.isSome then s1.releaseHeld.handsetPress k
  else s1.handsetPress k

/-- A valid frame of no key releases the held key (R158). -/
def State.handsetIdle (s : State) : State :=
  let s1 := s.heardHandset
  if s1.panel.held.isSome then s1.releaseHeld else s1

/-- The code table of section 10.1; 15 is idle, and 0 and 9 to 14 are unassigned. -/
def HandsetKey.ofCode : Nat → Option HandsetKey
  | 1 => some .fwd | 2 => some .rev | 3 => some .hold | 4 => some .resume | 5 => some .mark | 6 => some .back
  | 7 => some .focusIn | 8 => some .focusOut | _ => none

/-- The last four bits are the complement of the first four (R157). The first bit received is bit 7. -/
def frameComplement (bits : BitVec 8) : Bool := bits.toNat / 16 + bits.toNat % 16 == 15

/-- A complete frame of eight bits: a valid one is taken by the kind of its code, any other is ignored whole (R157). -/
def State.handsetFrame (bits : BitVec 8) (s : State) : State :=
  if frameComplement bits then
    match HandsetKey.ofCode (bits.toNat / 16) with
    | some k => s.handsetKey k
    | none => s.handsetIdle
  else { s with panel := { s.panel with handsetBits := none } }

/-- REMOTE_FWD: code 1, complement 14. -/
def execRemoteFwd (s : State) : Host.Outcome State Fault Refusal := .next (s.handsetFrame 0x1E#8)

/-- REMOTE_REV: code 2, complement 13. -/
def execRemoteRev (s : State) : Host.Outcome State Fault Refusal := .next (s.handsetFrame 0x2D#8)

/-- REMOTE_HOLD: code 3, complement 12. -/
def execRemoteHold (s : State) : Host.Outcome State Fault Refusal := .next (s.handsetFrame 0x3C#8)

/-- REMOTE_RESUME: code 4, complement 11. -/
def execRemoteResume (s : State) : Host.Outcome State Fault Refusal := .next (s.handsetFrame 0x4B#8)

/-- REMOTE_MARK: code 5, complement 10. -/
def execRemoteMark (s : State) : Host.Outcome State Fault Refusal := .next (s.handsetFrame 0x5A#8)

/-- REMOTE_BACK: code 6, complement 9. -/
def execRemoteBack (s : State) : Host.Outcome State Fault Refusal := .next (s.handsetFrame 0x69#8)

/-- REMOTE_FOCUS_IN: code 7, complement 8. -/
def execRemoteFocusIn (s : State) : Host.Outcome State Fault Refusal := .next (s.handsetFrame 0x78#8)

/-- REMOTE_FOCUS_OUT: code 8, complement 7. -/
def execRemoteFocusOut (s : State) : Host.Outcome State Fault Refusal := .next (s.handsetFrame 0x87#8)

/-- REMOTE_IDLE_FRAME: the idle code 15 and the unassigned codes 0 and 9 to 14 (R157, R158). -/
def execRemoteIdleFrame (code : BitVec 4) (s : State) : Host.Outcome State Fault Refusal :=
  .next (if (HandsetKey.ofCode code.toNat).isSome then s else s.handsetFrame (code ++ ~~~code))

/-- REMOTE_FRAME_ABANDONED (R157): a pulse of start-pulse width begins a new frame. -/
def execRemoteFrameAbandoned (startPulse : Bool) (s : State) : Host.Outcome State Fault Refusal :=
  .next { s with panel := { s.panel with handsetBits := if startPulse then some [] else none } }

/-- REMOTE_COMPLEMENT_FAIL: the frame is ignored whole (R157). -/
def execRemoteComplementFail (bits : BitVec 8) (s : State) : Host.Outcome State Fault Refusal :=
  .next (if frameComplement bits then s else s.handsetFrame bits)

/-- PRESENCE_TIMEOUT (R157). -/
def execPresenceTimeout (s : State) : Host.Outcome State Fault Refusal :=
  match s.panel.presenceDue with
  | none => .next s
  | some due =>
    let s1 := s.reachAt due
    .next { s1 with panel := { s1.panel with presenceDue := none } }

/-- RELEASE_TIMER_EXPIRY (R158). -/
def execReleaseTimerExpiry (s : State) : Host.Outcome State Fault Refusal :=
  match s.panel.releaseDue with
  | none => .next s
  | some due => .next (s.reachAt due).releaseHeld

/-- AUTO_STEP_EXPIRY (R160): a further request of the same kind, and the timer again at 500 ms. -/
def execAutoStepExpiry (s : State) : Host.Outcome State Fault Refusal :=
  match s.panel.autoDue with
  | none => .next s
  | some due =>
    let s1 := s.reachAt due
    match s.panel.held, s.panel.inert with
    | some .fwd, false => .next (s1.handsetStep .stepFwd (ms 500))
    | some .rev, false => .next (s1.handsetStep .stepRev (ms 500))
    | _, _ => .next { s1 with panel := { s1.panel with autoDue := none } }

/-- FOCUS_RUN_EXPIRY (R161). -/
def execFocusRunExpiry (s : State) : Host.Outcome State Fault Refusal :=
  match s.panel.focusDue with
  | none => .next s
  | some due =>
    let s1 := s.reachAt due
    .next { s1 with panel := { s1.panel with focus := .off, focusDue := none } }

/-! ## The front panel (R164 to R167) -/

def PanelKeys.get (k : PanelKeys) : PanelKey → PanelKeyState
  | .fwd => k.fwd | .rev => k.rev | .home => k.home | .lamp => k.lamp | .tape => k.tape | .hold => k.hold
  | .power => k.power

def PanelKeys.put (k : PanelKeys) (key : PanelKey) (v : PanelKeyState) : PanelKeys :=
  match key with
  | .fwd => { k with fwd := v }
  | .rev => { k with rev := v }
  | .home => { k with home := v }
  | .lamp => { k with lamp := v }
  | .tape => { k with tape := v }
  | .hold => { k with hold := v }
  | .power => { k with power := v }

def State.putKey (key : PanelKey) (v : PanelKeyState) (s : State) : State :=
  { s with panel := { s.panel with keys := s.panel.keys.put key v } }

/-- The press of a panel key: an inert key's has no effect, and one at PL 3 makes the key inert (R164; log 30). -/
def State.panelPress (key : PanelKey) (act : State → State) (s : State) : State :=
  if (s.panel.keys.get key).inert then s
  else if 3 ≤ s.prot.pl then s.putKey key ⟨true, true⟩
  else s.settleFrom (act (s.putKey key ⟨true, false⟩))

/-- PANEL_FWD (R165). -/
def execPanelFwd (s : State) : Host.Outcome State Fault Refusal :=
  .next (s.panelPress .fwd (State.offered (plainRequest .stepFwd .panel)))

/-- PANEL_REV (R165). -/
def execPanelRev (s : State) : Host.Outcome State Fault Refusal :=
  .next (s.panelPress .rev (State.offered (plainRequest .stepRev .panel)))

/-- PANEL_HOME (R165). -/
def execPanelHome (s : State) : Host.Outcome State Fault Refusal :=
  .next (s.panelPress .home (State.offered (plainRequest .home .panel)))

/-- PANEL_POWER (R165, R85 to R87). -/
def execPanelPower (s : State) : Host.Outcome State Fault Refusal :=
  .next (s.panelPress .power (State.powerAsked none))

/-- The panel LAMP key's next switch state (R166). -/
def LampSwitch.cycle : LampSwitch → LampSwitch
  | .off => .eco | .eco => .full | .full => .off

/-- The LAMP key: ignored during COOLING-DOWN, OFF alone in show mode (R45, R166). -/
def State.lampKey (s : State) : State :=
  if s.cool.power = .coolingDown then s
  else if s.link.showMode then (if s.lamp.switch = .off then s else s.writeSwitch .off)
  else s.writeSwitch s.lamp.switch.cycle

/-- PANEL_LAMP (R166). -/
def execPanelLamp (s : State) : Host.Outcome State Fault Refusal := .next (s.panelPress .lamp State.lampKey)

/-- The TAPE key as a toggle, ignored in show mode (R114, R166). -/
def State.tapeKey (s : State) : State :=
  if s.link.showMode then s
  else match s.tape.state with
    | .noCassette => s
    | .stopped | .ended => if s.cool.power = .coolingDown then s else s.tapeOp .play
    | .play | .paused | .fastFwd | .rewind | .seek => s.tapeOp .stop

/-- PANEL_TAPE (R166). -/
def execPanelTape (s : State) : Host.Outcome State Fault Refusal := .next (s.panelPress .tape State.tapeKey)

/-- The long-press timer starts (R167). -/
def State.startLongPress (s : State) : State :=
  { s with panel := { s.panel with longDue := some (s.clock + secs 2) } }

/-- PANEL_HOLD_PRESS (R167). -/
def execPanelHoldPress (s : State) : Host.Outcome State Fault Refusal :=
  .next (s.panelPress .hold State.startLongPress)

/-- The release of the HOLD key before its timer expires is a short press (R167). -/
def State.releaseHoldKey (s : State) : State :=
  let k := s.panel.keys.hold
  let s1 := { s.putKey .hold ⟨false, false⟩ with panel := { (s.putKey .hold ⟨false, false⟩).panel with longDue := none } }
  if k.pressed = true ∧ k.inert = false ∧ s.panel.longDue.isSome = true then
    if s.arb.hold then s1.takeResume else s1.takeHold
  else s1

/-- PANEL_HOLD_RELEASE (R167). -/
def execPanelHoldRelease (s : State) : Host.Outcome State Fault Refusal := .next s.releaseHoldKey

/-- PANEL_HOLD_LONG_PRESS: CLEAR-FAULT (R167, R151). -/
def execPanelHoldLongPress (s : State) : Host.Outcome State Fault Refusal :=
  match s.panel.longDue with
  | none => .next s
  | some due =>
    let s1 := s.reachAt due
    let s2 := { s1 with panel := { s1.panel with longDue := none } }
    if s.panel.keys.hold.pressed = true ∧ s.panel.keys.hold.inert = false then .next (s2.settleFrom s2.clearFault.1)
    else .next s2

/-- PANEL_KEY_RELEASE: the key is released and its inert mark clears (R164). -/
def execPanelKeyRelease (key : PanelKey) (s : State) : Host.Outcome State Fault Refusal :=
  if key = .hold then .next s.releaseHoldKey else .next (s.putKey key ⟨false, false⟩)

end Sys2Proof.Machine
end

