-- ==== Sys2Proof/Machine/Light.lean ====
section
/-! DEFINITION. The commands of the Fade Engine and the Lamp Drive (chapters 3 and 4): RAMP_STEP to MAINS_SILENCE_EXPIRY,
and the link commands FADE, LAMP and LAMP_RESET. -/

namespace Sys2Proof.Machine

/-! ## Ramps and the film guard -/

/-- One ramp step of a channel (R44), and, at the end of the dip ramp, the changer's going on from DIPPING (R68, R8). -/
def State.rampStep (ch : Channel) (sense : Sense) (s : State) : State :=
  let c := s.fade.channel ch
  let s1 := s.reach c.stepDue
  let s2 := s1.putChannel ch (c.stepRamp s1.clock)
  if ch = .lamp ∧ s2.dipComplete = true ∧ s2.changer.state = .dipping then
    { s2 with changer := { s2.changer with sense := sense } }.leaveDipping
  else s2

/-- RAMP_STEP (R44, R63, R68). -/
def execRampStep (ch : Channel) (sense : Sense) (s : State) : Host.Outcome State Fault Refusal :=
  if (s.fade.channel ch).running then .next (s.settleFrom (s.rampStep ch sense)) else .next s

/-- GUARD_TICK (R49, R50): the next tick comes 100 ms after this one was due. -/
def execGuardTick (s : State) : Host.Outcome State Fault Refusal :=
  let s1 := s.reachAt s.lamp.guardDue
  let s2 := { s1 with lamp := { s1.lamp with guardDue := s.lamp.guardDue + ms 100 } }
  .next (s.settleFrom (s2.putGuard (guardStep s.items s.lamp.guardAcc s.effective)))

/-! ## The mains tracker and firing -/

/-- A half-period of 8,000 to 12,000 µs is valid (R55). -/
def validHalf (h : Nat) : Bool := 8000 ≤ h && h ≤ 12000

/-- The tracker at a zero-crossing that ends a half-period of h µs (R55, table). -/
def LampDrive.measure (h : Nat) (l : LampDrive) : LampDrive :=
  if l.mainsNormal then
    if validHalf h then { l with halfPeriod := some h, invalidRun := 0 }
    else if 8 ≤ l.invalidRun + 1 then
      { l with halfPeriod := none, mainsNormal := false, invalidRun := 0, validRun := 0 }
    else { l with halfPeriod := none, invalidRun := l.invalidRun + 1 }
  else if validHalf h then
    if 4 ≤ l.validRun + 1 then { l with halfPeriod := some h, mainsNormal := true, invalidRun := 0, validRun := 0 }
    else { l with halfPeriod := some h, validRun := l.validRun + 1 }
  else { l with halfPeriod := none, validRun := 0 }

/-- The tracker at a zero-crossing: the first after a reset or a silence expiry measures nothing (R55). -/
def LampDrive.crossing (now : Nat) (l : LampDrive) : LampDrive :=
  let l1 := match l.lastCrossing with
    | none => { l with halfPeriod := none }
    | some t => l.measure (now - t)
  { l1 with lastCrossing := some now }

/-- The moment of the firing pulse of the half-period that begins now, if it is fired (R56). -/
def State.firingAt (s : State) : Option Nat :=
  match s.lamp.halfPeriod with
  | none => none
  | some h =>
    if s.lamp.mainsNormal = true ∧ 0 < s.drive ∧ s.cool.warning = false then
      some (s.clock + firingDelay s.law s.drive h)
    else none

/-- ZERO_CROSSING (R54, R55, R56), `dt` µs after the clock's last value (log 34). -/
def execZeroCrossing (dt : Nat) (s : State) : Host.Outcome State Fault Refusal :=
  let s1 := s.elapse dt
  let s2 := { s1 with lamp := s1.lamp.crossing s1.clock }
  .next { s2 with lamp := { s2.lamp with firingDue := s2.firingAt } }

/-- FIRING_PULSE (R56). -/
def execFiringPulse (s : State) : Host.Outcome State Fault Refusal :=
  match s.lamp.firingDue with
  | none => .next s
  | some due =>
    let s1 := s.reachAt due
    .next { s1 with lamp := { s1.lamp with firingDue := none, lastPulse := some s1.clock } }

/-- MAINS_SILENCE_EXPIRY, 50 ms after the last zero-crossing (R55, R56; log 42). -/
def execMainsSilenceExpiry (s : State) : Host.Outcome State Fault Refusal :=
  match s.lamp.lastCrossing with
  | none => .next s
  | some t =>
    let s1 := s.reachAt (t + ms 50)
    .next { s1 with lamp := { s1.lamp with
      halfPeriod := none, mainsNormal := false, invalidRun := 0, validRun := 0, lastCrossing := none, firingDue := none } }

/-! ## Link commands -/

/-- FADE, code 7 (R43, R62, R176). -/
def execFade (h : Header) (args : List Byte) (s : State) : Host.Outcome State Fault Refusal :=
  linkCommand 7 5 h args (fun t =>
    match channelOfCode (arg args 0) with
    | none => .refuse .badArg t
    | some ch => .ok (t.takeFade ch (arg2 args 1) (arg args 3) (flagWaitChange (arg args 4)))) s

/-- LAMP, code 8 (R45, R58, R176). -/
def execLamp (h : Header) (args : List Byte) (s : State) : Host.Outcome State Fault Refusal :=
  linkCommand 8 1 h args (fun t =>
    match switchOfCode (arg args 0) with
    | none => .refuse .badArg t
    | some v => if t.cool.power = .coolingDown ∧ v ≠ .off then .refuse .standby t else .ok (t.writeSwitch v)) s

/-- LAMP-RESET, code 9 (R58, R176). -/
def execLampReset (h : Header) (args : List Byte) (s : State) : Host.Outcome State Fault Refusal :=
  linkCommand 9 0 h args (fun t => .ok t.clearFailed) s

end Sys2Proof.Machine
end

