-- ==== Sys2Proof/Machine/ResetOps.lean ====
section
/-! DEFINITION. What power-on reset and link reset share: the load of the store, every block at its reset values, the
homing that follows; and the link reset with its wait (R173, R177, R186, and the reset tables of every chapter). -/

namespace Sys2Proof.Machine

/-! ## Loading the store (R186) -/

/-- The configuration a load takes (R186). -/
def loadedConfig (image : Image) (good : Bool) : StoredConfig := if good then image.config else factoryConfig

/-- The persisted counters a load takes (R182, R186). -/
def loadedCounters (image : Image) (good : Bool) : Persisted := if good then image.counters else zeroPersisted

/-! ## The blocks after a reset -/

/-- Every block at its reset values, the store loaded from an image (R186 and the reset tables). The model's own clock and
queue are kept (log 32). -/
def State.afterReset (pins : Pins) (strap : BitVec 5) (cooling warning : Bool) (image : Image) (good : Bool)
    (s : State) : State :=
  let cfg := loadedConfig image good
  let usage := usageAfterReset s.clock (loadedCounters image good)
  { changer := changerAfterReset cfg.items.traySize pins
    arb := arbiterAfterReset cfg.items
    fade := fadeAfterReset cfg.items
    lamp := lampAfterReset s.clock
    cool := coolingAfterReset s.clock cooling warning
    scan := scannerAfterReset cfg.slots
    tape := tapeAfterReset pins
    dec := decoderAfterReset s.clock
    cue := cueMapAfterReset
    prot := protectAfterReset
    link := linkAfterReset strap cfg.items (!good) (decide (cfg.items.lampLife ≤ usage.counters.lampFem.value))
    panel := panelAfterReset s.clock pins
    usage := usage
    store := storeAfterLoad image good
    items := cfg.items
    law := cfg.law
    clock := s.clock
    freeCount := s.freeCount
    pending := s.pending }

/-- The homing that a reset starts, with auto-home set and a tray present (R5, R22). -/
def State.autoHome (s : State) : State :=
  if s.items.autoHome = true ∧ s.changer.trayPresent = true then s.homeWithoutRequest else s

/-! ## The link reset (R173, R177, R186) -/

/-- The link reset, made at once (R83, R177, R181). -/
def State.linkReset (pins : Pins) (s : State) : State :=
  let cooling := s.cool.darkStart.isSome || decide (0 < s.drive)
  (s.afterReset pins s.link.strap cooling pins.supplyFail s.store.image s.store.good).autoHome

/-- The link reset waits for the end of the reply, for a save in progress, and for a waiting counter save (R173, R186). -/
def State.resetHeldUp (s : State) : Bool := !s.link.reply.isEmpty || s.store.saving.isSome || s.store.waiting

/-- A link reset that has begun is made as soon as nothing holds it up (R173, R186; log 12). -/
def State.makeDueReset (s : State) : State :=
  match s.link.resetPins with
  | none => s
  | some pins => if s.resetHeldUp then s else s.linkReset pins

/-- A link reset begins with the inputs it finds (R173; log 12). -/
def State.beginReset (pins : Pins) (s : State) : State :=
  { s with link := { s.link with resetPins := some pins } }.makeDueReset

/-- The key inputs as the debounced keys show them (R164). -/
def PanelKeys.closed (k : PanelKeys) : PanelInputs where
  fwd := k.fwd.pressed
  rev := k.rev.pressed
  home := k.home.pressed
  lamp := k.lamp.pressed
  tape := k.tape.pressed
  hold := k.hold.pressed
  power := k.power.pressed

/-- The inputs as the part has them, for a reset whose row carries none: a link reset that begins within RESET-PART (log
12) and the power-on reset of SUPPLY_FAIL_CLEARED (log 36). -/
def State.heldPins (s : State) : Pins where
  strap := s.link.strap
  trayPresent := s.changer.trayPresent
  cassettePresent := s.tape.cassette
  supplyFail := s.cool.warning
  supplyLost := false
  keys := s.panel.keys.closed
  sense := s.changer.sense

end Sys2Proof.Machine
end

