-- ==== Sys2Proof/Machine/Master.lean ====
section
/-! DEFINITION. The show link commands of arbitration, show mode, protection, configuration and reads, and the events of
the port, the counters and the store (chapters 2, 9, 11 and 12). -/

namespace Sys2Proof.Machine

/-! ## Requests and arbitration (R175) -/

/-- A LINK request with the frame's flags and tag (R24). -/
def linkRequest (kind : ReqKind) (target : Option Nat) (flags : Nat) (tag : Byte) : Request :=
  ⟨kind, target, .link, flagNoDip flags, flagWaitFade flags, flagNoPush flags, some tag, none, false⟩

/-- A request offered by the link, answered by its acceptance (R25, R26). -/
def State.linkOffer (r : Request) (s : State) : Answer :=
  let o := s.offer r
  ⟨o.1, o.2, []⟩

/-- STEP, code 1 (R175). -/
def execStep (h : Header) (args : List Byte) (s : State) : Host.Outcome State Fault Refusal :=
  linkCommand 1 3 h args (fun t =>
    if 1 < arg args 0 then .refuse .badArg t
    else t.linkOffer (linkRequest (if arg args 0 = 0 then .stepFwd else .stepRev) none (arg args 1) (args.getD 2 0#8))) s

/-- GOTO, code 2 (R175). -/
def execGoto (h : Header) (args : List Byte) (s : State) : Host.Outcome State Fault Refusal :=
  linkCommand 2 3 h args (fun t =>
    t.linkOffer (linkRequest .goto (some (arg args 0)) (arg args 1) (args.getD 2 0#8))) s

/-- RETURN, code 3 (R175). -/
def execReturn (h : Header) (args : List Byte) (s : State) : Host.Outcome State Fault Refusal :=
  linkCommand 3 2 h args (fun t => t.linkOffer (linkRequest .ret none (arg args 0) (args.getD 1 0#8))) s

/-- HOME, code 4 (R175). -/
def execHome (h : Header) (args : List Byte) (s : State) : Host.Outcome State Fault Refusal :=
  linkCommand 4 2 h args (fun t => t.linkOffer (linkRequest .home none (arg args 0) (args.getD 1 0#8))) s

/-- MARK, code 5 (R34, R175). -/
def execMark (h : Header) (args : List Byte) (s : State) : Host.Outcome State Fault Refusal :=
  linkCommand 5 0 h args (fun t => .ok t.markPosition) s

/-- FLUSH, code 6: the LINK queue, and the report of R41. -/
def execFlush (h : Header) (args : List Byte) (s : State) : Host.Outcome State Fault Refusal :=
  linkCommand 6 0 h args (fun t => .ok t.flushLink.reportCue) s

/-- HOLD, code 10 (R38). -/
def execHold (h : Header) (args : List Byte) (s : State) : Host.Outcome State Fault Refusal :=
  linkCommand 10 0 h args (fun t => .ok t.takeHold) s

/-- RESUME, code 11 (R39). -/
def execResume (h : Header) (args : List Byte) (s : State) : Host.Outcome State Fault Refusal :=
  linkCommand 11 0 h args (fun t => .ok t.takeResume) s

/-- AUTO, code 12 (R36, R175). -/
def execAuto (h : Header) (args : List Byte) (s : State) : Host.Outcome State Fault Refusal :=
  linkCommand 12 1 h args (fun t =>
    if 1 < arg args 0 then .refuse .badArg t else .ok (t.writeAuto (arg args 0 == 1))) s

/-- The five priorities of a PRIORITY command, in the order LINK, CUE, REMOTE, PANEL, DWELL (R31). -/
def prioritiesOf (args : List Byte) : Priorities := ⟨arg args 0, arg args 1, arg args 2, arg args 3, arg args 4⟩

/-- A priority is 0 to 7 (R31). -/
def Priorities.ok (p : Priorities) : Bool := p.link ≤ 7 && p.cue ≤ 7 && p.remote ≤ 7 && p.panel ≤ 7 && p.dwell ≤ 7

/-- PRIORITY, code 13 (R31). -/
def execPriority (h : Header) (args : List Byte) (s : State) : Host.Outcome State Fault Refusal :=
  linkCommand 13 5 h args (fun t =>
    if t.arb.lock then .refuse .locked t
    else if (prioritiesOf args).ok then .ok { t with arb := { t.arb with priority := prioritiesOf args } }
    else .refuse .badArg t) s

/-- LOCK, code 14 (R32, R175). -/
def execLock (h : Header) (args : List Byte) (s : State) : Host.Outcome State Fault Refusal :=
  linkCommand 14 1 h args (fun t =>
    if 1 < arg args 0 then .refuse .badArg t
    else if arg args 0 = 1 then .ok { t with arb := { t.arb with lock := true } }
    else if t.arb.lock = true ∧ t.items.stickyLock = true then .refuse .locked t
    else .ok { t with arb := { t.arb with lock := false } }) s

/-! ## Partner and show mode (R74, R179) -/

/-- FOLLOW, code 19 (R74, R176). -/
def execFollow (h : Header) (args : List Byte) (s : State) : Host.Outcome State Fault Refusal :=
  linkCommand 19 2 h args (fun t =>
    if 1 < arg args 0 then .refuse .badArg t
    else if arg args 0 = 0 then .ok { t with link := { t.link with following := false } }
    else if 30 < arg args 1 ∨ arg args 1 = t.link.strap.toNat then .refuse .badArg t
    else .ok { t with link := { t.link with following := true, partner := some (arg args 1) } }) s

/-- TAKE-SHOW, code 20 (R179). -/
def execTakeShow (h : Header) (args : List Byte) (s : State) : Host.Outcome State Fault Refusal :=
  linkCommand 20 0 h args (fun t =>
    .ok { t with link := { t.link with
      showMode := true, silenceDue := some (t.clock + secs t.items.silenceTime) } }) s

/-- RELEASE-SHOW, code 21 (R179). -/
def execReleaseShow (h : Header) (args : List Byte) (s : State) : Host.Outcome State Fault Refusal :=
  linkCommand 21 0 h args (fun t => .ok { t with link := { t.link with showMode := false, silenceDue := none } }) s

/-- SHOW_MODE_LAPSE (R179, R32). -/
def execShowModeLapse (s : State) : Host.Outcome State Fault Refusal :=
  match s.link.silenceDue with
  | none => .next s
  | some due =>
    let s1 := s.reachAt due
    let s2 := { s1 with
      link := { s1.link with showMode := false, silenceDue := none }
      arb := { s1.arb with lock := if s1.items.stickyLock then s1.arb.lock else false } }
    .next (s2.raiseFlag .showStore)

/-! ## Protection and limits -/

/-- CLEAR-FAULT, code 22 (R151). -/
def execClearFault (h : Header) (args : List Byte) (s : State) : Host.Outcome State Fault Refusal :=
  linkCommand 22 0 h args (fun t => let c := t.clearFault; ⟨c.1, c.2, []⟩) s

/-- A slot without its latched status (R98). -/
def ScanSlot.clearLatch (sl : ScanSlot) : ScanSlot := { sl with latchedHigh := false, latchedLow := false }

/-- LIMIT-CLEAR, code 23 (R98, R177). -/
def execLimitClear (h : Header) (args : List Byte) (s : State) : Host.Outcome State Fault Refusal :=
  linkCommand 23 1 h args (fun t =>
    if arg args 0 ≤ 7 then
      .ok { t with scan := { t.scan with slots := t.scan.slots.modify (arg args 0) ScanSlot.clearLatch } }
    else if arg args 0 = 255 then
      .ok { t with scan := { t.scan with slots := t.scan.slots.map ScanSlot.clearLatch } }
    else .refuse .badArg t) s

/-! ## SET (R177, section 12.4) -/

/-- The ranges of items 0 to 33, in the table's order; on and off are 0 and 1. -/
def itemRanges : List (Nat × Nat) :=
  [ (24, 128), (0, 1), (0, 1), (0, 1), (0, 1000), (0, 50), (0, 255), (0, 1), (0, 1), (0, 999) ] ++
  [ (300, 1000), (300, 1200), (400, 1500), (200, 1000), (60000, 600000), (150, 800), (200, 1000), (0, 100) ] ++
  [ (0, 1000), (0, 30), (0, 1), (200, 1000), (300, 1200), (300, 800), (30, 100), (30, 100), (0, 600), (0, 1) ] ++
  [ (2, 50), (0, 100), (0, 1), (0, 1), (1, 60), (100, 60000) ]

/-- A value lies in an item's range; the partner address may also be none. -/
def itemValueOk (item v : Nat) : Bool :=
  match itemRanges[item]? with
  | none => false
  | some r => (r.1 ≤ v && v ≤ r.2) || (item == 19 && v == absent4)

/-- Write a stored item. -/
def Items.write (item v : Nat) (it : Items) : Items :=
  match item with
  | 0 => { it with traySize := v }
  | 1 => { it with skipEmpty := v == 1 }
  | 2 => { it with autoHome := v == 1 }
  | 3 => { it with dipPolicy := v == 1 }
  | 4 => { it with dipLevel := v }
  | 5 => { it with dipTime := v }
  | 6 => { it with restoreTime := v }
  | 7 => { it with stickyLock := v == 1 }
  | 8 => { it with autoAtStart := v == 1 }
  | 9 => { it with defaultDwell := v }
  | 10 => { it with ecoCeiling := v }
  | 11 => { it with derateStart := v }
  | 12 => { it with derateEnd := v }
  | 13 => { it with derateFloor := v }
  | 14 => { it with guardLimit := v }
  | 15 => { it with filmCeiling := v }
  | 16 => { it with protectGuard := v }
  | 17 => { it with preheat := v }
  | 18 => { it with soundAtStart := v }
  | 19 => { it with partnerAtStart := optOfValue v }
  | 20 => { it with followAtStart := v == 1 }
  | 21 => { it with fanStart := v }
  | 22 => { it with fanFull := v }
  | 23 => { it with coolTemp := v }
  | 24 => { it with lampOnMin := v }
  | 25 => { it with cooldownMin := v }
  | 26 => { it with cooldownTime := v }
  | 27 => { it with homeOnStandby := v == 1 }
  | 28 => { it with tolerance := v }
  | 29 => { it with preroll := v }
  | 30 => { it with autoResync := v == 1 }
  | 31 => { it with lockoutRestart := v == 1 }
  | 32 => { it with silenceTime := v }
  | 33 => { it with lampLife := v }
  | _ => it

/-- Every two adjacent entries differ by more than the tolerance (R126, R130). -/
def spacedBy (tol : Nat) : List CueEntry → Bool
  | [] => true
  | [_] => true
  | a :: b :: rest => a.position + tol < b.position && spacedBy tol (b :: rest)

/-- The pair and map tests (R48, R89, R130). -/
def State.itemPairOk (item v : Nat) (s : State) : Bool :=
  match item with
  | 11 => decide (v < s.items.derateEnd)
  | 12 => decide (s.items.derateStart < v)
  | 21 => decide (v < s.items.fanFull)
  | 22 => decide (s.items.fanStart < v)
  | 28 => spacedBy v s.cue.entries
  | _ => true

/-- A write of T is accepted with no tray, or at position 0 in IDLE (R2). -/
def State.sizeWritable (s : State) : Bool :=
  !s.changer.trayPresent || (s.changer.state == .idle && s.changer.position == some 0)

/-- What an accepted write does beyond the item (R2, R50). -/
def State.itemActs (item v : Nat) (s : State) : State :=
  match item with
  | 0 => { s with changer := { s.changer with map := freshMap v }, arb := { s.arb with stack := [] } }
  | 14 => s.putGuard (min s.lamp.guardAcc v)
  | _ => s

/-- A write of a stored item (R177). -/
def State.setItem (item index v : Nat) (s : State) : Answer :=
  if index ≠ 0 then .refuse .badArg s
  else if itemValueOk item v = false ∨ s.itemPairOk item v = false then .refuse .badArg s
  else if item = 0 ∧ s.sizeWritable = false then .refuse .notHome s
  else .ok ({ s with items := s.items.write item v }.itemActs item v)

/-- The ranges of the slot items 40, 41 and 42; presets may be absent (section 12.4). -/
def slotValueOk (item v : Nat) : Bool :=
  match item with
  | 40 => v ≤ 1
  | 41 => v ≤ 1000 || v == absent4
  | _ => (1 ≤ v && v ≤ 999) || v == absent4

/-- Write a slot item into an entry (R3). -/
def TrayEntry.write (item v : Nat) (e : TrayEntry) : TrayEntry :=
  match item with
  | 40 => { e with skip := v == 1 }
  | 41 => { e with lampPreset := optOfValue v }
  | _ => { e with dwellPreset := optOfValue v }

/-- A write of a slot item (R3, R177). -/
def State.setSlotItem (item index v : Nat) (s : State) : Answer :=
  if index = 0 ∨ s.items.traySize < index then .refuse .badSlot s
  else if slotValueOk item v = false then .refuse .badArg s
  else .ok { s with changer := { s.changer with map := s.changer.map.modify (index - 1) (TrayEntry.write item v) } }

/-- SET, code 24 (R177): the item number is tested first. -/
def execSet (h : Header) (args : List Byte) (s : State) : Host.Outcome State Fault Refusal :=
  linkCommand 24 6 h args (fun t =>
    if arg args 0 ≤ 33 then t.setItem (arg args 0) (arg args 1) (arg4 args 2)
    else if 40 ≤ arg args 0 ∧ arg args 0 ≤ 42 then t.setSlotItem (arg args 0) (arg args 1) (arg4 args 2)
    else .refuse .badArg t) s

/-! ## Continuation sequences (R174) -/

/-- LAW-TABLE, code 25: its head frame. -/
def execLawTable (h : Header) (args : List Byte) (s : State) : Host.Outcome State Fault Refusal :=
  linkCommand 25 6 h args (State.openSequence .lawTable h args 2) s

/-- SCAN-SLOT, code 26: its head frame. -/
def execScanSlot (h : Header) (args : List Byte) (s : State) : Host.Outcome State Fault Refusal :=
  linkCommand 26 3 h args (State.openSequence .scanSlot h args 1) s

/-- CONTINUATION_FRAME (R174). -/
def execContinuationFrame (h : Header) (code : BitVec 6) (args : List Byte) (s : State) :
    Host.Outcome State Fault Refusal :=
  if s.receiverOn then
    match s.frameKind h with
    | .other => .next s.endFrame
    | .partner => .next (s.endFrame.followPartner h true code.toNat args)
    | .own => .next (s.takeContinuation .own h code.toNat args)
    | .broadcast => .next (s.takeContinuation .broadcast h code.toNat args)
  else .next s

/-! ## Store and counters (R184, R185, R187) -/

/-- SAVE, code 27 (R187). -/
def execSave (h : Header) (args : List Byte) (s : State) : Host.Outcome State Fault Refusal :=
  linkCommand 27 0 h args (fun t =>
    if t.store.saving.isSome then .refuse .busy t else .ok (t.startSave ⟨t.runningConfig, t.persisted⟩)) s

/-- SET-COUNTER, code 31 (R184, R177). -/
def execSetCounter (h : Header) (args : List Byte) (s : State) : Host.Outcome State Fault Refusal :=
  linkCommand 31 6 h args (fun t =>
    match counterOfIndex (arg args 0) with
    | none => .refuse .badArg t
    | some i =>
      if 1 < arg args 5 then .refuse .badArg t
      else .ok (t.putCounter i ⟨arg4 args 1, (t.usage.counters.get i).overflow && arg args 5 == 1⟩)) s

/-- SAVE_COMPLETE (R185 to R187): the image is whole, and a waiting counter save starts (log 44); with none, a link reset
that waits is made. -/
def execSaveComplete (s : State) : Host.Outcome State Fault Refusal :=
  match s.store.saving with
  | none => .next s
  | some image =>
    let s1 := s.reach s.store.saveDue
    let s2 := { s1 with store := ⟨image, true, false, none, none, false⟩ }
    .next (if s.store.waiting then s2.startCounterSave else s2).makeDueReset

/-- A seconds accumulator after a tick, and whether a minute is full (R182). -/
def minuteTick (on : Bool) (acc : Nat) : Nat × Bool :=
  if on then (if 60 ≤ acc + 1 then (0, true) else (acc + 1, false)) else (acc, false)

/-- The LAMP-FEM accumulator after a tick at effective level e (R183). -/
def femTick (e acc : Nat) : Nat × Bool := if 60000 ≤ acc + e then (acc + e - 60000, true) else (acc + e, false)

/-- The counters and accumulators at a second tick, from the conditions that stand at it (R182, R183). The counter save
of a LAMP-MIN increment starts after every gain of the tick (R185; log 46). -/
def State.tickCounters (s : State) : State :=
  let fem := femTick s.effective s.usage.femAcc
  let lamp := minuteTick (decide (0 < s.drive)) s.usage.lampAcc
  let fan := minuteTick (decide (0 < s.duty)) s.usage.fanAcc
  let tape := minuteTick (s.tape.state == .play) s.usage.tapeAcc
  let s1 := { s with usage := { s.usage with
    uptime := s.usage.uptime + 1, femAcc := fem.1, lampAcc := lamp.1, fanAcc := fan.1, tapeAcc := tape.1 } }
  let s2 := (((s1.gainCounterIf fem.2 .lampFem).gainCounterIf lamp.2 .lampMin).gainCounterIf fan.2 .fanMin).gainCounterIf
    tape.2 .tapeMin
  if lamp.2 = true ∧ s2.usage.counters.lampMin.value % 10 = 0 then s2.requestCounterSave else s2

/-- SECOND_TICK (R182, R183, R185): the next tick comes 1 s after this one was due. -/
def execSecondTick (s : State) : Host.Outcome State Fault Refusal :=
  let s1 := s.reachAt s.usage.secondDue
  let s2 := { s1 with usage := { s1.usage with secondDue := s.usage.secondDue + secs 1 } }
  .next (s.settleFrom s2.tickCounters)

/-! ## Reads (R178) -/

/-- READ, code 28: the data and the clearing of the item's flag are one act. -/
def execRead (h : Header) (args : List Byte) (s : State) : Host.Outcome State Fault Refusal :=
  linkCommand 28 2 h args (fun t =>
    if 8 < arg args 0 then .refuse .badArg t
    else
      let t1 := match readFlag (arg args 0) with
        | none => t
        | some f => t.clearFlag f
      let t2 := if t.readDraws (arg args 0) then { t1 with freeCount := t.freeCount + 1 } else t1
      ⟨t2, .accepted, t.readItem (arg args 0) (arg args 1)⟩) s

/-- READ-COMPLETION, code 29 (R40, R178). -/
def execReadCompletion (h : Header) (args : List Byte) (s : State) : Host.Outcome State Fault Refusal :=
  linkCommand 29 0 h args (fun t =>
    match t.arb.completions with
    | [] => .ok t
    | c :: rest =>
      let t1 := { t with arb := { t.arb with completions := rest } }
      ⟨if rest = [] then t1.clearFlag .completion else t1, .accepted, c.bytes⟩) s

/-- READ-COUNTERS, code 30 (R178, R184). -/
def execReadCounters (h : Header) (args : List Byte) (s : State) : Host.Outcome State Fault Refusal :=
  linkCommand 30 0 h args (fun t => ⟨t.clearFlag .counter, .accepted, t.counterBytes⟩) s

/-! ## The port (R169 to R172, R75) -/

/-- UNKNOWN_COMMAND (R172 test 1). -/
def execUnknownCommand (h : Header) (code : BitVec 6) (args : List Byte) (s : State) :
    Host.Outcome State Fault Refusal :=
  if knownCode code then .next s else .next (s.commandFrame code.toNat h args (.refuse .unknownCommand))

/-- PARTNER_FRAME (R75, R76). -/
def execPartnerFrame (h : Header) (cont : Bool) (code : BitVec 6) (args : List Byte) (s : State) :
    Host.Outcome State Fault Refusal :=
  if s.receiverOn = true ∧ s.frameKind h = .partner then
    .next (s.endFrame.followPartner h cont code.toNat args)
  else .next s

/-- A complete frame by its length (R170). -/
def frameComplete (f : List Byte) : Bool :=
  f.getD 0 0#8 == 0xD3#8 && decide (5 ≤ f.length) && (f.getD 3 0#8).toNat + 5 == f.length

/-- The two tests of R170. -/
def frameValid (f : List Byte) : Bool :=
  f.getD (f.length - 1) 0#8 == checkByte ((f.take (f.length - 1)).drop 1) && !(f.getD 2 0#8).getLsbD 6

/-- FRAME_DISCARDED (R170). -/
def execFrameDiscarded (frame : List Byte) (s : State) : Host.Outcome State Fault Refusal :=
  let f := s.link.rxFrame ++ frame
  if s.receiverOn = true ∧ frameComplete f = true ∧ frameValid f = false then .next s.endFrame.linkError else .next s

/-- FRAME_GAP_DISCARD (R169). -/
def execFrameGapDiscard (gathered : List Byte) (s : State) : Host.Outcome State Fault Refusal :=
  .next (s.discardFrame gathered)

/-- BYTE_WITH_NO_STOP_BIT (R169). -/
def execByteWithNoStopBit (gathered : List Byte) (s : State) : Host.Outcome State Fault Refusal :=
  .next (s.discardFrame gathered)

/-- LENGTH_BYTE_ABOVE_8 (R169): the length byte is the fourth of a frame. -/
def execLengthByteAbove8 (gathered : List Byte) (len : Byte) (s : State) : Host.Outcome State Fault Refusal :=
  if 8 < len.toNat ∧ (s.link.rxFrame ++ gathered).length = 3 then .next (s.discardFrame gathered) else .next s

/-- REPLY_DRIVER_RELEASE (R169, R173): a link reset that waits for the reply's end is made. -/
def execReplyDriverRelease (s : State) : Host.Outcome State Fault Refusal :=
  .next { s with link := { s.link with reply := [] } }.makeDueReset

end Sys2Proof.Machine
end

