-- ==== Sys2Proof/Machine/Resets.lean ====
section
/-! DEFINITION. The resets and stopping actions (00_scope.md, 'Resets and Stopping Actions', and the reset tables of every
chapter): POWER_ON_RESET to SUPPLY_FAIL_CLEARED. -/

namespace Sys2Proof.Machine

/-! ## Loading the store (R185, R186) -/

/-- An image whose writing was cut off: the checksum fails, and what it holds is open (R185; log 13). -/
def tornImage (takesNew : Bool) (old new : Image) : Image := if takesNew then new else old

/-- The image and its checksum as a power-on reset finds them (R185, R186; log 13). -/
def State.imageAtPowerOn (supplyLost : Bool) (s : State) : Image × Bool :=
  match s.store.saving with
  | none => (s.store.image, s.store.good)
  | some new =>
    if supplyLost = false ∧ Config.saveSurvives s.freeCount = true then (new, true)
    else (tornImage (Config.tornTakesNew s.freeCount) s.store.image new, false)

/-! ## Power-on reset and link reset -/

/-- The power-on reset of the whole part: a save it cuts short draws a free value (R186; log 13). -/
def State.powerOn (pins : Pins) (s : State) : State :=
  let found := s.imageAtPowerOn pins.supplyLost
  let s1 := s.afterReset pins pins.strap false false found.1 found.2
  let s2 := if s.store.saving.isSome then { s1 with freeCount := s.freeCount + 1 } else s1
  s2.autoHome

/-- POWER_ON_RESET (R22, R171, R186). -/
def execPowerOnReset (pins : Pins) (s : State) : Host.Outcome State Fault Refusal := .next (s.powerOn pins)

/-- A RESET-PART frame is taken and gets no reply: it is a broadcast one, or its reply bit is clear (R172, R173). -/
def State.resetsAtOnce (h : Header) (args : List Byte) (s : State) : Bool :=
  s.receiverOn && args.isEmpty
    && match s.frameKind h with
      | .broadcast => true
      | .own => !h.reply
      | .partner | .other => false

/-- RESET-PART, code 33: the link reset is due, and LINK_RESET begins it at the end of the reply; with no reply it begins
at once (R173, R177; log 12). -/
def execResetPart (h : Header) (args : List Byte) (s : State) : Host.Outcome State Fault Refusal :=
  let t := s.commandFrame 33 h args
    (commandTests 33 0 args (fun t => .ok { t with link := { t.link with resetDue := true } }))
  .next (if s.resetsAtOnce h args then t.beginReset t.heldPins else t)

/-- LINK_RESET: the link reset that RESET-PART asked for begins; without one nothing does (R173, R177; log 12). -/
def execLinkReset (pins : Pins) (s : State) : Host.Outcome State Fault Refusal :=
  .next (if s.link.resetDue then s.beginReset pins else s)

/-! ## Mechanism restart (R155) -/

/-- The LAMP channel and the watch at a restart (R42, R65, R71). -/
def State.restartFade (s : State) : State := { s with fade := { s.fade with lamp := steadyChannel 0, watch := none } }

/-- The lamp drive at a restart (section 3.10). -/
def LampDrive.restart (l : LampDrive) : LampDrive :=
  { l with switch := .off, cycled := false, failCount := 0, guardAcc := 0, guardEngaged := false, mainsNormal := false,
           halfPeriod := none, invalidRun := 0, validRun := 0, lastCrossing := none, firingDue := none }

/-- The arbiter's own part (section 2.9). -/
def Arbiter.restart (a : Arbiter) : Arbiter :=
  { a with stack := [], dwellDue := none, shadow := a.shadow.map (fun h => { h with remainder := none }) }

/-- The scanner: results absent, a pass at once (R95). -/
def Scanner.restart (sc : Scanner) : Scanner := ⟨sc.slots.map (fun sl => { sl with result := none }), none⟩

/-- The transport (R107). -/
def Tape.restart (t : Tape) : Tape :=
  { t with pause := noPause, standing := { t.standing with queue := false, safe := false },
           tachDue := none, seekTarget := none }

/-- The Protect Unit (R155). -/
def Protect.restart (p : Protect) : Protect :=
  { p with pl := 0, stack := [], last := { p.last with restarts := min 255 (p.last.restarts + 1) } }

/-- The keys (R161, R163, R164); a handset frame in progress is kept (log 52). -/
def RemotePanel.restart (keys : PanelInputs) (p : RemotePanel) : RemotePanel :=
  { p with inert := p.held.isSome, autoDue := none, focus := .off, focusDue := none, keys := keysAfterReset keys,
           longDue := none }

/-- Every block but the changer and the queues (R155, table). -/
def State.restartBlocks (pins : Pins) (s : State) : State :=
  { s with
    arb := s.arb.restart
    lamp := s.lamp.restart
    cool := { s.cool with th := none, lastTach := none, speed := none, warning := pins.supplyFail }
    scan := s.scan.restart
    tape := s.tape.restart
    dec := { s.dec with trackers := idleTrackers }
    cue := { s.cue with debt := 0, queueLen := 0, queueAsked := false }
    prot := s.prot.restart
    panel := s.panel.restart pins.keys
    changer := { s.changer with sense := pins.sense } }.raiseFlag .fault

/-- A mechanism restart: the change in flight ends ABORTED without increments, the queues are flushed, every block takes
its restart values, and a homing starts if a tray is present (R22, R155). The change ends before the flush (log 47). -/
def State.restart (pins : Pins) (s : State) : State :=
  let s1 := (s.restartFade.abortToLost false)
  let s2 := ({ s1 with cue := { s1.cue with debt := 0 } }.flushAll).restartBlocks pins
  if s2.changer.trayPresent then s2.homeWithoutRequest else s2

/-- MECHANISM_RESTART, taken at PL 3 with lockout restart on, when the three conditions hold (R154; log 4). -/
def execMechanismRestart (pins : Pins) (s : State) : Host.Outcome State Fault Refusal :=
  if s.items.lockoutRestart = true ∧ s.prot.pl = 3 ∧ s.restartReady = true then .next (s.settleFrom (s.restart pins))
  else .next s

/-! ## The supply-fail warning (R88) -/

/-- SUPPLY_FAIL_WARNING (R88, R21, R56, R114, R161, R185): a second assertion changes nothing. -/
def execSupplyFailWarning (s : State) : Host.Outcome State Fault Refusal :=
  if s.cool.warning then .next s
  else
    let s1 := { s with cool := { s.cool with warning := true, stallDue := none } }
    let s2 := (s1.abortToLost true).stopTape .supplyFail
    let s3 := { s2 with
      lamp := { s2.lamp with firingDue := none }
      panel := { s2.panel with focus := .off, focusDue := none } }
    .next (s.settleFrom s3.requestCounterSave)

/-- SUPPLY_FAIL_CLEARED: the warning clears and the power-on reset of the whole part follows, with the supply kept and
the inputs as the part has them (R21, R88; log 36). -/
def execSupplyFailCleared (s : State) : Host.Outcome State Fault Refusal :=
  .next (if s.cool.warning then s.powerOn { s.heldPins with supplyFail := false } else s)

end Sys2Proof.Machine
end

