-- ==== Sys2Proof/Machine/Tray.lean ====
section
/-! DEFINITION. The commands of the Tray Changer and the grant (chapters 1 and 2): GRANT to DWELL_EXPIRY. An event whose
condition does not hold in the state changes nothing (log 3). -/

namespace Sys2Proof.Machine

/-! ## The counted steps -/

/-- An index pulse in ROTATE (R12). -/
def State.rotateStep (r : ChangeRecord) (p : Nat) (s : State) : State :=
  let r' := { r with stepsMade := r.stepsMade + 1, moved := true }
  let s1 := s.putChanger { s.changer with
    position := some (ringStep (r.direction.getD .forward) s.items.traySize p)
    record := some r', stageDue := some (s.clock + ms 150) }
  if r.planned ≤ r'.stepsMade then s1.arrive .done else s1

/-- An index pulse in RETURNING (R13). -/
def State.returnStep (r : ChangeRecord) (p : Nat) (s : State) : State :=
  let r' := { r with stepsBack := r.stepsBack - 1, moved := true }
  let s1 := s.putChanger { s.changer with
    position := some (ringStep (r.direction.getD .forward).opposite s.items.traySize p)
    record := some r', stageDue := some (s.clock + ms 150) }
  if r'.stepsBack = 0 then s1.arrive .restored else s1

/-- An index pulse in the search of a homing (R18 step 3). The pulse that reaches T + 2 without the mark is the last
that is counted (log 41). -/
def State.homingStep (r : ChangeRecord) (s : State) : State :=
  let s1 := s.putChanger { s.changer with
    record := some { r with homingSteps := r.homingSteps + 1, moved := true }, stageDue := some (s.clock + ms 150) }
  if s.changer.sense.homeMark then s1.homingSuccess else s1

/-- A jam clear with nothing in flight or an index pulse by hand: LOST, and pending fades are taken (R19, R64). -/
def State.lostByHand (s : State) : State := s.enterLost.takePendings

/-- The end of a drop (R14): the entry by the reading, the outcome by `restoring`, the film guard zeroed when the slide
is found, then SETTLE. -/
def State.endDrop (slide : Bool) (s : State) : State :=
  match s.changer.record with
  | none => s
  | some r =>
    let o := if r.restoring then ChangeOutcome.restored else if slide then .done else .empty
    let s1 := (s.markEntry (if slide then .inGate else .empty)).putRecord { r with found := slide }
    (if slide then s1.zeroGuard else s1).enterSettle o

/-! ## The commands -/

/-- GRANT (R28): the changer's readings of the gate and the home mark come with it (log 5). -/
def execGrant (sense : Sense) (s : State) : Host.Outcome State Fault Refusal :=
  .next (({ s with changer := { s.changer with sense := sense } }.grantOnce).getD s)

/-- INDEX_PULSE (R12, R13, R18, R19). -/
def execIndexPulse (homeMark : Bool) (s : State) : Host.Outcome State Fault Refusal :=
  let s0 := { s with changer := { s.changer with sense := { s.changer.sense with homeMark := homeMark } } }
  match s.changer.state, s.changer.record, s.changer.position with
  | .idle, _, _ => .next (s.settleFrom s0.lostByHand)
  | .rotate, some r, some p => .next (s0.rotateStep r p)
  | .returning, some r, some p => .next (s0.returnStep r p)
  | .homing, some r, _ =>
    if s.changer.homingLift = true ∨ s.items.traySize + 2 ≤ r.homingSteps then .next s0
    else .next (s.settleFrom (s0.homingStep r))
  | _, _, _ => .next s0

/-- HOMING_STEP_COUNT_REACHED (R18 step 4): T + 2 steps without the home mark. -/
def execHomingStepCountReached (s : State) : Host.Outcome State Fault Refusal :=
  match s.changer.state, s.changer.record with
  | .homing, some r =>
    if s.items.traySize + 2 ≤ r.homingSteps then .next (s.settleFrom (s.failHoming .homeFail)) else .next s
  | _, _ => .next s

/-- ROTATE_STEP_TIMEOUT (R12): one retry on the first step, RETURNING otherwise. -/
def execRotateStepTimeout (s : State) : Host.Outcome State Fault Refusal :=
  match s.changer.state, s.changer.record with
  | .rotate, some r =>
    let s1 := s.reach s.changer.stageDue
    if r.stepsMade = 0 ∧ r.retryUsed = false then
      .next (s1.putChanger { s1.changer with
        record := some { r with retryUsed := true }, stageDue := some (s1.clock + ms 150) })
    else .next (s1.startReturn r)
  | _, _ => .next s

/-- RETURN_STEP_TIMEOUT (R13): JAMMED, then TRAY-JAM (log 18). -/
def execReturnStepTimeout (s : State) : Host.Outcome State Fault Refusal :=
  match s.changer.state with
  | .returning =>
    let s1 := s.reach s.changer.stageDue
    .next (s1.settleFrom ((s1.endChange .jammed .jammed true).raise .trayJam))
  | _ => .next s

/-- HOMING_STEP_TIMEOUT (R18 step 4). -/
def execHomingStepTimeout (s : State) : Host.Outcome State Fault Refusal :=
  match s.changer.state with
  | .homing =>
    if s.changer.homingLift then .next s
    else
      let s1 := s.reach s.changer.stageDue
      .next (s1.settleFrom (s1.failHoming .homeFail))
  | _ => .next s

/-- GATE_CLEAR_IN_LIFT (R9, R18 step 1): the entry becomes LOADED, and the change or the homing goes on. -/
def execGateClearInLift (homeMark : Bool) (s : State) : Host.Outcome State Fault Refusal :=
  let s0 := { s with changer := { s.changer with sense := ⟨false, homeMark⟩ } }
  match s.changer.state with
  | .lift => .next (s0.markEntry .loaded).liftDone
  | .homing => if s.changer.homingLift then .next (s.settleFrom s0.homingSearch) else .next s
  | _ => .next s

/-- LIFT_LIMIT_EXPIRY (R9, R18 step 1): a gate jam, then GATE-JAM (log 18). -/
def execLiftLimitExpiry (s : State) : Host.Outcome State Fault Refusal :=
  let s1 := s.reach s.changer.stageDue
  match s.changer.state with
  | .lift => .next (s1.settleFrom ((s1.endChange .jammed .idle true).raise .gateJam))
  | .homing => if s.changer.homingLift then .next (s1.settleFrom (s1.failHoming .gateJam)) else .next s
  | _ => .next s

/-- GATE_OCCUPIED_IN_DROP (R14). -/
def execGateOccupiedInDrop (s : State) : Host.Outcome State Fault Refusal :=
  match s.changer.state with
  | .drop =>
    let s0 := { s with changer := { s.changer with sense := { s.changer.sense with gateOccupied := true } } }
    .next (s.settleFrom (s0.endDrop true))
  | _ => .next s

/-- DROP_LIMIT_EXPIRY (R14). -/
def execDropLimitExpiry (s : State) : Host.Outcome State Fault Refusal :=
  match s.changer.state with
  | .drop => .next ((s.reach s.changer.stageDue).endDrop false)
  | _ => .next s

/-- SETTLE_EXPIRY (R15, R30, R37): the change ends, and a slide left in the gate starts or primes the dwell timer. -/
def execSettleExpiry (s : State) : Host.Outcome State Fault Refusal :=
  match s.changer.state, s.changer.record with
  | .settle, some r =>
    let s1 := s.reach s.changer.stageDue
    let s2 := s1.endChange (r.outcome.getD .done) .idle true
    .next (s1.settleFrom (if s2.changer.state = .idle then s2.startDwell else s2))
  | _, _ => .next s

/-- TRAY_REMOVAL (R20, R33, R41): what is in flight ends and the changer is LOST before the flush, so that its own
completion entry comes first and the flushed ones carry an unknown position (log 47). -/
def execTrayRemoval (s : State) : Host.Outcome State Fault Refusal :=
  if s.changer.trayPresent then
    let s0 := { s with changer := { s.changer with trayPresent := false } }
    let s1 := (s0.abortToLost true).flushAll
    .next (s.settleFrom { s1 with arb := { s1.arb with stack := [] } })
  else .next s

/-- TRAY_INSERTION (R20). -/
def execTrayInsertion (sense : Sense) (s : State) : Host.Outcome State Fault Refusal :=
  if s.changer.trayPresent then .next s
  else
    let s0 := { s with changer := { s.changer with trayPresent := true, sense := sense } }
    if s.items.autoHome = true ∧ s.changer.state = .lost then .next (s.settleFrom s0.homeWithoutRequest) else .next s0

/-- DWELL_EXPIRY (R37). -/
def execDwellExpiry (s : State) : Host.Outcome State Fault Refusal :=
  match s.arb.dwellDue with
  | none => .next s
  | some due => .next ((s.reachAt due).cancelDwell.offered (plainRequest .stepFwd .dwell))

end Sys2Proof.Machine
end

