-- ==== Sys2Proof/Machine/Dispatch.lean ====
section
/-! DEFINITION. The dispatch: one arm for each command, each one call of its meaning. -/

namespace Sys2Proof.Machine

/-- The effect of a command on everything but the queue. -/
def exec (i : Instr) (s : State) : Host.Outcome State Fault Refusal :=
  match i with
  | .powerOnReset pins => Sys2Proof.Machine.execPowerOnReset pins s
  | .resetPart h args => Sys2Proof.Machine.execResetPart h args s
  | .linkReset pins => Sys2Proof.Machine.execLinkReset pins s
  | .mechanismRestart pins => Sys2Proof.Machine.execMechanismRestart pins s
  | .supplyFailWarning => Sys2Proof.Machine.execSupplyFailWarning s
  | .supplyFailCleared => Sys2Proof.Machine.execSupplyFailCleared s
  | .grant sense => Sys2Proof.Machine.execGrant sense s
  | .indexPulse homeMark => Sys2Proof.Machine.execIndexPulse homeMark s
  | .homingStepCountReached => Sys2Proof.Machine.execHomingStepCountReached s
  | .rotateStepTimeout => Sys2Proof.Machine.execRotateStepTimeout s
  | .returnStepTimeout => Sys2Proof.Machine.execReturnStepTimeout s
  | .homingStepTimeout => Sys2Proof.Machine.execHomingStepTimeout s
  | .gateClearInLift homeMark => Sys2Proof.Machine.execGateClearInLift homeMark s
  | .liftLimitExpiry => Sys2Proof.Machine.execLiftLimitExpiry s
  | .gateOccupiedInDrop => Sys2Proof.Machine.execGateOccupiedInDrop s
  | .dropLimitExpiry => Sys2Proof.Machine.execDropLimitExpiry s
  | .settleExpiry => Sys2Proof.Machine.execSettleExpiry s
  | .trayRemoval => Sys2Proof.Machine.execTrayRemoval s
  | .trayInsertion sense => Sys2Proof.Machine.execTrayInsertion sense s
  | .dwellExpiry => Sys2Proof.Machine.execDwellExpiry s
  | .rampStep ch sense => Sys2Proof.Machine.execRampStep ch sense s
  | .guardTick => Sys2Proof.Machine.execGuardTick s
  | .zeroCrossing dt => Sys2Proof.Machine.execZeroCrossing dt s
  | .firingPulse => Sys2Proof.Machine.execFiringPulse s
  | .mainsSilenceExpiry => Sys2Proof.Machine.execMainsSilenceExpiry s
  | .scanPass raws => Sys2Proof.Machine.execScanPass raws s
  | .cooldownMinTimeReached => Sys2Proof.Machine.execCooldownMinTimeReached s
  | .offTimeout => Sys2Proof.Machine.execOffTimeout s
  | .fanTachPulse dt => Sys2Proof.Machine.execFanTachPulse dt s
  | .speedTimeout => Sys2Proof.Machine.execSpeedTimeout s
  | .stallTimerExpiry => Sys2Proof.Machine.execStallTimerExpiry s
  | .tapeTachPulse => Sys2Proof.Machine.execTapeTachPulse s
  | .tapeTachTimerExpiry leader trailer => Sys2Proof.Machine.execTapeTachTimerExpiry leader trailer s
  | .leaderReached => Sys2Proof.Machine.execLeaderReached s
  | .cassetteRemoval => Sys2Proof.Machine.execCassetteRemoval s
  | .cassetteInsertion => Sys2Proof.Machine.execCassetteInsertion s
  | .windowClose count => Sys2Proof.Machine.execWindowClose count s
  | .secondTick => Sys2Proof.Machine.execSecondTick s
  | .saveComplete => Sys2Proof.Machine.execSaveComplete s
  | .frameGapDiscard gathered => Sys2Proof.Machine.execFrameGapDiscard gathered s
  | .frameDiscarded frame => Sys2Proof.Machine.execFrameDiscarded frame s
  | .unknownCommand h code args => Sys2Proof.Machine.execUnknownCommand h code args s
  | .partnerFrame h cont code args => Sys2Proof.Machine.execPartnerFrame h cont code args s
  | .continuationFrame h code args => Sys2Proof.Machine.execContinuationFrame h code args s
  | .step h args => Sys2Proof.Machine.execStep h args s
  | .goto h args => Sys2Proof.Machine.execGoto h args s
  | .ret h args => Sys2Proof.Machine.execReturn h args s
  | .home h args => Sys2Proof.Machine.execHome h args s
  | .mark h args => Sys2Proof.Machine.execMark h args s
  | .flush h args => Sys2Proof.Machine.execFlush h args s
  | .fade h args => Sys2Proof.Machine.execFade h args s
  | .lamp h args => Sys2Proof.Machine.execLamp h args s
  | .lampReset h args => Sys2Proof.Machine.execLampReset h args s
  | .hold h args => Sys2Proof.Machine.execHold h args s
  | .resume h args => Sys2Proof.Machine.execResume h args s
  | .auto h args => Sys2Proof.Machine.execAuto h args s
  | .priority h args => Sys2Proof.Machine.execPriority h args s
  | .lock h args => Sys2Proof.Machine.execLock h args s
  | .tape h args => Sys2Proof.Machine.execTape h args s
  | .seekCue h args => Sys2Proof.Machine.execSeekCue h args s
  | .bindCue h args => Sys2Proof.Machine.execBindCue h args s
  | .clearMap h args => Sys2Proof.Machine.execClearMap h args s
  | .follow h args => Sys2Proof.Machine.execFollow h args s
  | .takeShow h args => Sys2Proof.Machine.execTakeShow h args s
  | .releaseShow h args => Sys2Proof.Machine.execReleaseShow h args s
  | .clearFault h args => Sys2Proof.Machine.execClearFault h args s
  | .limitClear h args => Sys2Proof.Machine.execLimitClear h args s
  | .set h args => Sys2Proof.Machine.execSet h args s
  | .lawTable h args => Sys2Proof.Machine.execLawTable h args s
  | .scanSlot h args => Sys2Proof.Machine.execScanSlot h args s
  | .save h args => Sys2Proof.Machine.execSave h args s
  | .read h args => Sys2Proof.Machine.execRead h args s
  | .readCompletion h args => Sys2Proof.Machine.execReadCompletion h args s
  | .readCounters h args => Sys2Proof.Machine.execReadCounters h args s
  | .setCounter h args => Sys2Proof.Machine.execSetCounter h args s
  | .standby h args => Sys2Proof.Machine.execStandby h args s
  | .showModeLapse => Sys2Proof.Machine.execShowModeLapse s
  | .remoteFwd => Sys2Proof.Machine.execRemoteFwd s
  | .remoteRev => Sys2Proof.Machine.execRemoteRev s
  | .remoteHold => Sys2Proof.Machine.execRemoteHold s
  | .remoteResume => Sys2Proof.Machine.execRemoteResume s
  | .remoteMark => Sys2Proof.Machine.execRemoteMark s
  | .remoteBack => Sys2Proof.Machine.execRemoteBack s
  | .remoteFocusIn => Sys2Proof.Machine.execRemoteFocusIn s
  | .remoteFocusOut => Sys2Proof.Machine.execRemoteFocusOut s
  | .remoteIdleFrame code => Sys2Proof.Machine.execRemoteIdleFrame code s
  | .remoteFrameAbandoned startPulse => Sys2Proof.Machine.execRemoteFrameAbandoned startPulse s
  | .remoteComplementFail bits => Sys2Proof.Machine.execRemoteComplementFail bits s
  | .presenceTimeout => Sys2Proof.Machine.execPresenceTimeout s
  | .releaseTimerExpiry => Sys2Proof.Machine.execReleaseTimerExpiry s
  | .autoStepExpiry => Sys2Proof.Machine.execAutoStepExpiry s
  | .focusRunExpiry => Sys2Proof.Machine.execFocusRunExpiry s
  | .panelFwd => Sys2Proof.Machine.execPanelFwd s
  | .panelRev => Sys2Proof.Machine.execPanelRev s
  | .panelHome => Sys2Proof.Machine.execPanelHome s
  | .panelPower => Sys2Proof.Machine.execPanelPower s
  | .panelLamp => Sys2Proof.Machine.execPanelLamp s
  | .panelTape => Sys2Proof.Machine.execPanelTape s
  | .panelHoldPress => Sys2Proof.Machine.execPanelHoldPress s
  | .panelHoldRelease => Sys2Proof.Machine.execPanelHoldRelease s
  | .panelHoldLongPress => Sys2Proof.Machine.execPanelHoldLongPress s
  | .panelKeyRelease key => Sys2Proof.Machine.execPanelKeyRelease key s
  | .byteWithNoStopBit gathered => Sys2Proof.Machine.execByteWithNoStopBit gathered s
  | .lengthByteAbove8 gathered len => Sys2Proof.Machine.execLengthByteAbove8 gathered len s
  | .replyDriverRelease => Sys2Proof.Machine.execReplyDriverRelease s

end Sys2Proof.Machine
end

