-- ==== Sys2Proof/Safety.lean ====
section
/-! DEFINITION. The terms that the statements use: which blocks a step changes, how a frame reaches the part, and the laws
of the state that the manual gives. -/

namespace Sys2Proof.Machine

/-! ## What a step leaves alone -/

/-- The blocks of 00_scope.md, the configuration in force, and the model's own fields. -/
inductive Block where
  | changer | arb | fade | lamp | cool | scan | tape | dec | cue | prot | link | panel | usage | store | items | law
  | clock | freeCount | pending
  deriving DecidableEq, Repr

/-- A block reads the same in both states. -/
def State.same (b : Block) (s t : State) : Prop :=
  match b with
  | .changer => t.changer = s.changer
  | .arb => t.arb = s.arb
  | .fade => t.fade = s.fade
  | .lamp => t.lamp = s.lamp
  | .cool => t.cool = s.cool
  | .scan => t.scan = s.scan
  | .tape => t.tape = s.tape
  | .dec => t.dec = s.dec
  | .cue => t.cue = s.cue
  | .prot => t.prot = s.prot
  | .link => t.link = s.link
  | .panel => t.panel = s.panel
  | .usage => t.usage = s.usage
  | .store => t.store = s.store
  | .items => t.items = s.items
  | .law => t.law = s.law
  | .clock => t.clock = s.clock
  | .freeCount => t.freeCount = s.freeCount
  | .pending => t.pending = s.pending

/-- t differs from s in the named blocks at most. -/
def State.onlyChanges (bs : List Block) (s t : State) : Prop := ∀ b, b ∉ bs → s.same b t

/-! ## The show link -/

/-- The command table of section 11.3: the command of a code. -/
def linkInstr (code : Nat) (h : Header) (args : List Byte) : Option Instr :=
  match code with
  | 1 => some (.step h args) | 2 => some (.goto h args) | 3 => some (.ret h args) | 4 => some (.home h args)
  | 5 => some (.mark h args) | 6 => some (.flush h args) | 7 => some (.fade h args) | 8 => some (.lamp h args)
  | 9 => some (.lampReset h args) | 10 => some (.hold h args) | 11 => some (.resume h args)
  | 12 => some (.auto h args) | 13 => some (.priority h args) | 14 => some (.lock h args) | 15 => some (.tape h args)
  | 16 => some (.seekCue h args) | 17 => some (.bindCue h args) | 18 => some (.clearMap h args)
  | 19 => some (.follow h args) | 20 => some (.takeShow h args) | 21 => some (.releaseShow h args)
  | 22 => some (.clearFault h args) | 23 => some (.limitClear h args) | 24 => some (.set h args)
  | 25 => some (.lawTable h args) | 26 => some (.scanSlot h args) | 27 => some (.save h args)
  | 28 => some (.read h args) | 29 => some (.readCompletion h args) | 30 => some (.readCounters h args)
  | 31 => some (.setCounter h args) | 32 => some (.standby h args) | 33 => some (.resetPart h args)
  | _ => none

/-- The command table of section 11.3: the argument length of a code. -/
def argLength (code : Nat) : Nat :=
  [0, 3, 3, 2, 2, 0, 0, 5, 1, 0, 0, 0, 1, 5, 1, 1, 1, 2, 0, 2, 0, 0, 0, 1, 6, 6, 3, 0, 2, 0, 0, 6, 1, 0].getD code 0

/-- The receiver is on, and the frame is an own or a broadcast one (R169, R170). -/
abbrev State.takes (h : Header) (s : State) : Prop := s.link.reply = [] ∧ (h.addr = 31#5 ∨ h.addr = s.link.strap)

/-- The receiver is on, and the frame is an own one, which is the only kind that gives up state to a read (R172). -/
abbrev State.takesOwn (h : Header) (s : State) : Prop := s.link.reply = [] ∧ h.addr ≠ 31#5 ∧ h.addr = s.link.strap

/-- The reply of a command frame: sent for an own frame whose reply bit is set and for no other (R173). -/
def State.replied (h : Header) (code : ResultCode) (data : List Byte) (s : State) : State :=
  if h.addr ≠ 31#5 ∧ h.reply = true then { s with link := { s.link with reply := s.replyBytes code data } } else s

/-- What the port itself does with a command frame it takes: it hunts again, the silence timer restarts in show mode,
and a pending sequence is abandoned (R172, R174, R179). -/
def State.framed (s : State) : State :=
  { s with link := { s.link with
      rxFrame := []
      seq := none
      silenceDue := if s.link.showMode then some (s.clock + 1000000 * s.items.silenceTime) else s.link.silenceDue } }

/-! ## Requests, grants and raises -/

/-- The tie-break rank of a source (section 2.1). -/
def Source.rank : Source → Nat
  | .link => 1 | .cue => 2 | .remote => 3 | .panel => 4 | .dwell => 5

/-- The request asks for position n from position p; `popped` is the position that a RETURN popped. A cue step is meant
only where it carries no reference (R7, R11, R35, R135). -/
def State.asks (q : Request) (popped : Option Nat) (p n : Nat) (s : State) : Prop :=
  match q.kind with
  | .goto => q.target = some n ∧ n ≤ s.items.traySize
  | .home => n = 0
  | .ret => popped = some n
  | .stepFwd =>
    q.cueRef = none ∧ n = if s.items.skipEmpty then s.stepTarget .forward p else if p = s.items.traySize then 0 else p + 1
  | .stepRev => n = if s.items.skipEmpty then s.stepTarget .reverse p else if p = 0 then s.items.traySize else p - 1

/-- The completion list after entries are added one by one to a list of at most 8 (R40). -/
def lastEight (l : List Completion) : List Completion := l.drop (l.length - 8)

/-- What a grant that ends at once makes of s: nothing moves, the outcome goes to the arbiter; a RETURN has popped, and a
GOTO that R29 has push its origin has pushed it (R7, R29, R35). -/
def State.endsAtGrant (sense : Sense) (q : Request) (o : ChangeOutcome) (s t : State) : Prop :=
  t.changer = { s.changer with sense := sense } ∧ t.fade = s.fade ∧ t.usage = s.usage ∧ t.arb.dwellDue = none
    ∧ t.arb.stack = (match q.kind, s.changer.position with
        | .ret, _ => s.arb.stack.tail
        | .goto, some p =>
          if q.noPush = false ∧ q.target.getD 0 ≤ s.items.traySize ∧ q.target.getD 0 ≠ p then (p :: s.arb.stack).take 6
          else s.arb.stack
        | _, _ => s.arb.stack)
    ∧ (if q.source = .link then
        t.arb.completions = lastEight (s.arb.completions ++ [⟨q.tag.getD 0#8, o, s.changer.position⟩])
          ∧ t.link.flags.completion = true
      else t.arb.completions = s.arb.completions)

/-- An owed step: a STEP-FWD of source CUE with no flag and no reference (R139). -/
abbrev owed : Request := ⟨.stepFwd, none, .cue, false, false, false, none, none, false⟩

/-- What the raise of a cause with the given minimum level makes of s, with the acts of the crossings (R143, R146, R148,
R149). -/
def State.raisedBy (c : Cause) (least : Nat) (s t : State) : Prop :=
  let level := min 3 (max (s.prot.pl + 1) least)
  t.prot.pl = (if s.prot.pl < 3 then level else s.prot.pl)
    ∧ t.prot.stack = (if s.prot.pl < 3 then ⟨c, level, s.usage.uptime⟩ :: s.prot.stack else s.prot.stack)
    ∧ t.prot.last = ⟨some c, level, decide (s.prot.pl < 3), s.usage.uptime, min 255 (s.prot.last.raises + 1),
        s.prot.last.restarts⟩
    ∧ t.link.flags.fault = true
    ∧ (s.prot.pl < 2 → 2 ≤ level →
        t.arb.queues = ⟨[], [], [], [], []⟩ ∧ t.cue.debt = 0 ∧ t.tape.standing.safe = true)
    ∧ (s.prot.pl < 3 → level = 3 → s.tape.state ≠ .noCassette →
        t.tape.state = .stopped ∧ t.tape.lastStop = .lockout)

/-- A channel that takes a fade to level l over n tenths of a second (R43). -/
def FadeChannel.takes (l n now : Nat) (c : FadeChannel) : FadeChannel :=
  { c with
    start := c.level, target := l, level := if n = 0 then l else c.level, steps := 10 * n, count := 0
    state := if n = 0 then .steady else .ramping, stepDue := if n = 0 then none else some (now + 10000) }

/-- The two channels at the end of a change with the watch w (R64, R70, R72). `found`: the last drop found a slide.
`free`: the changer becomes free, and a pending fade is taken in place of the restore; else it keeps waiting. -/
def State.fadesAtEnd (found free : Bool) (now : Nat) (w : Watch) (s t : State) : Prop :=
  let c := s.fade.lamp
  let preset := if found = true then s.changer.position.bind (fun p =>
    if p = 0 then none else (s.changer.map[p - 1]?).bind TrayEntry.lampPreset) else none
  let back := w.restoreTime.getD s.items.restoreTime
  let restored := fun (l n : Nat) => { c.takes l n now with
    state := if c.pending ≠ none then .pending else if n = 0 then .steady else .ramping }
  let restores := c.pending = none ∨ free = false
  t.fade.watch = none
    ∧ (free = true → ∀ f, c.pending = some f → t.fade.lamp = { c.takes f.level f.time now with pending := none })
    ∧ (restores → w.dipped = true → ∀ f, w.override = some f → t.fade.lamp = restored f.level f.time)
    ∧ (restores → w.dipped = true → w.override = none → ∀ l, preset = some l → t.fade.lamp = restored l back)
    ∧ (restores → w.dipped = true → w.override = none → preset = none →
        ∀ l, w.savedTarget = some l → t.fade.lamp = restored l back)
    ∧ (restores → w.dipped = false → w.override.isSome = true ∨ preset = none → t.fade.lamp = c)
    ∧ (restores → w.dipped = false → w.override = none → ∀ l, preset = some l →
        t.fade.lamp = c.takes l s.items.restoreTime now)
    ∧ t.fade.audio = (match s.fade.audio.pending with
        | none => s.fade.audio
        | some f => if free = true then { s.fade.audio.takes f.level f.time now with pending := none } else s.fade.audio)

/-- The changer standing in a state with nothing in flight and its outputs off (R15, R17). -/
def Changer.restsIn (st : ChangerState) (c : Changer) : Changer :=
  { c with
    state := st, record := none, jamClear := false, homingLift := false, stageDue := none, drive := none, lift := false
    dropRelease := false }

/-- The changer LOST: position unknown, every entry UNSEEN, its presets and skip flag kept (R19). -/
def Changer.lost (c : Changer) : Changer :=
  { c.restsIn .lost with position := none, map := c.map.map (fun e => { e with state := .unseen }) }

/-- The record as a grant forms it (R6). -/
def grantRecord (q : Request) (origin target popped : Option Nat) : ChangeRecord :=
  ⟨some q, origin, target, none, 0, 0, 0, false, false, 0, false, popped, none, false⟩

/-- A counter below its end that has gained 1 (R182). -/
def Counter.gained (before after : Counter) : Prop :=
  after = if before.value < 4294967295 then ⟨before.value + 1, before.overflow⟩ else ⟨0, true⟩

/-- The result of the four tests of R25 on a LINK request, none where it joins the queue; `slot` is a GOTO's target. -/
def State.linkRefusal (slot : Option Nat) (s : State) : Option ResultCode :=
  if s.cool.power = .coolingDown then some .standby
  else if 2 ≤ s.prot.pl then some .plProtected
  else if s.items.traySize < slot.getD 0 then some .badSlot
  else if 6 ≤ s.arb.queues.link.length then some .full
  else none

/-! ## Hold, resume and the pause reasons -/

/-- A pause reason with a standing comes: it joins the set of a tape that plays, which is then PAUSED (R111, R112). -/
def Tape.adds (r : PauseReason) (tp : Tape) : Tape :=
  let stands := { tp with standing := tp.standing.put r true }
  if tp.state = .play ∨ tp.state = .paused then
    { stands with
      state := .paused, direction := .forward, pause := tp.pause.put r true, tachDue := none, seekTarget := none }
  else stands

/-- A pause reason goes: where it was in the set and was the last of it, the tape plays on (R111, R112). -/
def Tape.drops (r : PauseReason) (now : Nat) (tp : Tape) : Tape :=
  let stands := { tp with standing := tp.standing.put r false }
  let left := tp.pause.put r false
  if (tp.state = .play ∨ tp.state = .paused) ∧ tp.pause.get r = true then
    (if left = ⟨false, false, false, false⟩ then
      { stands with
        state := .play, direction := .forward, pause := left, tachDue := some (now + 1000000), seekTarget := none }
    else { stands with pause := left })
  else stands

/-- HOLD: what it makes of the arbiter and of the tape (R38, R112). -/
def State.holds (s t : State) : Prop :=
  t.arb = (if s.arb.hold then s.arb else { s.arb with
      hold := true, shadow := some ⟨s.arb.dwellDue.map (fun d => d - s.clock), s.arb.autoMode⟩, dwellDue := none })
    ∧ t.tape = (if s.arb.hold then s.tape else s.tape.adds .hold)

/-- RESUME: what it makes of the arbiter (R39). -/
def State.resumes (s t : State) : Prop :=
  ∀ sh, s.arb.shadow = some sh → t.arb = (if s.arb.hold then { s.arb with
      hold := false, autoMode := sh.auto, shadow := none
      dwellDue := match sh.remainder with
        | none => s.arb.dwellDue
        | some d => if sh.auto then some (s.clock + d) else s.arb.dwellDue }
    else s.arb)

/-! ## The configuration -/

/-- The stored items 0 to 33 in the table's order, as SET carries them: on is 1, off 0, no partner all ones (section
12.4). -/
def Items.values (it : Items) : List Nat :=
  [ it.traySize, it.skipEmpty.toNat, it.autoHome.toNat, it.dipPolicy.toNat, it.dipLevel, it.dipTime, it.restoreTime,
    it.stickyLock.toNat, it.autoAtStart.toNat, it.defaultDwell, it.ecoCeiling, it.derateStart, it.derateEnd,
    it.derateFloor, it.guardLimit, it.filmCeiling, it.protectGuard, it.preheat, it.soundAtStart ] ++
  [ it.partnerAtStart.getD 4294967295, it.followAtStart.toNat, it.fanStart, it.fanFull, it.coolTemp, it.lampOnMin,
    it.cooldownMin, it.cooldownTime, it.homeOnStandby.toNat, it.tolerance, it.preroll, it.autoResync.toNat,
    it.lockoutRestart.toNat, it.silenceTime, it.lampLife ]

/-- The eight counters in index order (section 12.1). -/
def Counters.all (c : Counters) : List Counter :=
  [c.lampFem, c.lampMin, c.changes, c.jams, c.fanMin, c.tapeMin, c.cues, c.syncErrs]

/-! ## Laws of the state -/

/-- R145: levels rise strictly from bottom to top (the stack is held newest first), at most three entries, and PL is the
top level or 0. -/
abbrev FaultLaw (s : State) : Prop :=
  s.prot.stack.length ≤ 3 ∧ List.Pairwise (fun (a b : FaultEntry) => b.level < a.level) s.prot.stack
    ∧ (∀ e ∈ s.prot.stack, 1 ≤ e.level ∧ e.level ≤ 3) ∧ s.prot.pl = (s.prot.stack.head?.map FaultEntry.level).getD 0

/-- R143, R145: no entry of the fault stack stands below the minimum level of its cause (section 9.1). -/
abbrev FaultLevelLaw (s : State) : Prop :=
  ∀ e ∈ s.prot.stack, (if e.cause = .fanStall ∨ e.cause = .lampOvercurrent then 2 else 1) ≤ e.level

/-- R23: no queue holds more requests than its depth, and at PL 2 and 3 every queue is empty. -/
abbrev QueueLaw (s : State) : Prop :=
  (∀ src, (s.arb.queues.get src).length ≤ src.depth) ∧ (2 ≤ s.prot.pl → s.arb.queues = ⟨[], [], [], [], []⟩)

/-- R33: at most six positions, each within 0..T; with the facts that keep it so, a position within 0..T and a changer
that stays LOST with its position unknown while no tray is present (R1, R20). -/
def StackLaw (s : State) : Prop :=
  (s.arb.stack.length ≤ 6 ∧ ∀ p ∈ s.arb.stack, p ≤ s.items.traySize)
    ∧ (∀ p, s.changer.position = some p → p ≤ s.items.traySize)
    ∧ (s.changer.trayPresent = false → s.changer.state = .lost ∧ s.changer.position = none)

/-- R40: the completion list holds at most 8 entries. -/
abbrev CompletionLaw (s : State) : Prop := s.arb.completions.length ≤ 8

/-- A channel's record in its ranges: levels to 1000, k within N, and level equal to target while STEADY (R42, R44). -/
def ChannelLaw (c : FadeChannel) : Prop :=
  c.level ≤ 1000 ∧ c.target ≤ 1000 ∧ c.start ≤ 1000 ∧ c.count ≤ c.steps ∧ (∀ f, c.pending = some f → f.level ≤ 1000)
    ∧ (c.state = .steady → c.level = c.target) ∧ (c.state = .ramping → c.count < c.steps)

/-- Where the levels that a channel may take come from: watch, presets, and the sound level at start in force, in the
store image and in an image being written (R3, R42, R66, R186). -/
def LevelSources (s : State) : Prop :=
  (∀ w, s.fade.watch = some w →
      (∀ l, w.savedTarget = some l → l ≤ 1000) ∧ (∀ f, w.override = some f → f.level ≤ 1000))
    ∧ (∀ e ∈ s.changer.map, ∀ l, e.lampPreset = some l → l ≤ 1000)
    ∧ s.items.soundAtStart ≤ 1000 ∧ s.store.image.config.items.soundAtStart ≤ 1000
    ∧ (∀ i, s.store.saving = some i → i.config.items.soundAtStart ≤ 1000)

/-- R44: each channel level stays within 0..1000 and equals its target whenever the channel is STEADY. -/
def FadeLaw (s : State) : Prop := ChannelLaw s.fade.lamp ∧ ChannelLaw s.fade.audio ∧ LevelSources s

/-- R49: the film guard accumulator stays within 0..Gmax. -/
abbrev GuardLaw (s : State) : Prop := s.lamp.guardAcc ≤ s.items.guardLimit

/-- R126: at most 48 entries in strictly ascending position, adjacent ones differing by more than the tolerance, and
none while no cassette is present. -/
abbrev CueMapLaw (s : State) : Prop :=
  s.cue.entries.length ≤ 48
    ∧ List.Pairwise (fun (a b : CueEntry) => a.position + s.items.tolerance < b.position) s.cue.entries
    ∧ (s.tape.cassette = false → s.cue.entries = [] ∧ s.tape.state = .noCassette)

/-- R138: debt at most 15, and nonzero only while the CUE queue holds four entries. -/
abbrev DebtLaw (s : State) : Prop :=
  s.cue.debt ≤ 15 ∧ s.arb.queues.cue.length ≤ 4 ∧ (0 < s.cue.debt → s.arb.queues.cue.length = 4)

/-- R91: eight slots, each role but NONE held by one slot at most and that slot enabled, HOUSING held by one. -/
abbrev RoleLaw (cfgs : List SlotConfig) : Prop :=
  cfgs.length = 8 ∧ List.Pairwise (fun (a b : SlotConfig) => a.role = .none ∨ a.role ≠ b.role) cfgs
    ∧ (∀ c ∈ cfgs, c.role ≠ .none → c.enable = true) ∧ ∃ c ∈ cfgs, c.role = .housing

/-- The slots in force, in the store image and in an image being written (R91, R186). -/
def ScanLaw (s : State) : Prop :=
  RoleLaw (s.scan.slots.map ScanSlot.cfg) ∧ RoleLaw s.store.image.config.slots
    ∧ (∀ i, s.store.saving = some i → RoleLaw i.config.slots)

/-- R111: the set of pause reasons is empty in PLAY, not empty in PAUSED, and empty in every other state; at PL 3 the
tape does not play (R149). -/
abbrev PauseLaw (s : State) : Prop :=
  (s.tape.pause = ⟨false, false, false, false⟩ ↔ s.tape.state ≠ .paused)
    ∧ (3 ≤ s.prot.pl → s.tape.state ≠ .play ∧ s.tape.state ≠ .paused)

/-- R82: cooldown runs only while the drive is 0. -/
abbrev CooldownLaw (s : State) : Prop := s.cool.darkStart.isSome = true → s.drive = 0

/-- Stages in which the gate has been cleared and no slide dropped yet. -/
def ChangerState.gateEmpty : ChangerState → Bool
  | .rotate | .returning | .drop | .jammed => true
  | _ => false

/-- R4: at most one entry is IN-GATE, the current position's; while the position is unknown every entry is UNSEEN. With
what keeps it so: in ROTATE, RETURNING, DROP and JAMMED no entry is IN-GATE, and HOMING and LOST know no position. -/
def GateLaw (s : State) : Prop :=
  (∀ i e, s.changer.map[i]? = some e → e.state = EntryState.inGate →
      s.changer.position = some (i + 1) ∧ s.changer.state.gateEmpty = false)
    ∧ (s.changer.position = none → ∀ e ∈ s.changer.map, e.state = EntryState.unseen)
    ∧ (s.changer.state = .homing ∨ s.changer.state = .lost → s.changer.position = none)

/-- The levels of the lamp arithmetic in their ranges (section 12.4, items 10, 13, 15, 16 and 17). -/
abbrev LampItemsLaw (it : Items) : Prop :=
  300 ≤ it.ecoCeiling ∧ 200 ≤ it.derateFloor ∧ it.derateFloor ≤ 1000 ∧ 150 ≤ it.filmCeiling ∧ 200 ≤ it.protectGuard
    ∧ it.preheat ≤ 100

/-- The lamp items in force, in the store image and in an image being written (R60, R186). -/
def LampRangeLaw (s : State) : Prop :=
  LampItemsLaw s.items ∧ LampItemsLaw s.store.image.config.items
    ∧ (∀ i, s.store.saving = some i → LampItemsLaw i.config.items)

end Sys2Proof.Machine
end

