-- ==== Sys2Proof/Certificates/Slice0/Obligations.lean ====
section
/-! DEFINITION. The statements for the provers. A time is written in microseconds of the clock. Every statement about a link
command holds for every own or broadcast frame that the receiver takes, with or without its reply (State.takes,
State.replied); what the reply holds is stated once, by ReadsAndRepliesReportTheState. -/

open Sys2Proof Sys2Proof.Machine

/-! ## The step and every command -/

/-- A step takes the command at the front of the queue. On an empty queue only one microsecond passes: the model's
choice (log 1). -/
def Obligations.StepTakesTheFrontCommand : Prop :=
  (∀ (c : Instr) (rest : List Instr) (s : State), s.pending = c :: rest → step s = exec c { s with pending := rest })
    ∧ ∀ s : State, s.pending = [] → step s = .next { s with clock := s.clock + 1 }

/-- The manual gives no command that stops the part. Every command on every state answers a next state; it leaves the
commands that wait as they are, and the model's clock does not go back (log 2). -/
def Obligations.EveryCommandRuns : Prop :=
  ∀ (c : Instr) (s : State), ∃ t, exec c s = .next t ∧ t.pending = s.pending ∧ s.clock ≤ t.clock

/-! ## Resets and stopping actions -/

/-- Power-on reset with no save cut short: the reset tables of every chapter, with the configuration of the store or the
factory's. Held inputs are the operand. The channels' start, steps and count and the trackers' first position and length
at a reset, and the low limit handed to the decoder, have no value in those tables: the ones given here are the model's
choice (logs 6, 35, 27). A save cut short with the supply kept is left out (log 13). A loss of supply before a save
completes leaves a checksum that fails at the next load: the part then stands with its factory configuration, zero
counters and STORE raised (R185, R186). -/
def Obligations.PowerOnResetTakesResetValues : Prop :=
  (∀ (pins : Pins) (s : State), s.store.saving = none →
    let cfg := if s.store.good then s.store.image.config else factoryConfig
    let kept := if s.store.good then s.store.image.counters else zeroPersisted
    let zero : Counter := ⟨0, false⟩
    let fem : Bool := decide (cfg.items.lampLife ≤ kept.lampFem.value)
    ∃ t, exec (.powerOnReset pins) s = .next t
      ∧ t.items = cfg.items ∧ t.law = cfg.law
      ∧ t.store = ⟨s.store.image, s.store.good, !s.store.good, none, none, false⟩
      ∧ t.usage = ⟨⟨kept.lampFem, kept.lampMin, kept.changes, kept.jams, kept.fanMin, zero, zero, zero⟩, 0, 0, 0, 0, 0,
          s.clock + 1000000⟩
      ∧ t.arb = ⟨⟨[], [], [], [], []⟩, ⟨7, 7, 7, 7, 7⟩, false, [], cfg.items.autoAtStart, none, false, none, []⟩
      ∧ t.fade.lamp = ⟨0, 0, 0, 0, 0, .steady, none, none⟩ ∧ t.fade.watch = none
      ∧ t.fade.audio = ⟨cfg.items.soundAtStart, cfg.items.soundAtStart, cfg.items.soundAtStart, 0, 0, .steady, none, none⟩
      ∧ t.lamp = ⟨.off, false, false, 0, 0, false, s.clock + 100000, false, none, 0, 0, none, none, none⟩
      ∧ t.cool = ⟨none, none, none, some (s.clock + 1500000), false, none, .run, none, false⟩
      ∧ t.scan = ⟨cfg.slots.map (fun c => ⟨c, none, false, false, false, false, 0, 0⟩), none⟩
      ∧ t.tape = ⟨if pins.cassettePresent then .stopped else .noCassette, pins.cassettePresent, 0, .forward,
          ⟨false, false, false, false⟩, ⟨false, false, false⟩, none, none, .none⟩
      ∧ t.dec.lastWindow = none ∧ t.dec.levelLow = 0 ∧ t.dec.trackers = ⟨⟨.idle, 0, 0, 0, 0, false⟩, ⟨.idle, 0, 0, 0, 0, false⟩,
          ⟨.idle, 0, 0, 0, 0, false⟩, ⟨.idle, 0, 0, 0, 0, false⟩⟩
      ∧ t.cue = ⟨[], 0, 0, false⟩
      ∧ t.prot = ⟨0, [], ⟨false, false, false, false⟩, ⟨none, 0, false, 0, 0, 0⟩⟩
      ∧ t.link = ⟨pins.strap, [], none, 0, false, none, ⟨false, false, false, false, fem, false, false, !s.store.good⟩,
          cfg.items.partnerAtStart, cfg.items.followAtStart && cfg.items.partnerAtStart.isSome, [], false, none⟩
      ∧ (t.panel.held = none ∧ t.panel.releaseDue = none ∧ t.panel.autoDue = none ∧ t.panel.presenceDue = none
          ∧ t.panel.focus = .off ∧ t.panel.keys.fwd = ⟨pins.keys.fwd, pins.keys.fwd⟩
          ∧ t.panel.keys.power = ⟨pins.keys.power, pins.keys.power⟩)
      ∧ t.changer.map = List.replicate cfg.items.traySize ⟨.unseen, false, none, none⟩
      ∧ t.changer.trayPresent = pins.trayPresent
      ∧ (if cfg.items.autoHome = true ∧ pins.trayPresent = true then
          (if pins.sense.gateOccupied then
            t.changer.state = .homing ∧ t.changer.lift = true ∧ t.changer.stageDue = some (s.clock + 250000)
          else if pins.sense.homeMark then t.changer.state = .idle ∧ t.changer.position = some 0
          else t.changer.state = .homing ∧ t.changer.drive = some .forward ∧ t.changer.stageDue = some (s.clock + 150000))
        else t.changer.state = .lost ∧ t.changer.position = none ∧ t.changer.record = none))
  ∧ (∀ (pins : Pins) (s : State), s.store.saving.isSome = true → pins.supplyLost = true →
    ∃ t, exec (.powerOnReset pins) s = .next t ∧ t.store.good = false ∧ t.store.factoryLoaded = true
      ∧ t.store.saving = none ∧ t.items = factoryItems ∧ t.law = factoryLaw
      ∧ t.scan.slots.map ScanSlot.cfg = factorySlots ∧ t.usage.counters.lampFem = ⟨0, false⟩
      ∧ t.usage.counters.changes = ⟨0, false⟩ ∧ t.link.flags.showStore = true ∧ t.changer.map.length = 96)

/-- RESET-PART asks for a link reset, at every PL. With a reply it marks the reset as due, and LINK_RESET begins it; with
none it begins at once. A reset that begins while the reply goes out, a save is in progress or a counter save waits is
made when the last of these ends, and without RESET-PART there is none. It has the effects of a power-on reset but for
the strap, a cooldown of a lamp that was lit or cooling, and the warning, which is taken from the input. The model's
choices: the row that makes a reset that waited, and the inputs it takes (log 12); the motors off in the homing of a
reset under a standing warning (log 23); no counter save at the reset of a lit lamp (log 45). -/
def Obligations.LinkResetIsAPowerOnResetBut : Prop :=
  (∀ (h : Header) (s : State), s.takes h →
    let due := { s.framed with link := { s.framed.link with resetDue := true } }
    let keys : PanelInputs := ⟨s.panel.keys.fwd.pressed, s.panel.keys.rev.pressed, s.panel.keys.home.pressed,
      s.panel.keys.lamp.pressed, s.panel.keys.tape.pressed, s.panel.keys.hold.pressed, s.panel.keys.power.pressed⟩
    (h.addr ≠ 31#5 → h.reply = true → exec (.resetPart h []) s = .next (State.replied h .accepted [] due))
    ∧ (h.addr = 31#5 ∨ h.reply = false → exec (.resetPart h []) s
        = exec (.linkReset ⟨s.link.strap, s.changer.trayPresent, s.tape.cassette, s.cool.warning, false, keys,
            s.changer.sense⟩) due))
  ∧ (∀ (pins : Pins) (s : State),
    (s.link.resetDue = false → exec (.linkReset pins) s = .next s)
    ∧ (s.link.resetDue = true → s.link.reply ≠ [] ∨ s.store.saving.isSome = true ∨ s.store.waiting = true →
      exec (.linkReset pins) s = .next { s with link := { s.link with resetPins := some pins } }))
  ∧ (∀ s : State, s.link.resetDue = true → ∀ pins, s.link.resetPins = some pins → s.store.waiting = false →
    (s.store.saving = none →
      exec .replyDriverRelease s = exec (.linkReset pins) { s with link := { s.link with reply := [] } })
    ∧ (s.link.reply = [] → ∀ image, s.store.saving = some image →
      exec .saveComplete s = exec (.linkReset pins) { s with
        clock := max s.clock (s.store.saveDue.getD 0), store := ⟨image, true, false, none, none, false⟩ }))
  ∧ ∀ (pins : Pins) (s : State), s.link.resetDue = true → s.link.reply = [] → s.store.saving = none →
      s.store.waiting = false →
      ∃ p, exec (.powerOnReset { pins with strap := s.link.strap }) s = .next p ∧ ∃ t, exec (.linkReset pins) s = .next t
        ∧ p.onlyChanges [.changer, .cool] t
        ∧ t.cool = { p.cool with
            darkStart := if s.cool.darkStart.isSome = true ∨ 0 < s.drive then some s.clock else none
            warning := pins.supplyFail
            stallDue := if pins.supplyFail then none else p.cool.stallDue }
        ∧ (pins.supplyFail = false → t.changer = p.changer)
        ∧ (pins.supplyFail = true → t.changer.drive = none ∧ t.changer.lift = false
            ∧ t.changer.state = p.changer.state ∧ t.changer.position = p.changer.position)

/-- The lockout restart: on, at PL 3, with no live cause active, no cooldown and the housing below Tcool (R154), the
blocks take the values of the table of R155. The tape stands as LOCKOUT left it. The change in flight
and the waiting LINK requests end ABORTED, oldest first, the change before the flush (log 47). The
LAMP channel's start, steps and count (log 6), the IDLE trackers' first position and length (log 35) and the motors off
in the homing under a standing warning (log 23) are the model's choices too. -/
def Obligations.MechanismRestartTakesRestartValues : Prop :=
  (∀ (pins : Pins) (s : State), ¬(s.items.lockoutRestart = true ∧ s.prot.pl = 3 ∧ s.prot.active = ⟨false, false, false, false⟩
      ∧ s.cool.darkStart = none ∧ ∃ th, s.cool.th = some th ∧ th < s.items.coolTemp) →
      exec (.mechanismRestart pins) s = .next s)
  ∧ ∀ (pins : Pins) (s : State), s.items.lockoutRestart = true → s.prot.pl = 3 →
      s.prot.active = ⟨false, false, false, false⟩ → s.cool.darkStart = none →
      (∀ th, s.cool.th = some th → th < s.items.coolTemp) → s.cool.th ≠ none → s.tape.state.playing = false →
      let ended := match s.changer.record.bind ChangeRecord.request with
        | some q => if q.source = .link then [(⟨q.tag.getD 0#8, .aborted, none⟩ : Completion)] else []
        | none => []
      let flushed := (s.arb.queues.link.filter (fun r => r.source == .link)).map
        (fun r => (⟨r.tag.getD 0#8, .aborted, none⟩ : Completion))
      ∃ t, exec (.mechanismRestart pins) s = .next t
        ∧ (s.arb.completions.length ≤ 8 → t.arb.completions = lastEight (s.arb.completions ++ ended ++ flushed))
        ∧ t.link.flags.completion = (s.link.flags.completion || !(ended ++ flushed).isEmpty)
        ∧ t.prot = { s.prot with pl := 0, stack := [], last := { s.prot.last with restarts := min 255 (s.prot.last.restarts + 1) } }
        ∧ t.link.flags.fault = true ∧ t.link.strap = s.link.strap ∧ t.link.showMode = s.link.showMode
        ∧ t.arb.queues = ⟨[], [], [], [], []⟩ ∧ t.arb.stack = [] ∧ t.arb.dwellDue = none
        ∧ t.arb.priority = s.arb.priority ∧ t.arb.lock = s.arb.lock ∧ t.arb.hold = s.arb.hold
        ∧ t.arb.autoMode = s.arb.autoMode ∧ t.arb.shadow = s.arb.shadow.map (fun h => ⟨none, h.auto⟩)
        ∧ t.fade.lamp = ⟨0, 0, 0, 0, 0, .steady, none, none⟩ ∧ t.fade.watch = none
        ∧ (s.fade.audio.pending = none → t.fade.audio = s.fade.audio)
        ∧ t.lamp = { s.lamp with
            switch := .off, cycled := false, failCount := 0, guardAcc := 0, guardEngaged := false,
            mainsNormal := false, halfPeriod := none, invalidRun := 0, validRun := 0, lastCrossing := none, firingDue := none }
        ∧ t.cool.th = none ∧ t.cool.darkStart = none ∧ t.cool.warning = pins.supplyFail
        ∧ t.cool.stalled = s.cool.stalled ∧ t.cool.stallDue = s.cool.stallDue
        ∧ (s.cool.power ≠ .coolingDown → t.cool.power = s.cool.power)
        ∧ t.scan = ⟨s.scan.slots.map (fun sl => { sl with result := none }), none⟩
        ∧ t.tape = { s.tape with
            pause := ⟨false, false, false, false⟩, standing := ⟨s.tape.standing.hold, false, false⟩,
            tachDue := none, seekTarget := none }
        ∧ t.dec.trackers = ⟨⟨.idle, 0, 0, 0, 0, false⟩, ⟨.idle, 0, 0, 0, 0, false⟩, ⟨.idle, 0, 0, 0, 0, false⟩,
            ⟨.idle, 0, 0, 0, 0, false⟩⟩ ∧ t.dec.windowDue = s.dec.windowDue
        ∧ t.cue = ⟨s.cue.entries, 0, 0, false⟩
        ∧ t.usage = s.usage ∧ t.store = s.store ∧ t.items = s.items ∧ t.law = s.law
        ∧ t.changer.map = s.changer.map.map (fun e => { e with state := .unseen })
        ∧ t.panel.held = s.panel.held ∧ t.panel.inert = s.panel.held.isSome ∧ t.panel.focus = .off
        ∧ (if s.changer.trayPresent then
            (if pins.sense.gateOccupied = false ∧ pins.sense.homeMark = true then
              t.changer.state = .idle ∧ t.changer.position = some 0
            else t.changer.state = .homing ∧ t.changer.position = none)
          else t.changer.state = .lost ∧ t.changer.position = none)

/-- The supply-fail warning at its assertion: the motors off, what is in flight ended ABORTED into LOST (a granted
change that moved gives CHANGES a gain, R16), no pulse sent, the tape stopped, the focus motor off, the counters being
saved; the queues stand, and so does the power state, but that a changer freed in COOLING-DOWN may be the last thing OFF
waited for (R86, R87; that OFF comes before any grant is the model's choice, log 49). A second assertion changes
nothing. A warning that clears is followed by the power-on reset of the whole part, with the supply kept (R21, R88); that it is made
in the same step, with the inputs that the part holds, is the model's choice (log 36). -/
def Obligations.SupplyFailWarningStopsTheMotors : Prop :=
  (∀ s : State, s.cool.warning = true → exec .supplyFailWarning s = .next s)
  ∧ (∀ s : State, s.cool.warning = false → ∃ t, exec .supplyFailWarning s = .next t
      ∧ t.cool.warning = true ∧ t.cool.stallDue = none ∧ t.cool.stalled = s.cool.stalled ∧ t.fanOutput = 0
      ∧ t.changer = { s.changer with
          state := .lost, position := none, map := s.changer.map.map (fun e => { e with state := .unseen }),
          record := none, jamClear := false, homingLift := false, stageDue := none, drive := none, lift := false,
          dropRelease := false }
      ∧ t.arb.queues = s.arb.queues ∧ t.arb.stack = s.arb.stack ∧ t.arb.dwellDue = none
      ∧ t.lamp.firingDue = none ∧ t.panel.focus = .off ∧ t.panel.focusDue = none
      ∧ t.tape = (if s.tape.state = .noCassette then s.tape else { s.tape with
          state := .stopped
          pause := if s.tape.state = .stopped then s.tape.pause else ⟨false, false, false, false⟩
          tachDue := if s.tape.state = .stopped then s.tape.tachDue else none
          seekTarget := if s.tape.state = .stopped then s.tape.seekTarget else none
          lastStop := .supplyFail })
      ∧ t.store.saving.isSome = true ∧ (s.store.saving.isSome = true → t.store.waiting = true)
      ∧ t.prot.stack = s.prot.stack ∧ t.prot.pl = s.prot.pl
      ∧ (s.cool.power ≠ .coolingDown → t.cool.power = s.cool.power)
      ∧ (s.cool.power = .coolingDown → s.changer.state ≠ .idle → s.changer.state ≠ .lost →
          t.cool.power = (if t.cool.darkStart = none ∧ (∀ r ∈ s.arb.queues.panel, r.standby = false) then .off
            else .coolingDown))
      ∧ (∀ r, s.changer.record = some r → ∀ q, r.request = some q → q.source = .link →
          t.arb.completions.getLast? = some ⟨q.tag.getD 0#8, .aborted, none⟩ ∧ t.link.flags.completion = true)
      ∧ (let counted := ∃ r, s.changer.record = some r ∧ r.request.isSome = true ∧ r.moved = true
        (counted → s.usage.counters.changes.gained t.usage.counters.changes
            ∧ (4294967295 ≤ s.usage.counters.changes.value → t.link.flags.counter = true)
            ∧ t.usage = { s.usage with counters := { s.usage.counters with changes := t.usage.counters.changes } })
          ∧ (¬counted → t.usage = s.usage))
      ∧ s.onlyChanges [.changer, .arb, .fade, .lamp, .cool, .tape, .dec, .prot, .link, .panel, .usage, .store] t)
  ∧ (∀ s : State, s.cool.warning = true →
      let k := s.panel.keys
      let pins : Pins := ⟨s.link.strap, s.changer.trayPresent, s.tape.cassette, false, false,
        ⟨k.fwd.pressed, k.rev.pressed, k.home.pressed, k.lamp.pressed, k.tape.pressed, k.hold.pressed, k.power.pressed⟩,
        s.changer.sense⟩
      ∃ t, exec .supplyFailCleared s = .next t ∧ exec (.powerOnReset pins) s = .next t ∧ t.cool.warning = false)
  ∧ ∀ s : State, s.cool.warning = false → exec .supplyFailCleared s = .next s

/-! ## The grant -/

/-- With the changer free, the eligible head of lowest priority number is granted, the better rank among equals; with no
eligible head, or the changer busy, nothing is granted. A head leaves its queue and the other queues stay (R23, R27,
R28). When a CUE head leaves, owed steps join its queue while it is not full, or are dropped where R25 refuses them, and
the QUEUE reason is then judged on the length: it is added at 4 and removed at 1 or less (R137, R139). -/
def Obligations.GrantPrefersLowestPriority : Prop :=
  (∀ (q : Request) (s : State), s.eligible q = true ↔
      ¬((q.source = .cue ∨ q.source = .dwell) ∧ s.arb.hold = true)
        ∧ ¬(q.waitFade = true ∧ s.fade.lamp.state ≠ .steady)
        ∧ ∀ sl, s.scan.slots.find? (fun x => x.cfg.role == .supply) = some sl → sl.lowCond = false)
  ∧ (∀ s : State, s.changer.state ≠ .idle → s.changer.state ≠ .lost → s.preferred = none)
  ∧ (∀ (sense : Sense) (s : State), s.preferred = none → exec (.grant sense) s = .next s)
  ∧ (∀ (src : Source) (s : State), (s.changer.state = .idle ∨ s.changer.state = .lost) →
      ∀ q rest, s.arb.queues.get src = q :: rest → s.eligible q = true →
      ∃ best, s.preferred = some best
        ∧ (s.arb.priority.get best < s.arb.priority.get src
            ∨ s.arb.priority.get best = s.arb.priority.get src ∧ best.rank ≤ src.rank)
        ∧ ∃ r, (s.arb.queues.get best).head? = some r ∧ s.eligible r = true)
  ∧ ∀ (sense : Sense) (s : State), ∀ src, s.preferred = some src →
      ∀ q rest, s.arb.queues.get src = q :: rest →
      ∃ t, exec (.grant sense) s = .next t
        ∧ (src ≠ .cue → t.arb.queues = s.arb.queues.put src rest)
        ∧ (src = .cue → s.cue.debt = 0 → t.arb.queues = s.arb.queues.put src rest)
        ∧ (src = .cue → rest.length ≤ 3 →
          let joins := if s.cool.power ≠ .coolingDown ∧ s.prot.pl < 2 then min (4 - rest.length) s.cue.debt else 0
          let left := if s.cool.power ≠ .coolingDown ∧ s.prot.pl < 2 then s.cue.debt - joins else 0
          let n := rest.length + joins
          t.arb.queues = s.arb.queues.put .cue (rest ++ List.replicate joins owed)
            ∧ t.cue = { s.cue with
                debt := left, queueLen := n
                queueAsked := if n = 4 then true else if n ≤ 1 then false else s.cue.queueAsked }
            ∧ t.tape = (if n = 4 ∧ s.cue.queueAsked = false then s.tape.adds .queue
              else if n ≤ 1 ∧ s.cue.queueAsked = true then s.tape.drops .queue s.clock else s.tape))

/-- A change that ends at its grant: ABORTED with no tray, under the warning or above T; NOTHING for a RETURN on an
empty stack or a target that is the position already. A GOTO that ends ABORTED under the warning with its position known
has pushed it like any other (R7, R29, R35). -/
def Obligations.GrantEndsAtOnce : Prop :=
  (∀ (sense : Sense) (s : State), ∀ src, s.preferred = some src → ∀ q rest, s.arb.queues.get src = q :: rest →
      s.changer.trayPresent = false ∨ s.cool.warning = true →
      ∃ t, exec (.grant sense) s = .next t ∧ s.endsAtGrant sense q .aborted t)
  ∧ (∀ (sense : Sense) (s : State), ∀ src, s.preferred = some src → ∀ q rest, s.arb.queues.get src = q :: rest →
      s.changer.trayPresent = true → s.cool.warning = false → q.kind = .goto → s.items.traySize < q.target.getD 0 →
      ∃ t, exec (.grant sense) s = .next t ∧ s.endsAtGrant sense q .aborted t)
  ∧ (∀ (sense : Sense) (s : State), ∀ src, s.preferred = some src → ∀ q rest, s.arb.queues.get src = q :: rest →
      s.changer.trayPresent = true → s.cool.warning = false → q.kind = .ret → s.arb.stack = [] →
      ∃ t, exec (.grant sense) s = .next t ∧ s.endsAtGrant sense q .nothing t)
  ∧ ∀ (sense : Sense) (s : State), ∀ src, s.preferred = some src → ∀ q rest, s.arb.queues.get src = q :: rest →
      s.changer.trayPresent = true → s.cool.warning = false → ∀ p, s.changer.position = some p →
      s.asks q s.arb.stack.head? p p → ∃ t, exec (.grant sense) s = .next t ∧ s.endsAtGrant sense q .nothing t

/-- A change that runs, granted with the position known: the record, the push of a GOTO's origin, the watch, and the
first stage: DIPPING where the dip conditions hold; with none, or at once with a dip time of 0, LIFT with the gate
occupied, else ROTATE the shorter way (R6 to R10, R12, R29, R66 to R68). -/
def Obligations.GrantStartsTheChange : Prop :=
  ∀ (sense : Sense) (s : State), ∀ src, s.preferred = some src → ∀ q rest, s.arb.queues.get src = q :: rest →
    s.changer.trayPresent = true → s.cool.warning = false → ∀ p, s.changer.position = some p → p ≤ s.items.traySize →
    let popped := if q.kind = .ret then s.arb.stack.head? else none
    let ahead := fun n => (n + (s.items.traySize + 1) - p) % (s.items.traySize + 1)
    let dips := s.items.dipPolicy = true ∧ q.noDip = false ∧ s.items.dipLevel < min s.fade.lamp.level s.ceiling
    let moves := ¬dips ∨ s.items.dipTime = 0
    ∀ n, s.asks q s.arb.stack.head? p n → n ≠ p →
    ∃ t, exec (.grant sense) s = .next t
      ∧ t.arb.stack = (match q.kind with
          | .goto => if q.noPush then s.arb.stack else (p :: s.arb.stack).take 6
          | .ret => s.arb.stack.tail
          | _ => s.arb.stack)
      ∧ t.arb.dwellDue = none ∧ t.usage = s.usage
      ∧ (dips → t.fade.lamp = { s.fade.lamp.takes 0 s.items.dipTime s.clock with state := .dipped }
          ∧ t.fade.watch = some ⟨true, some s.fade.lamp.target, some s.items.restoreTime, none⟩)
      ∧ (¬dips → t.fade = { s.fade with watch := some ⟨false, none, none, none⟩ })
      ∧ (¬moves →
          t.changer = { s.changer with
            sense := sense, state := .dipping, record := some (grantRecord q (some p) (some n) popped) })
      ∧ (moves → sense.gateOccupied = true →
          t.changer = { s.changer with
            sense := sense, state := .lift, lift := true, stageDue := some (s.clock + 250000)
            record := some (grantRecord q (some p) (some n) popped) })
      ∧ (moves → sense.gateOccupied = false →
          t.changer = { s.changer with
            sense := sense, state := .rotate, lift := false, stageDue := some (s.clock + 150000)
            map := s.changer.map.mapIdx (fun i e => if i + 1 = p ∧ e.state = .inGate then { e with state := .empty } else e)
            drive := some (if 2 * ahead n ≤ s.items.traySize + 1 then Direction.forward else .reverse)
            record := some { grantRecord q (some p) (some n) popped with
              direction := some (if 2 * ahead n ≤ s.items.traySize + 1 then Direction.forward else .reverse)
              planned := if 2 * ahead n ≤ s.items.traySize + 1 then ahead n else s.items.traySize + 1 - ahead n } })

/-- A change granted in LOST runs a homing first, after DIPPING where the dip conditions hold and the dip time is not 0;
it has no origin and pushes nothing (R7, R8, R18, R29, R66 to R68). -/
def Obligations.GrantInLostHomesFirst : Prop :=
  ∀ (sense : Sense) (s : State), ∀ src, s.preferred = some src → ∀ q rest, s.arb.queues.get src = q :: rest →
    s.changer.trayPresent = true → s.cool.warning = false → s.changer.position = none →
    (q.kind = .goto → q.target.getD 0 ≤ s.items.traySize) → (q.kind = .ret → s.arb.stack ≠ []) →
    let dips := s.items.dipPolicy = true ∧ q.noDip = false ∧ s.items.dipLevel < min s.fade.lamp.level s.ceiling
    let moves := ¬dips ∨ s.items.dipTime = 0
    let formed := grantRecord q none none (if q.kind = .ret then s.arb.stack.head? else none)
    ∃ t, exec (.grant sense) s = .next t
      ∧ t.arb.stack = (if q.kind = .ret then s.arb.stack.tail else s.arb.stack)
      ∧ (dips → t.fade.lamp = { s.fade.lamp.takes 0 s.items.dipTime s.clock with state := .dipped }
          ∧ t.fade.watch = some ⟨true, some s.fade.lamp.target, some s.items.restoreTime, none⟩)
      ∧ (¬dips → t.fade = { s.fade with watch := some ⟨false, none, none, none⟩ })
      ∧ (¬moves → t.changer = { s.changer with sense := sense, state := .dipping, record := some formed })
      ∧ (moves → sense.gateOccupied = true →
          t.changer = { s.changer with
            sense := sense, state := .homing, homingLift := true, lift := true, stageDue := some (s.clock + 250000)
            record := some formed })
      ∧ (moves → sense.gateOccupied = false → sense.homeMark = false →
          t.changer = { s.changer with
            sense := sense, state := .homing, homingLift := false, lift := false, drive := some .forward
            stageDue := some (s.clock + 150000), record := some formed })

/-- A cue step whose target differs from the expected slot of its entry counts a SYNC-ERRS, raises SYNC, and with
auto-resync on runs as a GOTO with NO-PUSH; the comparison is made when the target is fixed: at the grant, or from
position 0 at homing success for a step granted in LOST (R29, R135, R136). That the change goes on to ROTATE or SETTLE in
the step of the homing success is the model's reading (log 21). -/
def Obligations.CueStepResyncs : Prop :=
  (∀ (sense : Sense) (s : State), s.preferred = some .cue → ∀ q rest, s.arb.queues.get .cue = q :: rest →
    s.changer.trayPresent = true → s.cool.warning = false → s.cue.debt = 0 → q.kind = .stepFwd → q.source = .cue →
    ∀ p, s.changer.position = some p → p ≤ s.items.traySize →
    ∀ ref, q.cueRef = some ref → ∀ e, s.cue.entries.find? (fun x => x.position == ref) = some e →
    ∀ slot, e.slot = some slot → slot ≤ s.items.traySize →
    let next := if s.items.skipEmpty then s.stepTarget .forward p else if p = s.items.traySize then 0 else p + 1
    ∃ t, exec (.grant sense) s = .next t
      ∧ t.arb.stack = s.arb.stack
      ∧ (next = slot → t.usage = s.usage ∧ (slot ≠ p →
          ∃ r, t.changer.record = some r ∧ r.request = some q ∧ r.target = some slot))
      ∧ (next ≠ slot → s.usage.counters.syncErrs.gained t.usage.counters.syncErrs ∧ t.link.flags.syncTape = true)
      ∧ (next ≠ slot → s.items.autoResync = true → slot ≠ p →
          ∃ r, t.changer.record = some r
            ∧ r.request = some { q with kind := .goto, target := some slot, noPush := true } ∧ r.target = some slot)
      ∧ (next ≠ slot → s.items.autoResync = true → slot = p → t.changer.record = s.changer.record)
      ∧ (next ≠ slot → s.items.autoResync = false → next ≠ p →
          ∃ r, t.changer.record = some r ∧ r.request = some q ∧ r.target = some next)
      ∧ (next ≠ slot → s.items.autoResync = false → next = p → t.changer.record = s.changer.record))
  ∧ ∀ s : State, s.changer.state = .homing → s.changer.homingLift = false → ∀ r, s.changer.record = some r →
    r.homingSteps < s.items.traySize + 2 → ∀ q, r.request = some q → q.kind = .stepFwd → q.source = .cue →
    ∀ ref, q.cueRef = some ref → ∀ e, s.cue.entries.find? (fun x => x.position == ref) = some e →
    ∀ slot, e.slot = some slot → slot ≤ s.items.traySize →
    let next := if s.items.skipEmpty then s.stepTarget .forward 0 else if s.items.traySize = 0 then 0 else 1
    let resyncs := next ≠ slot ∧ s.items.autoResync = true
    let goal := if resyncs then slot else next
    ∃ t, exec (.indexPulse true) s = .next t
      ∧ t.changer.position = some 0 ∧ t.changer.state = (if goal = 0 then .settle else .rotate)
      ∧ (∃ r', t.changer.record = some r' ∧ r'.origin = some 0 ∧ r'.target = some goal
          ∧ r'.request = some (if resyncs then { q with kind := .goto, target := some slot, noPush := true } else q))
      ∧ t.arb = s.arb ∧ t.fade = s.fade
      ∧ (next = slot → t.usage = s.usage)
      ∧ (next ≠ slot → s.usage.counters.syncErrs.gained t.usage.counters.syncErrs ∧ t.link.flags.syncTape = true)

/-! ## The stages of a change -/

/-- An index pulse in ROTATE and in RETURNING counts one step of the ring; the last one leads to DROP at a slot and to
SETTLE at the gap (R1, R12, R13). An index pulse in IDLE makes the changer LOST; in LOST, JAMMED, DIPPING, LIFT, DROP
and SETTLE it is not counted (R17, R19). -/
def Obligations.IndexPulseCountsOneStep : Prop :=
  (∀ (m : Bool) (s : State), ∀ r, s.changer.record = some r → ∀ p, s.changer.position = some p → p ≤ s.items.traySize →
    ∀ d, r.direction = some d →
    let up := if p = s.items.traySize then 0 else p + 1
    let down := if p = 0 then s.items.traySize else p - 1
    let on := if d = .forward then up else down
    let back := if d = .forward then down else up
    let moved := fun (n : Nat) (r' : ChangeRecord) => { s.changer with
      sense := { s.changer.sense with homeMark := m }, position := some n, record := some r'
      stageDue := some (s.clock + 150000) }
    let arrived := fun (n : Nat) (r' : ChangeRecord) (o : ChangeOutcome) =>
      if n = 0 then { moved n { r' with outcome := some o } with
        state := .settle, stageDue := some (s.clock + 40000), drive := none, lift := false, dropRelease := false }
      else { moved n r' with state := .drop, drive := none, lift := false, dropRelease := !s.cool.warning }
    (s.changer.state = .rotate → r.stepsMade + 1 < r.planned →
      exec (.indexPulse m) s
        = .next { s with changer := moved on { r with stepsMade := r.stepsMade + 1, moved := true } })
    ∧ (s.changer.state = .rotate → r.planned ≤ r.stepsMade + 1 →
      exec (.indexPulse m) s
        = .next { s with changer := arrived on { r with stepsMade := r.stepsMade + 1, moved := true } .done })
    ∧ (s.changer.state = .returning → 1 < r.stepsBack →
      exec (.indexPulse m) s
        = .next { s with changer := moved back { r with stepsBack := r.stepsBack - 1, moved := true } })
    ∧ (s.changer.state = .returning → r.stepsBack ≤ 1 →
      exec (.indexPulse m) s
        = .next { s with changer := arrived back { r with stepsBack := r.stepsBack - 1, moved := true } .restored }))
  ∧ ((∀ (m : Bool) (s : State), s.changer.state = .idle →
      ∃ t, exec (.indexPulse m) s = .next t
        ∧ t.changer = { s.changer.lost with sense := { s.changer.sense with homeMark := m } }
        ∧ t.arb = { s.arb with dwellDue := none }
        ∧ s.onlyChanges [.changer, .arb, .fade, .cool, .lamp, .store, .prot, .link] t)
  ∧ ∀ (m : Bool) (s : State), s.changer.state ∈ [.lost, .jammed, .dipping, .lift, .drop, .settle] →
      exec (.indexPulse m) s
        = .next { s with changer := { s.changer with sense := { s.changer.sense with homeMark := m } } })

/-- The search of a homing: a pulse without the home mark adds a step, one with it ends the search at position 0, from
where a granted change turns the shorter way to its target or settles at the gap, and a homing without a request is IDLE
(R10, R18). That the granted change enters ROTATE in the same step, with no fresh reading of the gate, is the model's
reading (log 21), and so are the motors off under a standing warning (log 23). Left out: a homing on which a jam clear
waits (log 20), and a cue step with a reference, of which CueStepResyncs speaks. -/
def Obligations.HomingSearchCountsToTheMark : Prop :=
  ∀ (m : Bool) (s : State), s.changer.state = .homing → s.changer.homingLift = false →
    ∀ r, s.changer.record = some r → r.homingSteps < s.items.traySize + 2 →
    let counted := { r with homingSteps := r.homingSteps + 1, moved := true }
    (m = false → exec (.indexPulse m) s = .next { s with changer := { s.changer with
        sense := { s.changer.sense with homeMark := m }, record := some counted, stageDue := some (s.clock + 150000) } })
    ∧ (m = true → r.request = none → s.changer.jamClear = false → ∃ t, exec (.indexPulse m) s = .next t
        ∧ t.changer = { s.changer.restsIn .idle with
            sense := { s.changer.sense with homeMark := m }, position := some 0 })
    ∧ (m = true → ∀ q, r.request = some q → ∀ n, s.asks q r.popped 0 n → n ≤ s.items.traySize →
        ∃ t, exec (.indexPulse m) s = .next t
          ∧ t.changer = { s.changer with
              sense := { s.changer.sense with homeMark := m }, position := some 0, lift := false, homingLift := false
              state := if n = 0 then .settle else .rotate
              stageDue := some (s.clock + if n = 0 then 40000 else 150000)
              dropRelease := if n = 0 then false else s.changer.dropRelease
              drive := if n = 0 ∨ s.cool.warning = true then none
                else if 2 * n ≤ s.items.traySize + 1 then some .forward else some .reverse
              record := some { counted with
                origin := some 0, target := some n
                outcome := if n = 0 then some .done else r.outcome
                direction := if n = 0 then r.direction
                  else if 2 * n ≤ s.items.traySize + 1 then some .forward else some .reverse
                planned := if n = 0 then r.planned
                  else if 2 * n ≤ s.items.traySize + 1 then n else s.items.traySize + 1 - n } }
          ∧ t.fade = s.fade ∧ t.arb = s.arb ∧ t.usage = s.usage)

/-- A homing fails at its 150 ms step limit and at T + 2 steps: the changer LOST, HOME-FAIL given, a granted change
ABORTED with no final position (R15, R18, R143). -/
def Obligations.HomingFailureGivesHomeFail : Prop :=
  (∀ s : State, s.changer.state = .homing → s.changer.homingLift = false → ∀ r, s.changer.record = some r →
      ∃ t, exec .homingStepTimeout s = .next t ∧ t.changer = s.changer.lost ∧ s.raisedBy .homeFail 1 t
        ∧ t.arb.dwellDue = none
        ∧ (s.prot.pl = 0 → ∀ q, r.request = some q → q.source = .link →
            t.arb.completions = lastEight (s.arb.completions ++ [⟨q.tag.getD 0#8, .aborted, none⟩])))
  ∧ (∀ s : State, s.changer.state = .homing → ∀ r, s.changer.record = some r → s.items.traySize + 2 ≤ r.homingSteps →
      ∃ t, exec .homingStepCountReached s = .next t ∧ t.changer = s.changer.lost ∧ s.raisedBy .homeFail 1 t
        ∧ t.arb.dwellDue = none
        ∧ (s.prot.pl = 0 → ∀ q, r.request = some q → q.source = .link →
            t.arb.completions = lastEight (s.arb.completions ++ [⟨q.tag.getD 0#8, .aborted, none⟩])))
  ∧ ∀ s : State, ∀ r, s.changer.record = some r → r.homingSteps < s.items.traySize + 2 →
      exec .homingStepCountReached s = .next s

/-- A stall in ROTATE: one retry on the first step, RETURNING otherwise, which is at the origin at once when no step was
made (R12, R13). -/
def Obligations.RotationStallRetriesThenReturns : Prop :=
  ∀ s : State, s.changer.state = .rotate → ∀ r, s.changer.record = some r →
    let now := max s.clock (s.changer.stageDue.getD 0)
    let back := { r with restoring := true, stepsBack := r.stepsMade }
    (r.stepsMade = 0 → r.retryUsed = false →
      exec .rotateStepTimeout s = .next { s with
        clock := now
        changer := { s.changer with record := some { r with retryUsed := true }, stageDue := some (now + 150000) } })
    ∧ (r.stepsMade ≠ 0 →
      exec .rotateStepTimeout s = .next { s with
        clock := now
        changer := { s.changer with
          state := .returning, record := some back, stageDue := some (now + 150000)
          drive := if s.cool.warning then none
            else r.direction.map (fun d => if d = .forward then .reverse else .forward) } })
    ∧ (r.stepsMade = 0 → r.retryUsed = true →
      exec .rotateStepTimeout s = .next { s with
        clock := now
        changer := if s.changer.position = some 0 then { s.changer with
            state := .settle, record := some { back with outcome := some .restored }
            stageDue := some (now + 40000), drive := none, lift := false, dropRelease := false }
          else { s.changer with
            state := .drop, record := some back, stageDue := some (now + 150000), drive := none, lift := false
            dropRelease := !s.cool.warning } })

/-- A stall while returning leaves the changer JAMMED at the position counted and gives TRAY-JAM; a gate still occupied
at the lift's limit ends the change JAMMED in IDLE, or the homing LOST, and gives GATE-JAM (R9, R13, R15 to R18). -/
def Obligations.StallsAndGateJamsGiveTheirCause : Prop :=
  (∀ s : State, s.changer.state = .returning → ∀ r, s.changer.record = some r →
      ∃ t, exec .returnStepTimeout s = .next t ∧ t.changer = s.changer.restsIn .jammed ∧ s.raisedBy .trayJam 1 t
        ∧ (r.request.isSome = true → s.usage.counters.jams.gained t.usage.counters.jams)
        ∧ (r.request.isSome = true → r.moved = true → s.usage.counters.changes.gained t.usage.counters.changes)
        ∧ (r.request = none → t.usage = s.usage)
        ∧ (s.prot.pl = 0 → ∀ q, r.request = some q → q.source = .link →
            t.arb.completions = lastEight (s.arb.completions ++ [⟨q.tag.getD 0#8, .jammed, s.changer.position⟩])))
  ∧ (∀ s : State, s.changer.state = .lift → ∀ r, s.changer.record = some r →
      ∃ t, exec .liftLimitExpiry s = .next t
        ∧ t.changer = (if s.changer.jamClear then s.changer.lost else s.changer.restsIn .idle)
        ∧ s.raisedBy .gateJam 1 t
        ∧ (r.request.isSome = true → s.usage.counters.jams.gained t.usage.counters.jams)
        ∧ (r.request.isSome = true → r.moved = false → t.usage.counters.changes = s.usage.counters.changes)
        ∧ (s.prot.pl = 0 → ∀ q, r.request = some q → q.source = .link →
            t.arb.completions = lastEight (s.arb.completions ++ [⟨q.tag.getD 0#8, .jammed, s.changer.position⟩])))
  ∧ ∀ s : State, s.changer.state = .homing → s.changer.homingLift = true → ∀ r, s.changer.record = some r →
      ∃ t, exec .liftLimitExpiry s = .next t ∧ t.changer = s.changer.lost ∧ s.raisedBy .gateJam 1 t

/-- A gate that goes clear in LIFT leaves the entry LOADED and the change turns to its target, or settles when it stands
there; in the lift of a homing the search begins (R4, R9, R10, R18). DROP: a slide seen makes the entry IN-GATE and
zeroes the film guard, none within 150 ms makes it EMPTY; a restore drop is RESTORED either way; then SETTLE (R4, R14,
R49). The drop release closed on leaving DROP (log 24) and the motors off in a homing under the warning (log 23) are the
model's choices; a home mark active as the gate clears in a homing's lift is left out. -/
def Obligations.GateReadingsInLiftAndDrop : Prop :=
  ((∀ (m : Bool) (s : State), s.changer.state = .lift → ∀ r, s.changer.record = some r →
      ∀ p, s.changer.position = some p → p ≤ s.items.traySize → ∀ n, r.target = some n →
      let ahead := (n + (s.items.traySize + 1) - p) % (s.items.traySize + 1)
      let dir := if 2 * ahead ≤ s.items.traySize + 1 then Direction.forward else .reverse
      let loaded := s.changer.map.mapIdx (fun i e => if i + 1 = p then { e with state := .loaded } else e)
      (n ≠ p → exec (.gateClearInLift m) s = .next { s with changer := { s.changer with
          sense := ⟨false, m⟩, map := loaded, state := .rotate, lift := false, stageDue := some (s.clock + 150000)
          drive := if s.cool.warning then none else some dir
          record := some { r with
            direction := some dir
            planned := if 2 * ahead ≤ s.items.traySize + 1 then ahead else s.items.traySize + 1 - ahead } } })
      ∧ (n = p → exec (.gateClearInLift m) s = .next { s with changer := { s.changer with
          sense := ⟨false, m⟩, map := loaded, state := .settle, lift := false, drive := none, dropRelease := false
          stageDue := some (s.clock + 40000), record := some { r with outcome := some .done } } }))
  ∧ ∀ s : State, s.changer.state = .homing → s.changer.homingLift = true →
      exec (.gateClearInLift false) s = .next { s with changer := { s.changer with
        sense := ⟨false, false⟩, homingLift := false, lift := false, stageDue := some (s.clock + 150000)
        drive := if s.cool.warning then none else some .forward } })
  ∧ (∀ s : State, s.changer.state = .drop → ∀ r, s.changer.record = some r → ∀ p, s.changer.position = some p →
    let now := max s.clock (s.changer.stageDue.getD 0)
    let settled := fun (slide : Bool) (at_ : Nat) => { s.changer with
      state := .settle, stageDue := some (at_ + 40000), drive := none, lift := false, dropRelease := false
      map := s.changer.map.mapIdx (fun i e =>
        if i + 1 = p then { e with state := if slide then .inGate else .empty } else e)
      record := some { r with
        found := slide
        outcome := some (if r.restoring then .restored else if slide then .done else .empty) } }
    (∃ t, exec .gateOccupiedInDrop s = .next t
      ∧ t.changer = { settled true s.clock with sense := { s.changer.sense with gateOccupied := true } }
      ∧ t.lamp.guardAcc = 0 ∧ t.lamp.guardEngaged = false
      ∧ s.onlyChanges [.changer, .lamp, .cool, .store, .prot, .link] t)
    ∧ exec .dropLimitExpiry s = .next { s with clock := now, changer := settled false now })

/-- SETTLE's end: IDLE (or LOST, where a jam clear waits), the usage increments, the completion entry of a LINK request,
the watch closed, and the dwell timer started, or primed during hold, when a slide stands in the gate and auto mode is
on (R15 to R17, R30, R37). That no dwell timer runs after a SETTLE expiry on which a jam clear waits is the model's
reading (log 19). A counter that wraps raises COUNTER (R182). -/
def Obligations.SettleEndsTheChange : Prop :=
  ∀ s : State, s.changer.state = .settle → ∀ r, s.changer.record = some r → ∀ o, r.outcome = some o →
    ∀ p, s.changer.position = some p →
    let now := max s.clock (s.changer.stageDue.getD 0)
    let dwell := (s.changer.map[p - 1]?).bind (fun e =>
      if p ≠ 0 ∧ e.state = .inGate then
        (match e.dwellPreset with
          | some d => some (100000 * d)
          | none => if s.items.defaultDwell = 0 then none else some (100000 * s.items.defaultDwell))
      else none)
    ∃ t, exec .settleExpiry s = .next t
      ∧ t.changer = (if s.changer.jamClear then s.changer.lost else s.changer.restsIn .idle)
      ∧ t.clock = now ∧ t.fade.watch = none
      ∧ (r.request.isSome = true → r.moved = true ∨ o = .restored →
          s.usage.counters.changes.gained t.usage.counters.changes)
      ∧ (r.request.isSome = true → o = .restored ∨ o = .jammed → s.usage.counters.jams.gained t.usage.counters.jams)
      ∧ (r.request = none → t.usage = s.usage)
      ∧ (r.request.isSome = true → (r.moved = true ∨ o = .restored) ∧ 4294967295 ≤ s.usage.counters.changes.value
            ∨ (o = .restored ∨ o = .jammed) ∧ 4294967295 ≤ s.usage.counters.jams.value → t.link.flags.counter = true)
      ∧ (∀ q, r.request = some q →
          t.arb.completions = if q.source = .link
            then lastEight (s.arb.completions ++ [⟨q.tag.getD 0#8, o, some p⟩]) else s.arb.completions)
      ∧ (s.changer.jamClear = true → t.arb.dwellDue = none)
      ∧ (s.changer.jamClear = false → ∀ d, dwell = some d → s.arb.autoMode = true → s.arb.hold = false →
          t.arb.dwellDue = some (now + d))
      ∧ (s.changer.jamClear = false → ∀ d, dwell = some d → s.arb.autoMode = true → s.arb.hold = true →
          t.arb.shadow = s.arb.shadow.map (fun h => ⟨some d, h.auto⟩) ∧ t.arb.dwellDue = s.arb.dwellDue)
      ∧ (s.changer.jamClear = false → dwell = none ∨ s.arb.autoMode = false →
          t.arb.dwellDue = s.arb.dwellDue ∧ t.arb.shadow = s.arb.shadow)
      ∧ t.arb.queues = s.arb.queues ∧ t.arb.stack = s.arb.stack

/-- Tray removal ends what is in flight ABORTED, flushes every queue, oldest LINK request first, empties the stack, and
turns cue debt that stands into owed steps; insertion starts a homing with auto-home set (R20, R41, R140). That the change
ends before the flush (log 47), and that a homing under a standing warning runs with its drive off (log 23), are the
model's choices. -/
def Obligations.TrayRemovalAndInsertion : Prop :=
  (∀ s : State, s.changer.trayPresent = true → s.arb.completions.length ≤ 8 →
      let ended := match s.changer.record.bind ChangeRecord.request with
        | some q => if q.source = .link then [(⟨q.tag.getD 0#8, .aborted, none⟩ : Completion)] else []
        | none => []
      let flushed := (s.arb.queues.link.filter (fun r => r.source == .link)).map
        (fun r => (⟨r.tag.getD 0#8, .aborted, none⟩ : Completion))
      ∃ t, exec .trayRemoval s = .next t
        ∧ t.changer = { s.changer.lost with trayPresent := false }
        ∧ t.arb.stack = [] ∧ t.arb.dwellDue = none ∧ (s.changer.record ≠ none → t.fade.watch = none)
        ∧ t.arb.completions = lastEight (s.arb.completions ++ ended ++ flushed)
        ∧ t.arb.queues.link = [] ∧ t.arb.queues.remote = [] ∧ t.arb.queues.panel = [] ∧ t.arb.queues.dwell = []
        ∧ (s.prot.pl < 2 → s.cool.power ≠ .coolingDown →
            t.arb.queues.cue = List.replicate (min 4 s.cue.debt) ⟨.stepFwd, none, .cue, false, false, false, none, none, false⟩
              ∧ t.cue.debt = s.cue.debt - 4))
  ∧ (∀ (sense : Sense) (s : State), s.changer.trayPresent = false →
      ¬(s.items.autoHome = true ∧ s.changer.state = .lost) →
      exec (.trayInsertion sense) s = .next { s with changer := { s.changer with trayPresent := true, sense := sense } })
  ∧ ∀ (sense : Sense) (s : State), s.changer.trayPresent = false → s.items.autoHome = true → s.changer.state = .lost →
      s.changer.jamClear = false →
      ∃ t, exec (.trayInsertion sense) s = .next t
        ∧ t.changer.trayPresent = true ∧ t.changer.sense = sense ∧ t.changer.map = s.changer.map ∧ t.arb.dwellDue = none
        ∧ (if sense.gateOccupied then t.changer.state = .homing ∧ t.changer.homingLift = true
            ∧ t.changer.stageDue = some (s.clock + 250000)
          else if sense.homeMark then t.changer.state = .idle ∧ t.changer.position = some 0
          else t.changer.state = .homing ∧ t.changer.drive = (if s.cool.warning then none else some .forward))

/-- The target of a step: with skip-empty mode off the neighbour on the ring; with it on the first position in the
step's direction that is the gap or a slot neither EMPTY nor skipped, so the gap when no slot is eligible (R1, R11). -/
def Obligations.SkipEmptyStepsToAnEligiblePosition : Prop :=
  ∀ (s : State) (p k : Nat), p ≤ s.items.traySize → s.changer.map.length = s.items.traySize →
    let open_ := fun n => n = 0 ∨ ∃ e, s.changer.map[n - 1]? = some e ∧ e.state ≠ .empty ∧ e.skip = false
    let ring := s.items.traySize + 1
    (s.items.skipEmpty = false →
      s.stepTarget .forward p = (p + 1) % ring ∧ s.stepTarget .reverse p = (p + s.items.traySize) % ring)
    ∧ (s.items.skipEmpty = true →
      open_ (s.stepTarget .forward p) ∧ s.stepTarget .forward p ≤ s.items.traySize
        ∧ (0 < k → k < (s.stepTarget .forward p + ring - 1 - p) % ring + 1 → ¬ open_ ((p + k) % ring))
        ∧ open_ (s.stepTarget .reverse p) ∧ s.stepTarget .reverse p ≤ s.items.traySize
        ∧ (0 < k → k < (p + ring - 1 - s.stepTarget .reverse p) % ring + 1 → ¬ open_ ((p + ring - k) % ring)))

/-! ## Fades and the lamp -/

/-- A ramp step: k rises by 1, the level is L0 + trunc(D × k / N); at k = N a RAMPING channel is STEADY and the timer
stops, while PENDING and DIPPED stay. The last step of the dip ramp lets the changer go on from DIPPING: to LIFT with
the gate occupied, straight to ROTATE with it clear, and to HOMING from LOST (R44, R63, R68, R8, R9, R12, R18). The
motors off while the warning stands are the model's reading (log 23). A ramp moves one way only, stays between its ends
and lands on its target (R44). -/
def Obligations.RampStepFollowsTheFormula : Prop :=
  (∀ (ch : Channel) (sense : Sense) (s : State),
    let c := s.fade.channel ch
    let now := max s.clock (c.stepDue.getD 0)
    let stepped := { c with
      count := c.count + 1
      level := ((c.start : Int)
        + Int.tdiv (((c.target : Int) - (c.start : Int)) * ((c.count + 1 : Nat) : Int)) (c.steps : Int)).toNat
      state := if c.count + 1 = c.steps ∧ c.state = .ramping then .steady else c.state
      stepDue := if c.count + 1 = c.steps then none else some (now + 10000) }
    c.count < c.steps → c.state ≠ .steady →
    (ch = .audio ∨ s.changer.state ≠ .dipping ∨ c.state ≠ .dipped ∨ c.count + 1 < c.steps →
      ∃ t, exec (.rampStep ch sense) s = .next t ∧ t.fade = s.fade.putChannel ch stepped ∧ t.clock = now
        ∧ s.onlyChanges [.fade, .clock, .cool, .lamp, .store, .prot, .link] t)
    ∧ (ch = .lamp → s.changer.state = .dipping → c.state = .dipped → c.count + 1 = c.steps →
      ∀ p, s.changer.position = some p → sense.gateOccupied = true →
      ∃ t, exec (.rampStep ch sense) s = .next t ∧ t.fade = s.fade.putChannel ch stepped ∧ t.clock = now
        ∧ t.changer = { s.changer with
          sense := sense, state := .lift, lift := !s.cool.warning, stageDue := some (now + 250000) })
    ∧ (ch = .lamp → s.changer.state = .dipping → c.state = .dipped → c.count + 1 = c.steps →
      ∀ p, s.changer.position = some p → p ≤ s.items.traySize → sense.gateOccupied = false →
      ∀ r, s.changer.record = some r → ∀ n, r.target = some n → n ≠ p →
      let ahead := (n + (s.items.traySize + 1) - p) % (s.items.traySize + 1)
      let dir := if 2 * ahead ≤ s.items.traySize + 1 then Direction.forward else .reverse
      ∃ t, exec (.rampStep ch sense) s = .next t ∧ t.fade = s.fade.putChannel ch stepped ∧ t.clock = now
        ∧ t.changer = { s.changer with
          sense := sense, state := .rotate, lift := false, stageDue := some (now + 150000)
          map := s.changer.map.mapIdx (fun i e => if i + 1 = p ∧ e.state = .inGate then { e with state := .empty } else e)
          drive := if s.cool.warning then none else some dir
          record := some { r with
            direction := some dir
            planned := if 2 * ahead ≤ s.items.traySize + 1 then ahead else s.items.traySize + 1 - ahead } })
    ∧ (ch = .lamp → s.changer.state = .dipping → c.state = .dipped → c.count + 1 = c.steps →
      s.changer.position = none → sense.gateOccupied = true ∨ sense.homeMark = false →
      ∃ t, exec (.rampStep ch sense) s = .next t ∧ t.fade = s.fade.putChannel ch stepped ∧ t.clock = now
        ∧ t.changer = (if sense.gateOccupied then { s.changer with
            sense := sense, state := .homing, homingLift := true, lift := !s.cool.warning
            stageDue := some (now + 250000) }
          else { s.changer with
            sense := sense, state := .homing, homingLift := false, lift := false, stageDue := some (now + 150000)
            drive := if s.cool.warning then none else some .forward })))
  ∧ (∀ (l0 l1 k j n : Nat), 0 < n → k ≤ j → j ≤ n →
    rampLevel l0 l1 0 n = l0 ∧ rampLevel l0 l1 n n = l1
      ∧ (l0 ≤ l1 → rampLevel l0 l1 k n ≤ rampLevel l0 l1 j n ∧ rampLevel l0 l1 j n ≤ l1 ∧ l0 ≤ rampLevel l0 l1 j n)
      ∧ (l1 ≤ l0 → rampLevel l0 l1 j n ≤ rampLevel l0 l1 k n ∧ l1 ≤ rampLevel l0 l1 j n ∧ rampLevel l0 l1 j n ≤ l0))

/-- The link FADE: an unknown channel is refused; a plain fade is taken at once, or is held as the override by a DIPPED
channel, and discards a pending fade; one with WAIT-CHANGE becomes the pending fade while the changer is busy. A level
above 1000 is taken as 1000 (R43, R62, R63, R69, R72, R176). -/
def Obligations.FadeIsTakenOrHeld : Prop :=
  ∀ (h : Header) (s : State) (named high low time flags : Byte), s.takes h → s.prot.pl < 3 →
    let level := min (256 * high.toNat + low.toNat) 1000
    let waits := flags.getLsbD 0 = true ∧ s.changer.state ≠ .idle ∧ s.changer.state ≠ .lost
    let taken := fun (c : FadeChannel) => if c.state = .dipped then { c with pending := none } else
      { c with
        start := c.level, target := level, level := if time = 0#8 then level else c.level
        steps := 10 * time.toNat, count := 0, state := if time = 0#8 then .steady else .ramping, pending := none
        stepDue := if time = 0#8 then none else some (s.clock + 10000) }
    let held := fun (c : FadeChannel) =>
      { c with pending := some ⟨level, time.toNat⟩, state := if c.state = .dipped then .dipped else .pending }
    (2 ≤ named.toNat → exec (.fade h [named, high, low, time, flags]) s = .next (s.framed.replied h .badArg []))
    ∧ (named = 0#8 → ¬waits →
      ∃ u, exec (.fade h [named, high, low, time, flags]) s = .next (State.replied h .accepted [] u)
        ∧ u.fade = { s.fade with
            lamp := taken s.fade.lamp
            watch := s.fade.watch.map (fun w => { w with override := some ⟨level, time.toNat⟩ }) }
        ∧ s.framed.onlyChanges [.fade, .cool, .lamp, .store, .prot, .link] u)
    ∧ (named = 0#8 → waits → exec (.fade h [named, high, low, time, flags]) s
        = .next (State.replied h .accepted [] { s.framed with fade := { s.fade with lamp := held s.fade.lamp } }))
    ∧ (named = 1#8 → exec (.fade h [named, high, low, time, flags]) s
        = .next (State.replied h .accepted [] { s.framed with
            fade := { s.fade with audio := if waits then held s.fade.audio else taken s.fade.audio } }))

/-- The LAMP channel at every end of a change: a pending fade in place of the restore, which goes on waiting where the
changer enters JAMMED; else, after a dip, the override, the preset of a slot whose drop found a slide, or the saved
target; else, with no dip and no override, the preset alone. The watch closes. The ends are the SETTLE expiry, a gate jam,
a stall while returning, a homing failure, tray removal and the supply-fail warning; a change ABORTED in SETTLE hands the
position and the finding of its drop, and takes its preset (R15, R64, R70 to R72). -/
def Obligations.ChangeEndRestoresTheLamp : Prop :=
  ∀ s : State, ∀ r, s.changer.record = some r → ∀ w, s.fade.watch = some w →
    let now := max s.clock (s.changer.stageDue.getD 0)
    (s.changer.state = .settle → ∃ t, exec .settleExpiry s = .next t ∧ s.fadesAtEnd r.found true now w t)
    ∧ (s.changer.state = .lift → ∃ t, exec .liftLimitExpiry s = .next t ∧ s.fadesAtEnd r.found true now w t)
    ∧ (s.changer.state = .returning →
      ∃ t, exec .returnStepTimeout s = .next t ∧ s.fadesAtEnd r.found false now w t)
    ∧ (s.changer.state = .homing → s.changer.homingLift = true →
      ∃ t, exec .liftLimitExpiry s = .next t ∧ s.fadesAtEnd r.found true now w t)
    ∧ (s.changer.state = .homing → s.changer.homingLift = false →
      ∃ t, exec .homingStepTimeout s = .next t ∧ s.fadesAtEnd r.found true now w t)
    ∧ (s.changer.state = .homing → s.items.traySize + 2 ≤ r.homingSteps →
      ∃ t, exec .homingStepCountReached s = .next t ∧ s.fadesAtEnd r.found true s.clock w t)
    ∧ (s.changer.trayPresent = true →
      ∃ t, exec .trayRemoval s = .next t ∧ s.fadesAtEnd r.found true s.clock w t)
    ∧ (s.cool.warning = false →
      ∃ t, exec .supplyFailWarning s = .next t ∧ s.fadesAtEnd r.found true s.clock w t)

/-- The link LAMP and LAMP-RESET: values above 2 are refused, ECO and FULL during COOLING-DOWN are refused STANDBY; the
switch takes the value; FAILED is cleared by a cycle of the switch through OFF or by LAMP-RESET (R45, R58, R176). -/
def Obligations.LampSwitchAndLampReset : Prop :=
  (∀ (h : Header) (s : State) (v : Byte), s.takes h → s.prot.pl < 3 → 3 ≤ v.toNat →
      exec (.lamp h [v]) s = .next (s.framed.replied h .badArg []))
  ∧ (∀ (h : Header) (s : State) (v : Byte), s.takes h → s.prot.pl < 3 → v = 1#8 ∨ v = 2#8 → s.cool.power = .coolingDown →
      exec (.lamp h [v]) s = .next (s.framed.replied h .standby []))
  ∧ (∀ (h : Header) (s : State) (v : Byte), s.takes h → s.prot.pl < 3 → v.toNat ≤ 2 →
      v = 0#8 ∨ s.cool.power ≠ .coolingDown →
      let clears := s.lamp.failed = true ∧ s.lamp.cycled = true ∧ s.lamp.switch = .off ∧ v ≠ 0#8
      ∃ u, exec (.lamp h [v]) s = .next (State.replied h .accepted [] u)
        ∧ u.lamp.switch = (if v = 0#8 then .off else if v = 1#8 then .eco else .full)
        ∧ u.lamp.failed = (if clears then false else s.lamp.failed)
        ∧ u.lamp.cycled = (if clears then false
            else if s.lamp.failed = true ∧ s.lamp.switch ≠ .off ∧ v = 0#8 then true else s.lamp.cycled)
        ∧ u.lamp.failCount = (if clears then 0 else s.lamp.failCount)
        ∧ u.fade = s.fade
        ∧ s.framed.onlyChanges [.lamp, .cool, .store, .prot, .link] u)
  ∧ ∀ (h : Header) (s : State), s.takes h → s.prot.pl < 3 →
      ∃ u, exec (.lampReset h []) s = .next (State.replied h .accepted [] u)
        ∧ (s.lamp.failed = true → u.lamp.failed = false ∧ u.lamp.cycled = false ∧ u.lamp.failCount = 0)
        ∧ (s.lamp.failed = false → u = s.framed)
        ∧ s.framed.onlyChanges [.lamp, .cool, .store, .prot, .link] u

/-- The guard tick: G becomes G + E − R held to 0 and Gmax; the guard engages at Gmax, releases at three quarters of it,
and is otherwise as it was (R49, R50). -/
def Obligations.GuardTickMovesTheAccumulator : Prop :=
  ∀ s : State,
    let e := min s.fade.lamp.level s.ceiling
    let g := ((s.lamp.guardAcc : Int) + e - s.items.filmCeiling)
    let g' := if g < 0 then 0 else if (s.items.guardLimit : Int) < g then s.items.guardLimit else g.toNat
    ∃ t, exec .guardTick s = .next t ∧ t.clock = max s.clock s.lamp.guardDue
      ∧ t.lamp.guardDue = s.lamp.guardDue + 100000 ∧ t.lamp.guardAcc = g'
      ∧ t.lamp.guardEngaged = (if g' = s.items.guardLimit then true
          else if g' ≤ s.items.guardLimit * 3 / 4 then false else s.lamp.guardEngaged)
      ∧ t.lamp.switch = s.lamp.switch ∧ t.lamp.failed = s.lamp.failed
      ∧ s.onlyChanges [.lamp, .clock, .cool, .store, .prot, .link] t

/-- A zero-crossing: the half-period just ended moves the tracker by its table, and the half-period that begins is fired
where the mains is NORMAL, H present, the drive above 0 and no warning stands, at f × H div 1000 but not after H − 200
(R55, R56). The firing pulse goes out at its moment and is spent. At 50 ms of mains silence H is absent, the mains
NO-MAINS, both runs 0, and a pulse not yet sent is cancelled; with neither due nothing happens (R55, R56). That a
silence expiry in NO-MAINS zeroes the runs and H too is the model's reading (log 42). -/
def Obligations.MainsTrackingAndFiring : Prop :=
  (∀ (dt : Nat) (s : State),
    let now := s.clock + dt
    let fires := fun (l : LampDrive) => { l with
      lastCrossing := some now
      firingDue := match l.halfPeriod with
        | none => none
        | some h => if l.mainsNormal = true ∧ 0 < s.drive ∧ s.cool.warning = false then
            some (now + min (lawDelay s.law s.drive * h / 1000) (h - 200)) else none }
    (s.lamp.lastCrossing = none → exec (.zeroCrossing dt) s
      = .next { s with clock := now, lamp := fires { s.lamp with halfPeriod := none } })
    ∧ (∀ last, s.lamp.lastCrossing = some last →
      let h := now - last
      let good := 8000 ≤ h ∧ h ≤ 12000
      (s.lamp.mainsNormal = true → good → exec (.zeroCrossing dt) s
        = .next { s with clock := now, lamp := fires { s.lamp with halfPeriod := some h, invalidRun := 0 } })
      ∧ (s.lamp.mainsNormal = true → ¬good → s.lamp.invalidRun < 7 → exec (.zeroCrossing dt) s
        = .next { s with clock := now, lamp := fires { s.lamp with
            halfPeriod := none, invalidRun := s.lamp.invalidRun + 1 } })
      ∧ (s.lamp.mainsNormal = true → ¬good → 7 ≤ s.lamp.invalidRun → exec (.zeroCrossing dt) s
        = .next { s with clock := now, lamp := fires { s.lamp with
            halfPeriod := none, mainsNormal := false, invalidRun := 0, validRun := 0 } })
      ∧ (s.lamp.mainsNormal = false → good → s.lamp.validRun < 3 → exec (.zeroCrossing dt) s
        = .next { s with clock := now, lamp := fires { s.lamp with
            halfPeriod := some h, validRun := s.lamp.validRun + 1 } })
      ∧ (s.lamp.mainsNormal = false → good → 3 ≤ s.lamp.validRun → exec (.zeroCrossing dt) s
        = .next { s with clock := now, lamp := fires { s.lamp with
            halfPeriod := some h, mainsNormal := true, invalidRun := 0, validRun := 0 } })
      ∧ (s.lamp.mainsNormal = false → ¬good → exec (.zeroCrossing dt) s
        = .next { s with clock := now, lamp := fires { s.lamp with halfPeriod := none, validRun := 0 } })))
  ∧ ((∀ s : State, ∀ due, s.lamp.firingDue = some due → exec .firingPulse s = .next { s with
      clock := max s.clock due, lamp := { s.lamp with firingDue := none, lastPulse := some (max s.clock due) } })
  ∧ (∀ s : State, s.lamp.firingDue = none → exec .firingPulse s = .next s)
  ∧ (∀ s : State, s.lamp.lastCrossing = none → exec .mainsSilenceExpiry s = .next s)
  ∧ ∀ s : State, ∀ last, s.lamp.lastCrossing = some last → exec .mainsSilenceExpiry s = .next { s with
      clock := max s.clock (last + 50000)
      lamp := { s.lamp with
        halfPeriod := none, mainsNormal := false, invalidRun := 0, validRun := 0, lastCrossing := none
        firingDue := none } })

/-- The lamp law: the per-mille delay is interpolated between two entries; it is W10 at drive 1000 and Wi at 100 × i, it
never rises with the drive, and it lies between W10 and W0, so within 50 to 1000. For drive 0 there is no delay and no
firing (R54). -/
def Obligations.LampLawInterpolates : Prop :=
  (∀ (w : List Nat) (x y : Nat), w.length = 11 → w.Pairwise (fun a b => b ≤ a) → w.getD 0 0 ≤ 1000 → 50 ≤ w.getD 10 0 →
      1 ≤ x → x ≤ y → y ≤ 1000 →
      (x < 1000 → lawDelay w x
        = w.getD (x / 100) 0 - (w.getD (x / 100) 0 - w.getD (x / 100 + 1) 0) * (x - 100 * (x / 100)) / 100)
      ∧ lawDelay w 1000 = w.getD 10 0 ∧ (x % 100 = 0 → lawDelay w x = w.getD (x / 100) 0)
      ∧ lawDelay w y ≤ lawDelay w x ∧ w.getD 10 0 ≤ lawDelay w x ∧ lawDelay w x ≤ w.getD 0 0
      ∧ 50 ≤ lawDelay w x ∧ lawDelay w x ≤ 1000)
  ∧ ∀ (dt : Nat) (s : State), s.drive = 0 →
      s.delayInForce = none ∧ ∃ t, exec (.zeroCrossing dt) s = .next t ∧ t.lamp.firingDue = none

/-- The effective level and the drive: E is the least of the LAMP level and the five ceilings; the drive is E, lifted to
the preheat level with the switch at FULL, the lamp not FAILED and PL below 2; with the items in their ranges it never
exceeds a ceiling, and it is 0 at PL 2 and 3 (R46, R47, R48, R51, R52). -/
def Obligations.DriveStaysUnderTheCeilings : Prop :=
  ∀ s : State, LampItemsLaw s.items →
    let it := s.items
    let switch := match s.lamp.switch with | .off => 0 | .eco => it.ecoCeiling | .full => 1000
    let derate := match s.cool.th with
      | none => it.derateFloor
      | some th => if th ≤ it.derateStart then 1000 else if it.derateEnd ≤ th then it.derateFloor
          else 1000 - (1000 - it.derateFloor) * (th - it.derateStart) / (it.derateEnd - it.derateStart)
    let film := if s.lamp.guardEngaged then it.filmCeiling else 1000
    let protect := if s.prot.pl = 0 then 1000 else if s.prot.pl = 1 then it.protectGuard else 0
    let failed := if s.lamp.failed then 0 else 1000
    let e := min s.fade.lamp.level (min switch (min derate (min film (min protect failed))))
    s.effective = e
      ∧ s.drive = (if s.lamp.switch = .full ∧ s.lamp.failed = false ∧ s.prot.pl < 2 then max e it.preheat else e)
      ∧ s.drive ≤ switch ∧ s.drive ≤ derate ∧ s.drive ≤ film ∧ s.drive ≤ protect ∧ s.drive ≤ failed
      ∧ (2 ≤ s.prot.pl → s.drive = 0)

/-- The sound attenuator: (1000 − a) × 96 div 1000 half-decibels, 0 to 96; the output is muted at level 0 and whenever
the transport is not in PLAY, the two independent. The display: E, a blank and the top cause's number with PL above 0,
dashes while the position is unknown, else the position, right-justified (R59, R118, R168). -/
def Obligations.SoundAndDisplayShowTheState : Prop :=
  ∀ s : State,
    s.attenuation = (1000 - s.fade.audio.level) * 96 / 1000 ∧ s.attenuation ≤ 96
      ∧ (s.levelMute = true ↔ s.fade.audio.level = 0) ∧ (s.transportMute = true ↔ s.tape.state ≠ .play)
      ∧ (s.muted = true ↔ s.fade.audio.level = 0 ∨ s.tape.state ≠ .play)
      ∧ (990 ≤ s.fade.audio.level → s.attenuation = 0)
      ∧ (s.fade.audio.level ≤ 1000 → s.attenuation = 96 → s.fade.audio.level = 0)
      ∧ (FaultLaw s → 0 < s.prot.pl → ∃ e, s.prot.stack.head? = some e
          ∧ s.display.chars = ['E', ' ', ['0', '1', '2', '3', '4', '5', '6', '7'].getD e.cause.number '?'])
      ∧ (s.prot.pl = 0 → s.changer.position = none → s.display.chars = ['-', '-', '-'])
      ∧ (s.prot.pl = 0 → ∀ n, s.changer.position = some n → n ≤ 128 →
          s.display.chars = List.replicate (3 - (Nat.toDigits 10 n).length) ' ' ++ Nat.toDigits 10 n)

/-! ## Scan, cooling and standby -/

/-- A scan pass reads every enabled slot once: result, latched status and both conditions by R92, R96, R97 and R99; a
disabled slot is skipped. The HOUSING result becomes Th, and the CUE-LEVEL slot's low limit is handed on with its result
(R105). -/
def Obligations.ScanPassReadsEveryEnabledSlot : Prop :=
  ∀ (raws : List (BitVec 12)) (s : State),
    let dueAt := match s.scan.lastPass with
      | none => s.clock
      | some last => max s.clock (last
          + if 0 < s.drive ∨ s.cool.darkStart.isSome = true ∨ s.cool.power = .coolingDown then 50000 else 500000)
    let turn := fun (active : Bool) (n : Nat) (beyond back : Bool) =>
      if (if active then back else beyond) then (if n + 1 < 3 then (active, n + 1) else (!active, 0)) else (active, 0)
    ∃ t, exec (.scanPass raws) s = .next t ∧ t.clock = dueAt ∧ t.scan.lastPass = some dueAt
      ∧ t.scan.slots.length = s.scan.slots.length
      ∧ ∀ i : Fin 8, ∀ sl, s.scan.slots[i.val]? = some sl → ∀ raw, raws[i.val]? = some raw →
        let r := raw.toNat - sl.cfg.offset
        let high := turn sl.highCond sl.highCount (decide (sl.cfg.high < r)) (decide (r + 20 ≤ sl.cfg.high))
        let low := turn sl.lowCond sl.lowCount (decide (r < sl.cfg.low)) (decide (sl.cfg.low + 20 ≤ r))
        t.scan.slots[i.val]? = (if sl.cfg.enable then
            some ⟨sl.cfg, some r, sl.latchedHigh || decide (sl.cfg.high < r), sl.latchedLow || decide (r < sl.cfg.low),
              high.1, low.1, high.2, low.2⟩
          else some sl)
        ∧ (sl.cfg.enable = true → (sl.latchedHigh = false ∧ sl.cfg.high < r) ∨ (sl.latchedLow = false ∧ r < sl.cfg.low) →
            t.link.flags.limit = true)
        ∧ (sl.cfg.enable = true → sl.cfg.role = .housing →
            (s.scan.slots.filter (fun x => x.cfg.role == .housing)).length = 1 → t.cool.th = some r)
        ∧ (sl.cfg.enable = true → sl.cfg.role = .cueLevel →
            (s.scan.slots.filter (fun x => x.cfg.role == .cueLevel)).length = 1 → t.dec.levelLow = sl.cfg.low)

/-- A third read in a row beyond the limit makes the role condition active and raises its live cause, where no entry of
it is stacked, with minimum level 1 for HOUSING and GATE and 2 for LAMP-CURRENT (R99, R102, R103, R142, R143). Stated
for a pass in which no other enabled slot's high condition turns. The lamp failure test: a pass counts with the lamp
NORMAL, the drive at least 200 and the result below the low limit; any other returns the count to 0, one with no
LAMP-CURRENT slot too; the third makes the lamp FAILED, and the drive 0, and raises LAMP (R57). The drive is the one at
the slot's turn in the pass, with a HOUSING result read before it in force (R93). The roles are held as R91 states. -/
def Obligations.ThirdPassBeyondTheLimitActs : Prop :=
  (∀ (raws : List (BitVec 12)) (s : State),
    (∀ sl ∈ s.scan.slots, ¬(sl.cfg.enable = true ∧ sl.cfg.role = .lampCurrent)) →
    ∃ t, exec (.scanPass raws) s = .next t ∧ t.lamp.failCount = 0 ∧ t.lamp.failed = s.lamp.failed)
  ∧ ∀ (raws : List (BitVec 12)) (s : State), RoleLaw (s.scan.slots.map ScanSlot.cfg) →
    ∀ i : Fin 8, ∀ sl, s.scan.slots[i.val]? = some sl → ∀ raw, raws[i.val]? = some raw → sl.cfg.enable = true →
    let result := fun (x : ScanSlot) (c : BitVec 12) => c.toNat - x.cfg.offset
    let turns := fun (x : ScanSlot) (c : BitVec 12) => x.cfg.enable = true ∧ 2 ≤ x.highCount
      ∧ (if x.highCond then result x c + 20 ≤ x.cfg.high else x.cfg.high < result x c)
    (∀ j : Fin 8, j ≠ i → ∀ x, s.scan.slots[j.val]? = some x → ∀ c, raws[j.val]? = some c → ¬turns x c) →
    (sl.highCond = false → turns sl raw →
      (sl.cfg.role = .housing → s.prot.active.housing = false → (∀ e ∈ s.prot.stack, e.cause ≠ .housingOvertemp) →
        ∃ t, exec (.scanPass raws) s = .next t ∧ t.prot.active.housing = true ∧ s.raisedBy .housingOvertemp 1 t)
      ∧ (sl.cfg.role = .gate → s.prot.active.gate = false → (∀ e ∈ s.prot.stack, e.cause ≠ .gateOvertemp) →
        ∃ t, exec (.scanPass raws) s = .next t ∧ t.prot.active.gate = true ∧ s.raisedBy .gateOvertemp 1 t)
      ∧ (sl.cfg.role = .lampCurrent → s.prot.active.overcurrent = false →
        (∀ e ∈ s.prot.stack, e.cause ≠ .lampOvercurrent) →
        ∃ t, exec (.scanPass raws) s = .next t ∧ t.prot.active.overcurrent = true ∧ s.raisedBy .lampOvercurrent 2 t))
    ∧ (sl.cfg.role = .lampCurrent → s.lamp.failed = false →
      let heard := (List.range i.val).findSome? (fun j => match s.scan.slots[j]?, raws[j]? with
        | some x, some c => if x.cfg.role = .housing then some (result x c) else none
        | _, _ => none)
      let drive := State.drive { s with cool := { s.cool with th := if heard.isSome then heard else s.cool.th } }
      let counts := s.lamp.mainsNormal = true ∧ 200 ≤ drive ∧ result sl raw < sl.cfg.low
      ∃ t, exec (.scanPass raws) s = .next t
        ∧ t.lamp.failCount = (if counts ∧ s.lamp.failCount < 2 then s.lamp.failCount + 1 else 0)
        ∧ t.lamp.failed = decide (counts ∧ 2 ≤ s.lamp.failCount)
        ∧ (counts → 2 ≤ s.lamp.failCount → t.link.flags.lamp = true ∧ t.drive = 0))

/-- Cooldown ends by cooling when Th is below Tcool at its minimum time; the two seconds after OFF return the part to
RUN (R82, R87). Entry to OFF comes with the end of cooldown in COOLING-DOWN, the changer free and no standby HOME
waiting. -/
def Obligations.CooldownEndsAndOffTimesOut : Prop :=
  (∀ s : State, ∀ start, s.cool.darkStart = some start →
      let now := max s.clock (start + 1000000 * s.items.cooldownTime)
      let ends := ∃ th, s.cool.th = some th ∧ th < s.items.coolTemp
      ∃ t, exec .cooldownMinTimeReached s = .next t ∧ t.clock = now
        ∧ t.cool.darkStart = (if ends then none else some start)
        ∧ (ends → s.cool.power = .coolingDown → (s.changer.state = .idle ∨ s.changer.state = .lost) →
            (∀ r ∈ s.arb.queues.panel, r.standby = false) → t.cool.power = .off ∧ t.cool.offDue = some (now + 2000000))
        ∧ (s.cool.power ≠ .coolingDown → t.cool.power = s.cool.power)
        ∧ s.onlyChanges [.cool, .clock, .prot] t)
  ∧ (∀ s : State, s.cool.darkStart = none → exec .cooldownMinTimeReached s = .next s)
  ∧ (∀ s : State, s.cool.power ≠ .off → exec .offTimeout s = .next s)
  ∧ ∀ s : State, s.cool.power = .off → exec .offTimeout s = .next { s with
      clock := max s.clock (s.cool.offDue.getD 0), cool := { s.cool with power := .run, offDue := none } }

/-- The fan tach: a pulse less than 2 ms after the last one taken is ignored; another is taken, measures the speed, and
where stall detection watches restarts the timer and ends a stall (R80, R81). With no pulse for 1.5 s the speed is
absent; the stall timer's expiry makes the fan stalled and raises FAN-STALL with minimum level 2 where the cause was
inactive and not stacked (R80, R81, R143, R144). -/
def Obligations.FanTachAndStallTimers : Prop :=
  (∀ (dt : Nat) (s : State),
    let now := s.clock + dt
    let watched := 30 ≤ s.duty ∧ s.cool.warning = false
    let taken := fun (speed : Option Nat) => { s with
      clock := now
      cool := { s.cool with
        speed := speed, lastTach := some now
        stallDue := if watched then some (now + 1500000) else s.cool.stallDue
        stalled := if watched then false else s.cool.stalled }
      prot := if watched ∧ s.cool.stalled = true then { s.prot with active := { s.prot.active with fan := false } }
        else s.prot }
    (s.cool.lastTach = none → exec (.fanTachPulse dt) s = .next (taken none))
    ∧ (∀ last, s.cool.lastTach = some last → now - last < 2000 →
      exec (.fanTachPulse dt) s = .next { s with clock := now })
    ∧ (∀ last, s.cool.lastTach = some last → 2000 ≤ now - last →
      exec (.fanTachPulse dt) s = .next (taken (some (30000000 / (now - last))))))
  ∧ ((∀ s : State, ∀ last, s.cool.lastTach = some last → exec .speedTimeout s = .next { s with
      clock := max s.clock (last + 1500000), cool := { s.cool with lastTach := none, speed := none } })
  ∧ (∀ s : State, s.cool.lastTach = none → exec .speedTimeout s = .next s)
  ∧ (∀ s : State, s.cool.stallDue = none → exec .stallTimerExpiry s = .next s)
  ∧ ∀ s : State, ∀ due, s.cool.stallDue = some due → 30 ≤ s.duty → s.items.lampOnMin ≤ 100 →
      ∃ t, exec .stallTimerExpiry s = .next t ∧ t.clock = max s.clock due
        ∧ (s.prot.active.fan = false → (∀ e ∈ s.prot.stack, e.cause ≠ .fanStall) →
            s.raisedBy .fanStall 2 t ∧ t.cool.stalled = true ∧ t.cool.stallDue = none ∧ t.prot.active.fan = true)
        ∧ (s.prot.active.fan = true ∨ (∃ e, s.prot.stack.head? = some e ∧ e.cause = .fanStall) →
            t.prot.stack = s.prot.stack ∧ t.prot.pl = s.prot.pl ∧ t.prot.last = s.prot.last ∧ t.prot.active.fan = true))

/-- The fan demand and the commanded duty: 0 below Tf0, 100 from Tf1, 30 to 99 between; duty 100 at PL 2 and 3 and while
a hot housing is COOLING-DOWN, else the greatest of demand, lamp-on minimum and cooldown minimum, so at least the
lamp-on minimum under a lit lamp (R77, R78, R79). -/
def Obligations.FanDutyFollowsHeatAndLamp : Prop :=
  ∀ s : State, s.items.fanStart < s.items.fanFull → s.items.lampOnMin ≤ 100 →
    (s.cool.th = none → s.fanDemand = 100)
    ∧ (∀ th, s.cool.th = some th →
      (th < s.items.fanStart → s.fanDemand = 0) ∧ (s.items.fanFull ≤ th → s.fanDemand = 100)
        ∧ (s.items.fanStart ≤ th → th < s.items.fanFull →
            s.fanDemand = 30 + 70 * (th - s.items.fanStart) / (s.items.fanFull - s.items.fanStart)
              ∧ 30 ≤ s.fanDemand ∧ s.fanDemand ≤ 99))
    ∧ (2 ≤ s.prot.pl → s.duty = 100)
    ∧ (s.cool.power = .coolingDown → (∀ th, s.cool.th = some th → s.items.coolTemp < th) → s.duty = 100)
    ∧ (s.prot.pl < 2 → (s.cool.power ≠ .coolingDown ∨ ∃ th, s.cool.th = some th ∧ th ≤ s.items.coolTemp) →
        s.duty = max s.fanDemand (max (if 0 < s.drive then s.items.lampOnMin else 0)
          (if s.cool.darkStart.isSome then s.items.cooldownMin else 0)))
    ∧ (0 < s.drive → s.items.lampOnMin ≤ s.duty)
    ∧ s.fanOutput = (if s.cool.warning then 0 else s.duty)

/-- STANDBY on, and the panel POWER key, in RUN: the switch OFF, the tape stopped, the standby HOME offered, and the
state COOLING-DOWN, or OFF at once when nothing is left to wait for; the key or STANDBY off in COOLING-DOWN return to
RUN; every other case changes nothing (R85 to R87, R177). -/
def Obligations.StandbyEntersCoolingDown : Prop :=
  let enters := fun (s u : State) =>
    let home : Request := ⟨.home, none, .panel, false, false, false, none, none, true⟩
    let joins := s.items.homeOnStandby = true ∧ s.prot.pl < 2 ∧ s.arb.queues.panel.length < 2
    u.lamp.switch = .off ∧ u.drive = 0
      ∧ u.arb = { s.arb with queues := { s.arb.queues with
          panel := if joins then s.arb.queues.panel ++ [home] else s.arb.queues.panel } }
      ∧ (s.tape.state ≠ .noCassette → u.tape.state = .stopped ∧ u.tape.lastStop = .standby)
      ∧ (s.tape.state = .noCassette → u.tape = s.tape)
      ∧ (0 < s.drive → u.cool.darkStart = some s.clock)
      ∧ u.cool.power = (if u.cool.darkStart = none ∧ (s.changer.state = .idle ∨ s.changer.state = .lost)
          ∧ (∀ r ∈ u.arb.queues.panel, r.standby = false) then .off else .coolingDown)
      ∧ u.changer = s.changer ∧ u.fade = s.fade
  (∀ (h : Header) (s : State) (v : Byte), s.takes h → s.prot.pl < 3 →
      (2 ≤ v.toNat → exec (.standby h [v]) s = .next (s.framed.replied h .badArg []))
      ∧ (v = 1#8 → s.cool.power = .run →
          ∃ u, exec (.standby h [v]) s = .next (State.replied h .accepted [] u) ∧ enters s u)
      ∧ (v = 1#8 → s.cool.power ≠ .run → exec (.standby h [v]) s = .next (s.framed.replied h .accepted []))
      ∧ (v = 0#8 → s.cool.power ≠ .coolingDown → exec (.standby h [v]) s = .next (s.framed.replied h .accepted []))
      ∧ (v = 0#8 → s.cool.power = .coolingDown →
          ∃ u, exec (.standby h [v]) s = .next (State.replied h .accepted [] u) ∧ u.cool.power = .run
            ∧ u.cool.darkStart = s.cool.darkStart ∧ s.framed.onlyChanges [.cool, .prot, .link] u))
  ∧ ∀ s : State, s.panel.keys.power.inert = false → s.prot.pl < 3 →
      ∃ t, exec .panelPower s = .next t ∧ t.panel.keys.power = ⟨true, false⟩
        ∧ (s.cool.power = .run → enters s t)
        ∧ (s.cool.power = .coolingDown → t.cool.power = .run ∧ t.cool.darkStart = s.cool.darkStart
            ∧ s.onlyChanges [.cool, .prot, .panel] t)
        ∧ (s.cool.power = .off → s.onlyChanges [.panel] t)

/-! ## Tape and cues -/

/-- The tape tach: one pulse is one unit of travel, clamped at 0 and 65535, and restarts the timer of a driven state; a
seek whose target is reached stops SEEK-ARRIVED. The timer's expiry asks the end sensors: trailer forward ENDED, leader
in reverse STOPPED with the counter 0, else a jam. Leader reached acts in REWIND and a reverse SEEK (R108 to R110,
R115). The first position and length 0 of the trackers that a stop makes IDLE are the model's choice (log 35). -/
def Obligations.TapeTachAndEndSensors : Prop :=
  ∀ s : State,
    let forward : Bool := decide (s.tape.direction = .forward)
    let driven := s.tape.state ∈ [.play, .fastFwd, .rewind, .seek]
    let n := if forward then min (s.tape.counter + 1) 65535 else s.tape.counter - 1
    let moved := { s with tape := { s.tape with
      counter := n, tachDue := if driven then some (s.clock + 1000000) else s.tape.tachDue } }
    let arrived := fun target => if forward then target ≤ n else n ≤ target
    let idle : Tracker := ⟨.idle, 0, 0, 0, 0, false⟩
    let ends := fun (now counter : Nat) (st : TransportState) (why : StopCause) (flag : Bool) => { s with
      clock := now
      tape := { s.tape with
        state := st, counter := counter, pause := ⟨false, false, false, false⟩, tachDue := none, seekTarget := none
        lastStop := why }
      dec := { s.dec with trackers := ⟨idle, idle, idle, idle⟩ }
      link := if flag then { s.link with flags := { s.link.flags with syncTape := true } } else s.link }
    (s.tape.state = .noCassette → exec .tapeTachPulse s = .next s)
    ∧ (s.tape.state ≠ .noCassette → s.tape.state ≠ .seek → exec .tapeTachPulse s = .next moved)
    ∧ (s.tape.state = .seek → ∀ target, s.tape.seekTarget = some target → arrived target →
        exec .tapeTachPulse s = .next (ends s.clock n .stopped .seekArrived false))
    ∧ (s.tape.state = .seek → ∀ target, s.tape.seekTarget = some target → ¬arrived target →
        exec .tapeTachPulse s = .next moved)
    ∧ (∀ leader trailer : Bool, s.tape.tachDue = none ∨ ¬driven → exec (.tapeTachTimerExpiry leader trailer) s = .next s)
    ∧ (driven → ∀ due, s.tape.tachDue = some due → ∀ leader trailer : Bool,
        exec (.tapeTachTimerExpiry leader trailer) s = .next (
          if forward then
            (if trailer then ends (max s.clock due) s.tape.counter .ended .trailer true
              else ends (max s.clock due) s.tape.counter .stopped .tapeJam true)
          else if leader then ends (max s.clock due) 0 .stopped .leader false
          else ends (max s.clock due) s.tape.counter .stopped .tapeJam true))
    ∧ exec .leaderReached s = .next (
        if s.tape.state = .rewind ∨ (s.tape.state = .seek ∧ forward = false) then ends s.clock 0 .stopped .leader false
        else s)

/-- The link TAPE: its refusals, STOP, FAST FORWARD, REWIND, and PLAY, which in PAUSED takes the CUE-STOP reason away
and elsewhere builds the set from the standing reasons; nothing moves under the warning. SEEK-CUE: its refusals and the
seek to the entry's position less the preroll; what it does under the warning is the model's choice, log 43 (R111
to R115, R134, R176), and so are the first position and length 0 of the trackers that a change of mode makes IDLE (log
35). -/
def Obligations.TapeCommandsMoveTheTape : Prop :=
  ∀ (h : Header) (s : State), s.takes h → s.prot.pl < 3 →
    let idle : Tracker := ⟨.idle, 0, 0, 0, 0, false⟩
    let enter := fun (st : TransportState) (d : Direction) (pause : PauseSet) (seek : Option Nat) (sameMode : Bool) =>
      { s.framed with
      tape := { s.tape with
        state := st, direction := d, pause := pause, seekTarget := seek
        tachDue := if st ∈ [.play, .fastFwd, .rewind, .seek] then some (s.clock + 1000000) else none }
      dec := if sameMode then s.dec else { s.dec with trackers := ⟨idle, idle, idle, idle⟩ } }
    let none4 : PauseSet := ⟨false, false, false, false⟩
    let off : Bool := decide (s.tape.state ∈ [.stopped, .ended])
    let search : Bool := decide (s.tape.state ∈ [.fastFwd, .rewind, .seek])
    let stopped := fun (why : StopCause) =>
      let u := enter .stopped s.tape.direction none4 none off
      { u with tape := { u.tape with lastStop := why } }
    let present := s.tape.state ≠ .noCassette
    let moves := present ∧ s.cool.power ≠ .coolingDown
    (∀ v : Byte,
      (4 ≤ v.toNat → exec (.tape h [v]) s = .next (s.framed.replied h .badArg []))
      ∧ (v.toNat < 4 → ¬present → exec (.tape h [v]) s = .next (s.framed.replied h .noTape []))
      ∧ (v.toNat < 4 → present → v ≠ 1#8 → s.cool.power = .coolingDown →
          exec (.tape h [v]) s = .next (s.framed.replied h .standby []))
      ∧ (v.toNat < 4 → moves → v ≠ 1#8 → s.cool.warning = true →
          exec (.tape h [v]) s = .next (s.framed.replied h .accepted [])))
    ∧ (present → exec (.tape h [1#8]) s = .next (State.replied h .accepted []
        (if s.tape.state = .stopped then s.framed else stopped .command)))
    ∧ (moves → s.cool.warning = false →
        exec (.tape h [2#8]) s = .next (State.replied h .accepted []
          (if s.tape.state = .fastFwd then s.framed else enter .fastFwd .forward none4 none search))
        ∧ exec (.tape h [3#8]) s = .next (State.replied h .accepted []
          (if s.tape.state = .rewind then s.framed else enter .rewind .reverse none4 none search)))
    ∧ (moves → s.cool.warning = false → s.tape.state = .play →
        exec (.tape h [0#8]) s = .next (s.framed.replied h .accepted []))
    ∧ (moves → s.cool.warning = false → s.tape.state = .paused →
        let left := { s.tape.pause with cueStop := false }
        exec (.tape h [0#8]) s = .next (State.replied h .accepted []
          (if s.tape.pause.cueStop = false then s.framed
          else if left = none4 then enter .play .forward none4 none true
          else { s.framed with tape := { s.tape with pause := left } })))
    ∧ (moves → s.cool.warning = false → s.tape.state ≠ .play → s.tape.state ≠ .paused →
        let set : PauseSet := ⟨s.tape.standing.hold, s.tape.standing.queue, false, s.tape.standing.safe⟩
        exec (.tape h [0#8]) s = .next (State.replied h .accepted []
          (enter (if set = none4 then .play else .paused) .forward set none false)))
    ∧ (∀ n : Byte,
      (¬present → exec (.seekCue h [n]) s = .next (s.framed.replied h .noTape []))
      ∧ (present → s.cool.power = .coolingDown → exec (.seekCue h [n]) s = .next (s.framed.replied h .standby []))
      ∧ (moves → n = 0#8 ∨ s.cue.entries.length < n.toNat →
          exec (.seekCue h [n]) s = .next (s.framed.replied h .unknownCue []))
      ∧ (moves → n ≠ 0#8 → ∀ e, s.cue.entries[n.toNat - 1]? = some e →
        let target := e.position - s.items.preroll
        (s.cool.warning = true → exec (.seekCue h [n]) s = .next (s.framed.replied h .accepted []))
        ∧ (s.cool.warning = false → s.tape.counter = target →
          exec (.seekCue h [n]) s = .next (State.replied h .accepted [] (stopped .seekArrived)))
        ∧ (s.cool.warning = false → s.tape.counter ≠ target →
          exec (.seekCue h [n]) s = .next (State.replied h .accepted []
            (enter .seek (if s.tape.counter < target then .forward else .reverse) none4 (some target) search)))))

/-- A window: its count is held against the bands of the four classes, six times as wide in search; each tracker goes
IDLE, RUNNING and ACTIVE by its table, with two misses ending a burst and length 31 marking it stuck; nothing is decoded
with the decoder off (R119 to R122). No window is of a class while the latest CUE-LEVEL result is absent or below the low
limit handed with it (R105). The fields of a tracker that its state gives no content are 0: the model's choice (log 35).
The CUE-STUCK of a missed window that reaches length 31 is left out (log 22). -/
def Obligations.WindowTurnsTheTrackers : Prop :=
  (∀ (count : Nat) (s : State), s.tape.state ∈ [.stopped, .ended, .noCassette] →
    exec (.windowClose count) s = .next { s with
      clock := max s.clock s.dec.windowDue, dec := { s.dec with windowDue := s.dec.windowDue + 20000 } })
  ∧ ∀ (count : Nat) (s : State), s.tape.state ∈ [.play, .paused, .fastFwd, .rewind, .seek] →
    let need := if s.tape.state ∈ [.play, .paused] then 3 else 2
    let factor := if s.tape.state ∈ [.play, .paused] then 1 else 6
    let within := fun lo hi => factor * lo ≤ count ∧ count ≤ factor * hi
    let gate := ∀ sl, s.scan.slots.find? (fun x => x.cfg.role == .cueLevel) = some sl →
      ∃ r, sl.result = some r ∧ s.dec.levelLow ≤ r
    let cls : Option ToneClass := if ¬gate then none else if within 46 54 then some .a else if within 29 35 then some .b
      else if within 74 86 then some .c else if within 18 22 then some .d else none
    ∃ t, exec (.windowClose count) s = .next t
      ∧ t.clock = max s.clock s.dec.windowDue ∧ t.dec.windowDue = s.dec.windowDue + 20000
      ∧ t.dec.lastWindow = some ⟨count, cls⟩
      ∧ (∀ k : ToneClass,
        let w := s.dec.trackers.get k
        let w' := t.dec.trackers.get k
        let idle : Tracker := ⟨.idle, 0, 0, 0, 0, false⟩
        let stuck := w.stuck || decide (w.length + 1 = 31)
        (w.state = .idle → cls = some k → w' = ⟨.running, 1, s.tape.counter, 0, 0, false⟩)
        ∧ (w.state ≠ .active → cls ≠ some k → w' = idle)
        ∧ (w.state = .running → cls = some k → w.run + 1 < need → w' = { w with run := w.run + 1 })
        ∧ (w.state = .running → cls = some k → need ≤ w.run + 1 → w' = ⟨.active, 0, w.first, 0, w.run + 1, false⟩)
        ∧ (w.state = .active → cls = some k → w' = { w with misses := 0, length := w.length + 1, stuck := stuck })
        ∧ (w.state = .active → cls ≠ some k → w.misses = 0 →
            w' = { w with misses := 1, length := w.length + 1, stuck := stuck })
        ∧ (w.state = .active → cls ≠ some k → 1 ≤ w.misses → w' = idle)
        ∧ (w.state = .active → cls = some k → w.length = 30 → w.stuck = false → t.link.flags.cuemap = true))
      ∧ s.onlyChanges [.clock, .dec, .cue, .usage, .arb, .tape, .link] t

/-- A burst recognised at play speed counts in CUES, is learned or confirms the nearest entry within tolerance, and acts
by its class: A a step forward or an owed step, B a step back, C a CUE-STOP, D nothing. In search it confirms or does
nothing. A step that fills the CUE queue adds the QUEUE reason (R124, R125, R128, R129, R137, R138). -/
def Obligations.BurstIsLearnedAndDispatched : Prop :=
  ∀ (count : Nat) (k : ToneClass) (s : State), ∀ t, exec (.windowClose count) s = .next t →
    (s.dec.trackers.get k).state = .running → (t.dec.trackers.get k).state = .active → CueMapLaw s → DebtLaw s →
    let p := (s.dec.trackers.get k).first
    let dist := fun (e : CueEntry) => (p - e.position) + (e.position - p)
    let near := fun (e : CueEntry) => dist e ≤ s.items.tolerance ∧ ∀ x ∈ s.cue.entries,
      dist e < dist x ∨ (dist e = dist x ∧ e.position ≤ x.position)
    let far := ∀ e ∈ s.cue.entries, s.items.tolerance < dist e
    let play := s.tape.state = .play ∨ s.tape.state = .paused
    let takes := s.cool.power ≠ .coolingDown ∧ s.prot.pl < 2
    let ref := t.arb.queues.cue.getLast?.bind Request.cueRef
    let req := fun (kind : ReqKind) (ref : Option Nat) =>
      (⟨kind, none, .cue, false, false, false, none, ref, false⟩ : Request)
    (∀ e ∈ s.cue.entries, near e →
      t.cue.entries = s.cue.entries.map (fun (x : CueEntry) =>
        if x.position = e.position then { x with confirms := min 255 (x.confirms + 1), cls := k } else x)
      ∧ (e.cls ≠ k → t.link.flags.cuemap = true))
    ∧ (far → t.cue.entries = (if play ∧ s.cue.entries.length < 48 then
          s.cue.entries.filter (fun e => decide (e.position < p)) ++ ⟨p, k, 0, none⟩
            :: s.cue.entries.filter (fun e => decide (p < e.position))
        else s.cue.entries)
      ∧ (play → s.cue.entries.length = 48 → t.link.flags.cuemap = true))
    ∧ (play → s.usage.counters.cues.gained t.usage.counters.cues)
    ∧ (¬play → t.usage = s.usage ∧ t.arb = s.arb ∧ t.tape = s.tape ∧ t.cue.debt = s.cue.debt)
    ∧ (play → k = .a ∨ k = .b → takes → s.arb.queues.cue.length < 4 →
        t.arb.queues.cue = s.arb.queues.cue ++ [req (if k = .a then .stepFwd else .stepRev) ref]
        ∧ (∀ e ∈ s.cue.entries, near e → ref = some e.position)
        ∧ (far → ref = if s.cue.entries.length < 48 then some p else none))
    ∧ (play → k = .a ∨ k = .b → takes → s.arb.queues.cue.length < 4 →
        let n := s.arb.queues.cue.length + 1
        t.cue.queueLen = n ∧ t.cue.debt = s.cue.debt
          ∧ t.cue.queueAsked = (if n = 4 then true else if n ≤ 1 then false else s.cue.queueAsked)
          ∧ t.tape = (if n = 4 ∧ s.cue.queueAsked = false then s.tape.adds .queue
            else if n ≤ 1 ∧ s.cue.queueAsked = true then s.tape.drops .queue t.clock else s.tape))
    ∧ (play → k = .a → takes → s.arb.queues.cue.length = 4 → t.arb = s.arb ∧ t.cue.debt = min 15 (s.cue.debt + 1)
        ∧ (s.cue.debt = 15 → t.link.flags.cuemap = true))
    ∧ (play → k = .b → takes → s.arb.queues.cue.length = 4 → t.arb = s.arb ∧ t.cue.debt = s.cue.debt
        ∧ t.link.flags.cuemap = true)
    ∧ (play → ¬takes → t.arb = s.arb ∧ t.cue.debt = s.cue.debt)
    ∧ (play → k = .c → t.arb = s.arb ∧ t.tape.state = .paused ∧ t.tape.pause.cueStop = true
        ∧ t.tape.standing = s.tape.standing)
    ∧ (play → k = .d → t.arb = s.arb ∧ t.tape = s.tape ∧ t.cue.debt = s.cue.debt)

/-- BIND-CUE binds the entry of an ordinal to a slot or to none; CLEAR-MAP and the removal of the cassette empty the map
and take the references of waiting requests with it; the removal also stops the tape, zeroes the counter and the debt; a
cassette put in stands STOPPED at 0 (R116, R131 to R133, R140, R176). -/
def Obligations.CueMapIsBoundAndEmptied : Prop :=
  (∀ (h : Header) (s : State) (n slot : Byte), s.takes h → s.prot.pl < 3 →
    let bound := fun (v : Option Nat) => { s.framed with cue := { s.cue with
      entries := s.cue.entries.mapIdx (fun i e => if i + 1 = n.toNat then { e with slot := v } else e) } }
    (n = 0#8 ∨ s.cue.entries.length < n.toNat →
      exec (.bindCue h [n, slot]) s = .next (s.framed.replied h .unknownCue []))
    ∧ (n ≠ 0#8 → n.toNat ≤ s.cue.entries.length → slot ≠ 255#8 → s.items.traySize < slot.toNat →
      exec (.bindCue h [n, slot]) s = .next (s.framed.replied h .badSlot []))
    ∧ (n ≠ 0#8 → n.toNat ≤ s.cue.entries.length → slot ≠ 255#8 → slot.toNat ≤ s.items.traySize →
      exec (.bindCue h [n, slot]) s = .next (State.replied h .accepted [] (bound (some slot.toNat))))
    ∧ (n ≠ 0#8 → n.toNat ≤ s.cue.entries.length → slot = 255#8 →
      exec (.bindCue h [n, slot]) s = .next (State.replied h .accepted [] (bound none))))
  ∧ (∀ s : State,
    let unref := fun (r : Request) => { r with cueRef := none }
    let emptied := fun (u : State) => { u with
      cue := { u.cue with entries := [] }
      arb := { u.arb with queues := { u.arb.queues with cue := u.arb.queues.cue.map unref } }
      changer := { u.changer with
        record := u.changer.record.map (fun c => { c with request := c.request.map unref }) } }
    (∀ h : Header, s.takes h → s.prot.pl < 3 →
      exec (.clearMap h []) s = .next (State.replied h .accepted [] (emptied s.framed)))
    ∧ (∀ h : Header, s.takes h → 3 ≤ s.prot.pl → exec (.clearMap h []) s = .next (s.framed.replied h .lockout []))
    ∧ (s.tape.cassette = true → ∃ t, exec .cassetteRemoval s = .next t
      ∧ t = emptied { s with
        tape := { s.tape with
          state := .noCassette, cassette := false, counter := 0, pause := ⟨false, false, false, false⟩, tachDue := none
          seekTarget := none }
        dec := { s.dec with trackers := t.dec.trackers }, cue := { s.cue with debt := 0 } }
      ∧ ∀ k : ToneClass, (t.dec.trackers.get k).state = .idle ∧ (t.dec.trackers.get k).run = 0
        ∧ (t.dec.trackers.get k).misses = 0 ∧ (t.dec.trackers.get k).stuck = false)
    ∧ (s.tape.cassette = false → exec .cassetteRemoval s = .next s)
    ∧ (s.tape.cassette = true → exec .cassetteInsertion s = .next s)
    ∧ (s.tape.cassette = false → s.tape.state = .noCassette →
      exec .cassetteInsertion s = .next { s with tape := { s.tape with
        state := .stopped, cassette := true, counter := 0, direction := .forward, pause := ⟨false, false, false, false⟩
        tachDue := none, seekTarget := none } }))

/-! ## Counters, store and the port -/

/-- The second tick: uptime, the four accumulators and the counters they feed, the LAMP flag at the life mark and the
save at every tenth LAMP-MIN; a counter that wraps raises COUNTER, and nothing else in the tick does; SET-COUNTER; SAVE,
BUSY while one is in progress, and its end, which starts a waiting counter save (what the end makes of the store's state
is log 44; a link reset that waits for it is LinkResetIsAPowerOnResetBut) (R182 to R185, R187). -/
def Obligations.CountersAreKeptAndSaved : Prop :=
  (∀ s : State,
    let fem := s.usage.femAcc + min s.fade.lamp.level s.ceiling
    let next := fun (on : Prop) (_ : Decidable on) (acc : Nat) => if on then (if 60 ≤ acc + 1 then 0 else acc + 1) else acc
    let gains := fun (on : Prop) (_ : Decidable on) (a b : Counter) => if on then a.gained b else b = a
    let c := s.usage.counters
    ∃ t, exec .secondTick s = .next t
      ∧ t.usage.uptime = s.usage.uptime + 1 ∧ t.usage.secondDue = s.usage.secondDue + 1000000
      ∧ t.usage.femAcc = (if 60000 ≤ fem then fem - 60000 else fem)
      ∧ t.usage.lampAcc = next (0 < s.drive) inferInstance s.usage.lampAcc
      ∧ t.usage.fanAcc = next (0 < s.duty) inferInstance s.usage.fanAcc
      ∧ t.usage.tapeAcc = next (s.tape.state = .play) inferInstance s.usage.tapeAcc
      ∧ gains (60000 ≤ fem) inferInstance c.lampFem t.usage.counters.lampFem
      ∧ gains (0 < s.drive ∧ 59 ≤ s.usage.lampAcc) inferInstance c.lampMin t.usage.counters.lampMin
      ∧ gains (0 < s.duty ∧ 59 ≤ s.usage.fanAcc) inferInstance c.fanMin t.usage.counters.fanMin
      ∧ gains (s.tape.state = .play ∧ 59 ≤ s.usage.tapeAcc) inferInstance c.tapeMin t.usage.counters.tapeMin
      ∧ t.usage.counters.changes = c.changes ∧ t.usage.counters.jams = c.jams ∧ t.usage.counters.cues = c.cues
      ∧ t.usage.counters.syncErrs = c.syncErrs
      ∧ (c.lampFem.value < s.items.lampLife → s.items.lampLife ≤ t.usage.counters.lampFem.value →
          t.link.flags.lamp = true)
      ∧ t.link.flags.counter = (s.link.flags.counter || decide ((60000 ≤ fem ∧ 4294967295 ≤ c.lampFem.value)
          ∨ (0 < s.drive ∧ 59 ≤ s.usage.lampAcc ∧ 4294967295 ≤ c.lampMin.value)
          ∨ (0 < s.duty ∧ 59 ≤ s.usage.fanAcc ∧ 4294967295 ≤ c.fanMin.value)
          ∨ (s.tape.state = .play ∧ 59 ≤ s.usage.tapeAcc ∧ 4294967295 ≤ c.tapeMin.value)))
      ∧ (0 < s.drive ∧ 59 ≤ s.usage.lampAcc ∧ t.usage.counters.lampMin.value % 10 = 0 →
          (if s.store.saving = none then t.store.saving.isSome = true else t.store = { s.store with waiting := true }))
      ∧ (¬(0 < s.drive ∧ 59 ≤ s.usage.lampAcc ∧ t.usage.counters.lampMin.value % 10 = 0) → t.store = s.store)
      ∧ t.clock = max s.clock s.usage.secondDue ∧ s.onlyChanges [.clock, .usage, .store, .link] t)
  ∧ (∀ (h : Header) (s : State) (i a b c d keep : Byte), s.takes h → s.prot.pl < 3 →
    (8 ≤ i.toNat ∨ 2 ≤ keep.toNat → exec (.setCounter h [i, a, b, c, d, keep]) s = .next (s.framed.replied h .badArg []))
    ∧ (i.toNat < 8 → keep.toNat < 2 → ∀ old, s.usage.counters.all[i.toNat]? = some old →
      ∃ u, exec (.setCounter h [i, a, b, c, d, keep]) s = .next (State.replied h .accepted [] u)
        ∧ u.usage.counters.all = s.usage.counters.all.set i.toNat
            ⟨16777216 * a.toNat + 65536 * b.toNat + 256 * c.toNat + d.toNat, old.overflow && decide (keep = 1#8)⟩
        ∧ { s.usage with counters := u.usage.counters } = u.usage
        ∧ s.framed.onlyChanges [.usage, .link] u))
  ∧ ∀ s : State,
    let counters : Persisted := ⟨s.usage.counters.lampFem, s.usage.counters.lampMin, s.usage.counters.changes,
      s.usage.counters.jams, s.usage.counters.fanMin⟩
    (∀ h : Header, s.takes h → s.prot.pl < 3 → exec (.save h []) s = .next (
      if s.store.saving.isSome then s.framed.replied h .busy []
      else State.replied h .accepted [] { s.framed with store := { s.store with
        saving := some ⟨⟨s.items, s.law, s.scan.slots.map ScanSlot.cfg⟩, counters⟩, saveDue := some (s.clock + 30000) } }))
    ∧ (s.store.saving = none → exec .saveComplete s = .next s)
    ∧ ∀ image, s.store.saving = some image → ∀ due, s.store.saveDue = some due →
      s.link.resetPins = none ∨ s.link.reply ≠ [] ∨ s.store.waiting = true →
      exec .saveComplete s = .next { s with
        clock := max s.clock due
        store := if s.store.waiting then
            ⟨image, true, false, some ⟨image.config, counters⟩, some (max s.clock due + 30000), false⟩
          else ⟨image, true, false, none, none, false⟩ }

/-- Bytes that make no frame count in the link error count, to 65535 at most: a frame cut off by a gap or a bad stop
bit, a length byte above 8, a check byte that fails. A partner frame is answered by nothing: a mirrored fade of its LAMP
channel is taken as one of this part, inverted or not, unless the PL is 3. While a reply is sent the receiver hears
nothing; its end releases the driver (R75, R76, R169, R170, R173). -/
def Obligations.PortDiscardsAndPartnerFrames : Prop :=
  (∀ (s : State) (g : List Byte) (len : Byte),
    let all := s.link.rxFrame ++ g
    let bad := { s with link := { s.link with rxFrame := [], errCount := min 65535 (s.link.errCount + 1) } }
    let whole := all[0]? = some 0xD3#8 ∧ ∃ n, all[3]? = some n ∧ all.length = n.toNat + 5
    let sound := ((all.drop 1).map BitVec.toNat).sum % 256 = 0 ∧ ∃ b, all[2]? = some b ∧ b.getLsbD 6 = false
    (s.link.reply ≠ [] → exec (.frameGapDiscard g) s = .next s ∧ exec (.byteWithNoStopBit g) s = .next s
      ∧ exec (.lengthByteAbove8 g len) s = .next s ∧ exec (.frameDiscarded g) s = .next s)
    ∧ (s.link.reply = [] → exec (.frameGapDiscard g) s = .next (if all = [] then s else bad)
      ∧ exec (.byteWithNoStopBit g) s = .next (if all = [] then s else bad)
      ∧ exec (.lengthByteAbove8 g len) s = .next (if 8 < len.toNat ∧ all.length = 3 then bad else s)
      ∧ (¬whole ∨ sound → exec (.frameDiscarded g) s = .next s)
      ∧ (whole → ¬sound → exec (.frameDiscarded g) s = .next bad))
    ∧ (s.link.resetPins = none ∨ s.store.saving.isSome = true ∨ s.store.waiting = true →
      exec .replyDriverRelease s = .next { s with link := { s.link with reply := [] } }))
  ∧ (∀ (h : Header) (cont : Bool) (code : BitVec 6) (args : List Byte) (s : State),
      ¬(s.link.reply = [] ∧ h.addr ≠ 31#5 ∧ h.addr ≠ s.link.strap ∧ s.link.following = true
        ∧ s.link.partner = some h.addr.toNat) → exec (.partnerFrame h cont code args) s = .next s)
  ∧ ∀ (h : Header) (cont : Bool) (code : BitVec 6) (ch high low time flags : Byte) (s : State),
      s.link.reply = [] → h.addr ≠ 31#5 → h.addr ≠ s.link.strap → s.link.following = true →
      s.link.partner = some h.addr.toNat →
      let heard := { s with link := { s.link with rxFrame := [] } }
      let mirrors := code = 7#6 ∧ cont = false ∧ ch = 0#8 ∧ (h.mirror = 1#2 ∨ h.mirror = 2#2) ∧ s.prot.pl < 3
      let asked := min (256 * high.toNat + low.toNat) 1000
      let level := if h.mirror = 1#2 then 1000 - asked else asked
      let c := s.fade.lamp
      let waits := flags.getLsbD 0 = true ∧ s.changer.state ≠ .idle ∧ s.changer.state ≠ .lost
      (¬mirrors → exec (.partnerFrame h cont code [ch, high, low, time, flags]) s = .next heard)
      ∧ (mirrors → waits → exec (.partnerFrame h cont code [ch, high, low, time, flags]) s
          = .next { heard with fade := { s.fade with lamp := { c with
              pending := some ⟨level, time.toNat⟩, state := if c.state = .dipped then .dipped else .pending } } })
      ∧ (mirrors → ¬waits → ∃ t, exec (.partnerFrame h cont code [ch, high, low, time, flags]) s = .next t
        ∧ t.fade = { s.fade with
            lamp := if c.state = .dipped then { c with pending := none } else { c with
              start := c.level, target := level, level := if time = 0#8 then level else c.level
              steps := 10 * time.toNat, count := 0, state := if time = 0#8 then .steady else .ramping, pending := none
              stepDue := if time = 0#8 then none else some (s.clock + 10000) }
            watch := s.fade.watch.map (fun w => { w with override := some ⟨level, time.toNat⟩ }) }
        ∧ heard.onlyChanges [.fade, .cool, .lamp, .store, .prot, .link] t)

/-- What every command of the table meets first: an own or broadcast frame at PL 3 is refused LOCKOUT but for READ,
CLEAR-FAULT and RESET-PART, a wrong argument length BAD-ARG; a broadcast read is discarded and leaves a pending sequence
be; a code outside the table is answered UNKNOWN-COMMAND; a frame of a foreign address is dropped, a partner's heard as
one of R75; nothing is heard while a reply goes out (R169 to R172; the third is log 10). -/
def Obligations.CommandsAreTestedInOrder : Prop :=
  (∀ (code : Nat) (h : Header) (args : List Byte) (s : State), ∀ c, linkInstr code h args = some c →
    let toReads := code = 28 ∨ code = 29 ∨ code = 30
    (s.link.reply ≠ [] → exec c s = .next s)
    ∧ (s.takes h → h.addr = 31#5 → toReads → exec c s = .next { s with link := { s.link with
        rxFrame := []
        silenceDue := if s.link.showMode then some (s.clock + 1000000 * s.items.silenceTime) else s.link.silenceDue } })
    ∧ (s.takes h → h.addr ≠ 31#5 ∨ ¬toReads → 3 ≤ s.prot.pl → code ≠ 28 → code ≠ 22 → code ≠ 33 →
        exec c s = .next (s.framed.replied h .lockout []))
    ∧ (s.takes h → h.addr ≠ 31#5 ∨ ¬toReads → s.prot.pl < 3 ∨ code = 28 ∨ code = 22 ∨ code = 33 →
        args.length ≠ argLength code → exec c s = .next (s.framed.replied h .badArg []))
    ∧ (s.link.reply = [] → h.addr ≠ 31#5 → h.addr ≠ s.link.strap →
        exec c s = (if s.link.following = true ∧ s.link.partner = some h.addr.toNat then
            exec (.partnerFrame h false (BitVec.ofNat 6 code) args) s
          else .next { s with link := { s.link with rxFrame := [] } })))
  ∧ ∀ (h : Header) (code : BitVec 6) (args : List Byte) (s : State),
    (s.takes h → code = 0#6 ∨ 34 ≤ code.toNat →
      exec (.unknownCommand h code args) s = .next (s.framed.replied h .unknownCommand []))
    ∧ (1 ≤ code.toNat → code.toNat ≤ 33 → exec (.unknownCommand h code args) s = .next s)

/-- LAW-TABLE and SCAN-SLOT come as sequences: a head opens one, a continuation of the same command with eight bytes
goes on, the last one applies the string whole or refuses it whole; the law by R53, the slot by R100, its limit state by
R101; a continuation that fits no sequence counts an error and one of the wrong command or length closes it (R174). -/
def Obligations.SequencesWriteLawAndSlots : Prop :=
  (∀ (h : Header) (s : State) (args : List Byte), s.takes h → s.prot.pl < 3 →
    let opens := fun (cmd : SeqCommand) (due : Nat) => State.replied h .accepted [] { s.framed with link :=
      { s.framed.link with seq := some ⟨cmd, decide (h.addr = 31#5), args, due, [h.reply]⟩ } }
    (args.length = 6 → exec (.lawTable h args) s = .next (opens .lawTable 2))
    ∧ (args.length = 3 → exec (.scanSlot h args) s = .next (opens .scanSlot 1)))
  ∧ ∀ (h : Header) (s : State) (code : BitVec 6) (args : List Byte), s.takes h →
    let wrong := fun (q : Option PendingSeq) => { s.framed with link := { s.framed.link with
      seq := q, errCount := min 65535 (s.link.errCount + 1) } }
    (s.link.seq = none → exec (.continuationFrame h code args) s = .next (wrong none))
    ∧ ∀ q, s.link.seq = some q →
      let fits := code = (if q.command = .lawTable then 25#6 else 26#6) ∧ args.length = 8
      let b := fun i => ((q.bytes ++ args).getD i 0#8).toNat
      let word := fun i => 256 * b i + b (i + 1)
      (q.broadcast ≠ decide (h.addr = 31#5) → exec (.continuationFrame h code args) s = .next (wrong (some q)))
      ∧ (q.broadcast = decide (h.addr = 31#5) → ¬fits → exec (.continuationFrame h code args) s = .next (wrong none))
      ∧ (q.broadcast = decide (h.addr = 31#5) → fits → 1 < q.due →
        exec (.continuationFrame h code args) s = .next (State.replied h .accepted [] { s.framed with link :=
          { s.framed.link with seq := some { q with
            bytes := q.bytes ++ args, due := q.due - 1, replyBits := q.replyBits ++ [h.reply] } } }))
      ∧ (q.broadcast = decide (h.addr = 31#5) → fits → q.due ≤ 1 → 3 ≤ s.prot.pl →
        exec (.continuationFrame h code args) s = .next (s.framed.replied h .lockout []))
      ∧ (q.broadcast = decide (h.addr = 31#5) → fits → q.due ≤ 1 → s.prot.pl < 3 → q.command = .lawTable →
        let law := (List.range 11).map (fun i => word (2 * i))
        let good := (∀ i ∈ List.range 10, word (2 * i + 2) ≤ word (2 * i)) ∧ word 0 ≤ 1000 ∧ 50 ≤ word 20
        exec (.continuationFrame h code args) s = .next (if good then State.replied h .accepted [] { s.framed with law := law }
          else s.framed.replied h .badArg []))
      ∧ (q.broadcast = decide (h.addr = 31#5) → fits → q.due ≤ 1 → s.prot.pl < 3 → q.command = .scanSlot →
        s.scan.slots.length = 8 →
        let role := [Role.none, .housing, .gate, .lampCurrent, .supply, .cueLevel].getD (b 3) .none
        let cfg : SlotConfig := ⟨b 1, decide (b 2 = 1), word 4, word 6, word 8, role⟩
        let holdsHousing := ∃ sl, s.scan.slots[b 0]? = some sl ∧ sl.cfg.role = .housing
        let good := b 0 ≤ 7 ∧ b 10 = b 0 ∧ b 1 ≤ 5 ∧ b 2 ≤ 1 ∧ b 3 ≤ 5 ∧ word 4 ≤ 4095 ∧ word 6 ≤ 4095 ∧ word 8 ≤ 4095
          ∧ ¬(0 < word 6 ∧ word 8 < 4095 ∧ word 8 ≤ word 6) ∧ (role = .none ∨ cfg.enable = true)
          ∧ (holdsHousing → role = .housing ∧ cfg.enable = true)
        let after := fun (i : Nat) (sl : ScanSlot) =>
          if i = b 0 then
            (if cfg = sl.cfg then sl
            else if cfg.input = sl.cfg.input ∧ cfg.role = sl.cfg.role ∧ cfg.enable = sl.cfg.enable then
              { sl with cfg := cfg, highCount := 0, lowCount := 0 }
            else ⟨cfg, none, sl.latchedHigh, sl.latchedLow, false, false, 0, 0⟩)
          else if role ≠ .none ∧ sl.cfg.role = role then
            ⟨{ sl.cfg with role := .none }, none, sl.latchedHigh, sl.latchedLow, false, false, 0, 0⟩
          else sl
        let ends := fun r => (List.range 8).any (fun i => (s.scan.slots[i]?).any (fun sl =>
          sl.cfg.role == r && sl.highCond && !(after i sl).highCond))
        (¬good → exec (.continuationFrame h code args) s = .next (s.framed.replied h .badArg []))
        ∧ (good → exec (.continuationFrame h code args) s = .next (State.replied h .accepted [] { s.framed with
            scan := { s.scan with slots := s.scan.slots.mapIdx after }
            prot := { s.prot with active := { s.prot.active with
              housing := s.prot.active.housing && !ends .housing, gate := s.prot.active.gate && !ends .gate
              overcurrent := s.prot.active.overcurrent && !ends .lampCurrent } } })))

/-! ## The link commands of the arbiter and the settings -/

/-- STEP, GOTO, RETURN and HOME over the link: the four tests of R25 in order, then a request with the frame's flags and
tag at the tail of the LINK queue; FLUSH ends every waiting LINK request ABORTED, oldest first, and empties that queue
alone (R23 to R26, R41, R175). -/
def Obligations.LinkRequestsJoinOrAreRefused : Prop :=
  ∀ (h : Header) (s : State), s.takes h → s.prot.pl < 3 →
    let joins := fun (kind : ReqKind) (slot : Option Nat) (flags tag : Byte) => match s.linkRefusal slot with
      | some code => s.framed.replied h code []
      | none => State.replied h .accepted [] { s.framed with arb := { s.arb with queues := { s.arb.queues with
          link := s.arb.queues.link ++
            [⟨kind, slot, .link, flags.getLsbD 0, flags.getLsbD 1, flags.getLsbD 2, some tag, none, false⟩] } } }
    (∀ direction flags tag : Byte, exec (.step h [direction, flags, tag]) s = .next (
      if 2 ≤ direction.toNat then s.framed.replied h .badArg []
      else joins (if direction = 0#8 then .stepFwd else .stepRev) none flags tag))
    ∧ (∀ slot flags tag : Byte, exec (.goto h [slot, flags, tag]) s = .next (joins .goto (some slot.toNat) flags tag))
    ∧ (∀ flags tag : Byte, exec (.ret h [flags, tag]) s = .next (joins .ret none flags tag))
    ∧ (∀ flags tag : Byte, exec (.home h [flags, tag]) s = .next (joins .home none flags tag))
    ∧ (s.arb.completions.length ≤ 8 → DebtLaw s →
      let ended := (s.arb.queues.link.filter (fun r => r.source == .link)).map
        (fun r => (⟨r.tag.getD 0#8, .aborted, s.changer.position⟩ : Completion))
      ∃ u, exec (.flush h []) s = .next (State.replied h .accepted [] u)
        ∧ u.arb = { s.arb with
          queues := { s.arb.queues with link := [] }, completions := lastEight (s.arb.completions ++ ended) }
        ∧ u.link = { s.framed.link with flags := { s.link.flags with
          completion := s.link.flags.completion || !ended.isEmpty } }
        ∧ u.cue.debt = s.cue.debt ∧ s.framed.onlyChanges [.arb, .link, .cue, .tape] u)

/-- MARK pushes the known position; HOLD saves the dwell remainder and the auto mode and pauses the tape, RESUME
restores both and lets it go; AUTO off cancels the dwell timer, AUTO on in IDLE starts it; during hold the shadow is
written too. The dwell timer's expiry offers one STEP-FWD of source DWELL, which the tests of R25 may drop (R26, R33,
R34, R36 to R39). -/
def Obligations.MarkHoldResumeAutoAndDwell : Prop :=
  (∀ (h : Header) (s : State), s.takes h → s.prot.pl < 3 →
    let a := s.arb
    (exec (.mark h []) s = .next (match s.changer.position with
      | none => s.framed.replied h .accepted []
      | some p => State.replied h .accepted [] { s.framed with arb := { a with stack := (p :: a.stack).take 6 } }))
    ∧ (∃ u, exec (.hold h []) s = .next (State.replied h .accepted [] u)
        ∧ s.holds u ∧ s.framed.onlyChanges [.arb, .tape] u)
    ∧ (∃ u, exec (.resume h []) s = .next (State.replied h .accepted [] u) ∧ s.resumes u
        ∧ u.tape = (if a.hold then s.tape.drops .hold s.clock else s.tape) ∧ s.framed.onlyChanges [.arb, .tape] u)
    ∧ (∀ v : Byte, 2 ≤ v.toNat → exec (.auto h [v]) s = .next (s.framed.replied h .badArg []))
    ∧ (a.hold = true → exec (.auto h [1#8]) s = .next (State.replied h .accepted [] { s.framed with arb := { a with
        autoMode := true, shadow := a.shadow.map (fun x => ⟨x.remainder, true⟩) } }))
    ∧ (a.hold = true → exec (.auto h [0#8]) s = .next (State.replied h .accepted [] { s.framed with arb := { a with
        autoMode := false, dwellDue := none, shadow := a.shadow.map (fun _ => ⟨none, false⟩) } }))
    ∧ (a.hold = false → exec (.auto h [0#8]) s = .next (State.replied h .accepted [] { s.framed with arb := { a with
        autoMode := false, dwellDue := none } }))
    ∧ (a.hold = false →
      let dwell := s.changer.position.bind (fun p => (s.changer.map[p - 1]?).bind (fun e =>
        if p ≠ 0 ∧ e.state = .inGate then
          (match e.dwellPreset with
            | some d => some (100000 * d)
            | none => if s.items.defaultDwell = 0 then none else some (100000 * s.items.defaultDwell))
        else none))
      exec (.auto h [1#8]) s = .next (State.replied h .accepted [] { s.framed with arb := { a with
        autoMode := true
        dwellDue := if a.autoMode = false ∧ s.changer.state = .idle then
            (match dwell with
              | none => a.dwellDue
              | some d => some (s.clock + d))
          else a.dwellDue } })))
  ∧ (∀ s : State, s.arb.dwellDue = none → exec .dwellExpiry s = .next s)
  ∧ ∀ s : State, ∀ due, s.arb.dwellDue = some due →
    exec .dwellExpiry s = .next { s with
      clock := max s.clock due
      arb := { s.arb with
        dwellDue := none
        queues := if s.cool.power ≠ .coolingDown ∧ s.prot.pl < 2 ∧ s.arb.queues.dwell = [] then
            { s.arb.queues with dwell := [⟨.stepFwd, none, .dwell, false, false, false, none, none, false⟩] }
          else s.arb.queues } }

/-- PRIORITY and LOCK with their refusals, FOLLOW, TAKE-SHOW and RELEASE-SHOW, the lapse of show mode, which releases
the lock unless it is sticky and raises SHOW, and LIMIT-CLEAR (R31, R32, R74, R98, R176, R177, R179). -/
def Obligations.LinkSettingsAreWritten : Prop :=
  (∀ (h : Header) (s : State), s.takes h → s.prot.pl < 3 →
    (∀ a b c d e : Byte,
      let five := [a.toNat, b.toNat, c.toNat, d.toNat, e.toNat]
      exec (.priority h [a, b, c, d, e]) s = .next (
        if s.arb.lock then s.framed.replied h .locked []
        else if ∀ n ∈ five, n ≤ 7 then State.replied h .accepted [] { s.framed with arb := { s.arb with
          priority := ⟨a.toNat, b.toNat, c.toNat, d.toNat, e.toNat⟩ } }
        else s.framed.replied h .badArg []))
    ∧ (∀ v : Byte, exec (.lock h [v]) s = .next (
      if 2 ≤ v.toNat then s.framed.replied h .badArg []
      else if v = 0#8 ∧ s.arb.lock = true ∧ s.items.stickyLock = true then s.framed.replied h .locked []
      else State.replied h .accepted [] { s.framed with arb := { s.arb with lock := decide (v = 1#8) } }))
    ∧ (∀ on address : Byte, exec (.follow h [on, address]) s = .next (
      if 2 ≤ on.toNat ∨ (on = 1#8 ∧ (31 ≤ address.toNat ∨ address.toNat = s.link.strap.toNat)) then
        s.framed.replied h .badArg []
      else State.replied h .accepted [] { s.framed with link := { s.framed.link with
        following := decide (on = 1#8), partner := if on = 1#8 then some address.toNat else s.link.partner } }))
    ∧ exec (.takeShow h []) s = .next (State.replied h .accepted [] { s.framed with link := { s.framed.link with
        showMode := true, silenceDue := some (s.clock + 1000000 * s.items.silenceTime) } })
    ∧ exec (.releaseShow h []) s = .next (State.replied h .accepted [] { s.framed with link := { s.framed.link with
        showMode := false, silenceDue := none } })
    ∧ (∀ n : Byte, exec (.limitClear h [n]) s = .next (
      if n.toNat ≤ 7 ∨ n = 255#8 then State.replied h .accepted [] { s.framed with scan := { s.scan with
        slots := s.scan.slots.mapIdx (fun i sl =>
          if n = 255#8 ∨ i = n.toNat then { sl with latchedHigh := false, latchedLow := false } else sl) } }
      else s.framed.replied h .badArg [])))
  ∧ (∀ s : State, s.link.silenceDue = none → exec .showModeLapse s = .next s)
  ∧ ∀ s : State, ∀ due, s.link.silenceDue = some due → exec .showModeLapse s = .next { s with
      clock := max s.clock due
      arb := { s.arb with lock := s.arb.lock && s.items.stickyLock }
      link := { s.link with showMode := false, silenceDue := none, flags := { s.link.flags with showStore := true } } }

/-- CLEAR-FAULT: nothing on an empty stack; STILL-ACTIVE for a top entry whose live cause is active; else the top entry
goes, PL falls to the entry below, SAFE is removed below 2, an active live cause without an entry is raised again, and
the changer hears of a cleared jam: LOST from IDLE or JAMMED, a jam clear that waits otherwise; a clear of another cause
frees a JAMMED changer too, where PL stands below 3 with no TRAY-JAM stacked. The panel's long press does the same (R17,
R145, R148, R151, R152, R167). That a jam clear waits during a homing too is the model's reading (log 20). The effects
are stated for stacks that meet the two laws of the fault stack, that both commands run for every state. -/
def Obligations.ClearFaultPopsTheStack : Prop :=
  (∀ (h : Header) (s : State), s.takes h → ∃ u, exec (.clearFault h []) s = .next (State.replied h
      (match s.prot.stack with
        | [] => .accepted
        | e :: _ => if s.prot.active.get e.cause then .stillActive else .accepted) [] u))
  ∧ (∀ s : State, ∃ t, exec .panelHoldLongPress s = .next t ∧ t.panel.longDue = none
      ∧ t.clock = max s.clock (s.panel.longDue.getD 0))
  ∧ (∀ (h : Header) (s : State), s.takes h → FaultLaw s → FaultLevelLaw s →
    (s.prot.stack = [] → exec (.clearFault h []) s = .next (s.framed.replied h .accepted []))
    ∧ ∀ e rest, s.prot.stack = e :: rest →
      let live := [Cause.housingOvertemp, .gateOvertemp, .fanStall, .lampOvercurrent]
      let missing := fun c => s.prot.active.get c = true ∧ ∀ x ∈ rest, x.cause ≠ c
      let quiet := ∀ c ∈ live, ¬missing c
      let below := (rest.head?.map FaultEntry.level).getD 0
      let jam := e.cause = .trayJam ∨ e.cause = .gateJam
      (s.prot.active.get e.cause = true → exec (.clearFault h []) s = .next (s.framed.replied h .stillActive []))
      ∧ (s.prot.active.get e.cause = false →
        ∃ u, exec (.clearFault h []) s = .next (State.replied h .accepted [] u)
          ∧ s.framed.onlyChanges [.prot, .tape, .dec, .changer, .arb, .fade, .lamp, .cool, .store, .link, .cue, .panel] u
          ∧ u.prot.active = s.prot.active
          ∧ (quiet → u.prot = { s.prot with stack := rest, pl := below }
            ∧ u.arb = { s.arb with dwellDue := u.arb.dwellDue } ∧ u.panel = s.panel ∧ u.cue = s.cue ∧ u.dec = s.dec
            ∧ u.tape = (if 2 ≤ s.prot.pl ∧ below < 2 then s.tape.drops .safe s.clock else s.tape))
          ∧ (∀ c ∈ live, missing c → (∀ d ∈ live, d ≠ c → ¬missing d) →
            let least := if c = .fanStall ∨ c = .lampOvercurrent then 2 else 1
            let level := min 3 (max (below + 1) least)
            u.prot.stack = ⟨c, level, s.usage.uptime⟩ :: rest ∧ u.prot.pl = level
              ∧ u.prot.last = ⟨some c, level, true, s.usage.uptime, min 255 (s.prot.last.raises + 1),
                  s.prot.last.restarts⟩
              ∧ u.link.flags.fault = true)
          ∧ (jam → s.changer.state = .idle ∨ s.changer.state = .jammed →
              u.changer = s.changer.lost ∧ u.arb.dwellDue = none)
          ∧ (jam → s.changer.state ≠ .idle → s.changer.state ≠ .jammed → s.changer.state ≠ .lost →
              u.changer = { s.changer with jamClear := true } ∧ (quiet → u.arb = s.arb))
          ∧ (jam → s.changer.state = .lost → u.changer = s.changer ∧ (quiet → u.arb = s.arb))
          ∧ (¬jam → s.changer.state ≠ .jammed → u.changer = s.changer ∧ (quiet → u.arb = s.arb))
          ∧ (¬jam → s.changer.state = .jammed → u.prot.pl < 3 → (∀ x ∈ rest, x.cause ≠ .trayJam) →
              u.changer = s.changer.lost ∧ u.arb.dwellDue = none)
          ∧ (¬jam → s.changer.state = .jammed → 3 ≤ u.prot.pl ∨ (∃ x ∈ rest, x.cause = .trayJam) →
              u.changer = s.changer ∧ (quiet → u.arb = s.arb))))
  ∧ (∀ s : State, s.panel.longDue = none → exec .panelHoldLongPress s = .next s)
  ∧ ∀ s : State, ∀ due, s.panel.longDue = some due →
    let now := { s with clock := max s.clock due, panel := { s.panel with longDue := none } }
    let heard := { now with link := { s.link with reply := [] } }
    (s.panel.keys.hold ≠ ⟨true, false⟩ → exec .panelHoldLongPress s = .next now)
    ∧ (s.panel.keys.hold = ⟨true, false⟩ → ∃ u, exec (.clearFault ⟨31#5, 0#2, false⟩ []) heard = .next u
        ∧ exec .panelHoldLongPress s = .next { u with link := { s.link with flags := u.link.flags } })

/-- SET: an unknown item, an index on a stored item, a value outside the item's range or one that breaks a pair or the
map's spacing is refused BAD-ARG, a bad slot BAD-SLOT, a new T away from home NOT-HOME; an accepted write changes that
item alone, but that T makes the map fresh and empties the return stack and Gmax holds G and the guard to it (R2, R3,
R48, R50, R89, R130, R177). -/
def Obligations.SetWritesOneItem : Prop :=
  ∀ (h : Header) (s : State) (item index a b c d : Byte), s.takes h → s.prot.pl < 3 →
    let i := item.toNat
    let v := 16777216 * a.toNat + 65536 * b.toNat + 256 * c.toNat + d.toNat
    let ranges : List (Nat × Nat) :=
      [(24, 128), (0, 1), (0, 1), (0, 1), (0, 1000), (0, 50), (0, 255), (0, 1), (0, 1), (0, 999), (300, 1000),
        (300, 1200), (400, 1500), (200, 1000), (60000, 600000), (150, 800), (200, 1000), (0, 100)] ++
      [(0, 1000), (0, 30), (0, 1), (200, 1000), (300, 1200), (300, 800), (30, 100), (30, 100), (0, 600), (0, 1), (2, 50),
        (0, 100), (0, 1), (0, 1), (1, 60), (100, 60000)]
    let inRange := (∃ r, ranges[i]? = some r ∧ r.1 ≤ v ∧ v ≤ r.2) ∨ (i = 19 ∧ v = 4294967295)
    let paired := (i = 11 → v < s.items.derateEnd) ∧ (i = 12 → s.items.derateStart < v)
      ∧ (i = 21 → v < s.items.fanFull) ∧ (i = 22 → s.items.fanStart < v)
      ∧ (i = 28 → List.Pairwise (fun (x y : CueEntry) => x.position + v < y.position) s.cue.entries)
    let atHome := s.changer.trayPresent = false ∨ (s.changer.state = .idle ∧ s.changer.position = some 0)
    let cmd := Instr.set h [item, index, a, b, c, d]
    let none_ := v = 4294967295
    ((34 ≤ i ∧ i < 40) ∨ 43 ≤ i → exec cmd s = .next (s.framed.replied h .badArg []))
    ∧ (i < 34 → index ≠ 0#8 ∨ ¬inRange ∨ ¬paired → exec cmd s = .next (s.framed.replied h .badArg []))
    ∧ (i = 0 → index = 0#8 → inRange → ¬atHome → exec cmd s = .next (s.framed.replied h .notHome []))
    ∧ (i < 34 → index = 0#8 → inRange → paired → (i = 0 → atHome) →
      ∃ u, exec cmd s = .next (State.replied h .accepted [] u)
        ∧ u.items.values = s.items.values.set i v
        ∧ u.changer = (if i = 0 then { s.changer with map := u.changer.map } else s.changer)
        ∧ (i = 0 → u.changer.map.length = v ∧ ∀ e ∈ u.changer.map, e = ⟨.unseen, false, none, none⟩)
        ∧ u.arb = (if i = 0 then { s.arb with stack := [] } else s.arb)
        ∧ u.lamp.guardAcc = (if i = 14 then min s.lamp.guardAcc v else s.lamp.guardAcc)
        ∧ u.lamp.guardEngaged = (if i = 14 then
            (if v ≤ s.lamp.guardAcc then true else if s.lamp.guardAcc ≤ v * 3 / 4 then false else s.lamp.guardEngaged)
          else s.lamp.guardEngaged)
        ∧ s.framed.onlyChanges [.items, .changer, .arb, .lamp, .cool, .store, .prot, .link] u)
    ∧ (40 ≤ i → i ≤ 42 → index = 0#8 ∨ s.items.traySize < index.toNat →
        exec cmd s = .next (s.framed.replied h .badSlot []))
    ∧ (40 ≤ i → i ≤ 42 → index ≠ 0#8 → index.toNat ≤ s.items.traySize →
      let good := if i = 40 then v ≤ 1 else if i = 41 then v ≤ 1000 ∨ none_ else (1 ≤ v ∧ v ≤ 999) ∨ none_
      let value := if none_ then none else some v
      (¬good → exec cmd s = .next (s.framed.replied h .badArg []))
      ∧ (good → exec cmd s = .next (State.replied h .accepted [] { s.framed with changer := { s.changer with
        map := s.changer.map.mapIdx (fun n e =>
          if n + 1 = index.toNat then
            (if i = 40 then { e with skip := decide (v = 1) }
            else if i = 41 then { e with lampPreset := value } else { e with dwellPreset := value })
          else e) } })))

/-- Every reply reports the part after the command and the grants it leads to (those are log 4), with a check byte that
makes the bytes after the first sum to 0. READ gives the item's data and clears the item's flag in one act,
READ-COMPLETION the oldest entry, READ-COUNTERS the eight counters; the data of the nine items are laid out by the tables
of section 11.3 (R40, R60, R106, R117, R173, R178, R180, R184). The model's choices: the free value counter and the bytes
of an absent seek target and of no last cause (log 14), absent fields sent as all ones (log 15), the uptime modulo 2^32
(log 16), the silence remaining cut to whole tenths (log 17), the delay f of the present drive (log 48), and the codes
and bits that the tables do not name (log 50). -/
def Obligations.ReadsAndRepliesReportTheState : Prop :=
  (∀ (code : ResultCode) (data : List Byte) (s : State),
    let bytes := s.replyBytes code data
    let g := s.grantsDue 32
    let f := g.link.flags
    let byte := BitVec.ofNat 8
    (s.preferred = none → g = s)
    ∧ bytes.length = data.length + 10 ∧ ((bytes.drop 1).map BitVec.toNat).sum % 256 = 0
    ∧ bytes.take (data.length + 9) = [0xD4#8, byte g.link.strap.toNat, byte code.code, byte g.changer.state.code,
        byte (g.changer.position.getD 255),
        byte (g.prot.pl % 4 + 4 * g.cool.power.code + (if g.link.showMode then 16 else 0) + if g.arb.hold then 32 else 0),
        byte g.tape.state.code,
        byte (f.completion.toNat + 2 * f.fault.toNat + 4 * f.limit.toNat + 8 * f.cuemap.toNat + 16 * f.lamp.toNat
          + 32 * f.counter.toNat + 64 * f.syncTape.toNat + 128 * f.showStore.toNat),
        byte data.length] ++ data)
  ∧ (∀ (h : Header) (s : State), s.takesOwn h →
    let f := s.link.flags
    let cleared := fun (v : Attention) => { s.framed with link := { s.framed.link with flags := v } }
    let flagged := fun (n : Nat) => if n = 1 then { f with showStore := false } else if n = 2 then { f with lamp := false }
      else if n = 4 then { f with syncTape := false } else if n = 5 then { f with limit := false }
      else if n = 6 then { f with fault := false } else if n = 7 then { f with cuemap := false } else f
    (∀ item param : Byte, 9 ≤ item.toNat → exec (.read h [item, param]) s = .next (s.framed.replied h .badArg []))
    ∧ (∀ item param : Byte, item.toNat ≤ 8 → exec (.read h [item, param]) s = .next (State.replied h .accepted
        (s.framed.readItem item.toNat param.toNat) { cleared (flagged item.toNat) with
          freeCount := s.freeCount + if (item = 4#8 ∧ s.tape.seekTarget = none) ∨ (item = 6#8 ∧ s.prot.last.cause = none)
            then 1 else 0 }))
    ∧ (s.prot.pl < 3 → s.arb.completions = [] →
      exec (.readCompletion h []) s = .next (s.framed.replied h .accepted []))
    ∧ (s.prot.pl < 3 → ∀ c rest, s.arb.completions = c :: rest →
      exec (.readCompletion h []) s = .next (State.replied h .accepted
        [c.tag, BitVec.ofNat 8 c.outcome.code, BitVec.ofNat 8 (c.position.getD 255)]
        { cleared (if rest = [] then { f with completion := false } else f) with
          arb := { s.arb with completions := rest } }))
    ∧ (s.prot.pl < 3 →
      let values := (s.usage.counters.all.map (fun c => [BitVec.ofNat 8 (c.value / 16777216),
        BitVec.ofNat 8 (c.value / 65536), BitVec.ofNat 8 (c.value / 256), BitVec.ofNat 8 c.value])).flatten
      let flags := (s.usage.counters.all.mapIdx (fun i c => if c.overflow then 2 ^ i else 0)).sum
      exec (.readCounters h []) s = .next (State.replied h .accepted (values ++ [BitVec.ofNat 8 flags])
        (cleared { f with counter := false }))))
  ∧ ∀ (s : State) (param : Nat),
    let byte := BitVec.ofNat 8
    let up := s.usage.uptime
    let left := (s.link.silenceDue.map (fun d => (d - s.clock) / 100000)).getD 65535
    s.readItem 0 param = [0x19#8, 0xDC#8, 1#8]
    ∧ s.readItem 8 param = byte s.arb.stack.length :: s.arb.stack.reverse.map byte
    ∧ s.readItem 1 param = [byte s.link.showMode.toNat, byte (left / 256), byte left, byte s.link.strap.toNat,
        byte (s.link.partner.getD 255), byte s.link.following.toNat, byte s.panel.presenceDue.isSome.toNat,
        byte (s.link.errCount / 256), byte s.link.errCount,
        (if s.store.saving.isSome then 2#8 else if s.store.factoryLoaded then 1#8 else 0#8),
        byte (up / 16777216), byte (up / 65536), byte (up / 256), byte up]
    ∧ (let two := fun (n : Nat) => [byte (n / 256), byte n]
      let four := fun (n : Nat) => [byte (n / 16777216), byte (n / 65536), byte (n / 256), byte n]
      let may := fun (o : Option Nat) => two (o.getD 65535)
      let bits := fun (l : List Bool) => byte (l.mapIdx (fun i b => if b then 2 ^ i else 0)).sum
      let fadeCode := fun (c : FadeChannel) => byte (match c.state with
        | .steady => 0 | .ramping => 1 | .pending => 2 | .dipped => 3)
      let class_ := fun (k : ToneClass) => match k with | .a => 0 | .b => 1 | .c => 2 | .d => 3
      let number := fun (c : Cause) => match c with
        | .housingOvertemp => 1 | .gateOvertemp => 2 | .trayJam => 3 | .gateJam => 4 | .homeFail => 5 | .fanStall => 6
        | .lampOvercurrent => 7
      let role := fun (r : Role) => match r with
        | .none => 0 | .housing => 1 | .gate => 2 | .lampCurrent => 3 | .supply => 4 | .cueLevel => 5
      let ceilings := [s.switchCeiling, s.derateCeiling, s.filmCeiling, s.protectCeiling, s.failedCeiling]
      let l := s.lamp
      let c := s.fade.lamp
      let a := s.fade.audio
      let tp := s.tape
      let p := s.prot
      s.readItem 2 param = [byte (match l.switch with | .off => 0 | .eco => 1 | .full => 2),
          byte (if l.failed then 2 else if l.mainsNormal then 0 else 1)] ++ two c.level ++ two c.target ++ [fadeCode c]
          ++ two s.ceiling ++ [byte (ceilings.findIdx (fun x => x == s.ceiling))] ++ two s.effective ++ two s.drive
          ++ four l.guardAcc ++ [byte l.guardEngaged.toNat] ++ may l.halfPeriod
          ++ may (if s.drive = 0 then none else some (lawDelay s.law s.drive))
      ∧ s.readItem 3 param = [byte (match s.cool.power with | .run => 0 | .coolingDown => 1 | .off => 2),
          byte (if s.cool.power = .off then 0 else 1)] ++ may s.cool.th
          ++ [byte s.fanDemand, byte s.duty, byte s.cool.warning.toNat] ++ may s.cool.speed
          ++ [byte s.cool.stalled.toNat, byte s.cool.darkStart.isSome.toNat]
          ++ may (s.cool.darkStart.map (fun d => (s.clock - d) / 1000000)) ++ [byte s.cool.warning.toNat]
      ∧ (∃ x y : Byte, s.readItem 4 param = [byte (match tp.state with
            | .noCassette => 0 | .stopped => 1 | .play => 2 | .paused => 3 | .fastFwd => 4 | .rewind => 5 | .seek => 6
            | .ended => 7), byte tp.cassette.toNat] ++ two tp.counter ++ [byte (if tp.direction = .forward then 0 else 1),
            bits [tp.pause.hold, tp.pause.queue, tp.pause.cueStop, tp.pause.safe],
            bits [tp.standing.hold, tp.standing.queue, tp.standing.safe, tp.seekTarget.isSome], x, y,
            byte (match tp.lastStop with
              | .none => 0 | .command => 1 | .leader => 2 | .trailer => 3 | .tapeJam => 4 | .seekArrived => 5
              | .standby => 6 | .lockout => 7 | .supplyFail => 8)]
            ++ (match s.dec.lastWindow with
              | none => [255#8, 255#8, 4#8]
              | some w => two w.count ++ [byte ((w.cls.map class_).getD 4)])
            ++ two a.level ++ two a.target ++ [fadeCode a, byte ((1000 - a.level) * 96 / 1000),
              byte ((if a.level = 0 then 1 else 0) + if tp.state = .play then 0 else 2)]
          ∧ ∀ n, tp.seekTarget = some n → [x, y] = two n)
      ∧ s.readItem 5 param = (s.scan.slots.map (fun sl => [byte sl.cfg.input,
          byte ((if sl.cfg.enable then 128 else 0) + role sl.cfg.role)] ++ two sl.cfg.offset ++ two sl.cfg.low
          ++ two sl.cfg.high ++ may sl.result
          ++ [bits [sl.latchedHigh, sl.latchedLow, sl.highCond, sl.lowCond]])).flatten
      ∧ (∃ x : Byte, s.readItem 6 param = [byte p.pl, byte p.stack.length]
            ++ ((List.range 3).map (fun i => match p.stack.reverse[i]? with
              | none => [0#8, 0#8, 0#8, 0#8, 0#8, 0#8]
              | some e => [byte (number e.cause), byte e.level] ++ four e.time)).flatten
            ++ [bits [p.active.housing, p.active.gate, p.active.fan, p.active.overcurrent], x, byte p.last.level,
              byte p.last.stacked.toNat] ++ four p.last.time ++ [byte p.last.raises, byte p.last.restarts,
              byte s.items.lockoutRestart.toNat,
              byte (if p.active = ⟨false, false, false, false⟩ ∧ s.cool.darkStart = none
                ∧ s.cool.th ≠ none ∧ s.cool.th.getD 0 < s.items.coolTemp then 1 else 0)]
          ∧ ∀ k, p.last.cause = some k → x = byte (number k))
      ∧ s.readItem 7 param = [byte s.cue.entries.length, byte s.cue.debt, byte s.cue.queueLen,
          bits [s.dec.trackers.a.stuck, s.dec.trackers.b.stuck, s.dec.trackers.c.stuck, s.dec.trackers.d.stuck,
            s.cue.queueAsked]]
          ++ ((List.range 15).map (fun i => match s.cue.entries[max param 1 - 1 + i]? with
            | none => []
            | some e => [byte (max param 1 + i)] ++ two e.position ++ [byte (class_ e.cls), byte e.confirms,
                byte (e.slot.getD 255)])).flatten)

/-! ## The handset and the front panel -/

/-- A valid frame of a handset key renews presence for 2 s. It repeats the held key, or releases another and presses
this one for 250 ms; a press is inert at PL 3 and within 150 ms of a reset (the last moment included, log 31); else it
acts: FWD and REV a step request and 700 ms of auto-step, BACK a RETURN, MARK, HOLD, RESUME, the focus keys 3 s of
motor, none under the warning (R157 to R162). -/
def Obligations.HandsetKeysPressAndAct : Prop :=
  ∀ (k : HandsetKey) (s : State),
    let cmd : Instr := match k with
      | .fwd => .remoteFwd | .rev => .remoteRev | .hold => .remoteHold | .resume => .remoteResume
      | .mark => .remoteMark | .back => .remoteBack | .focusIn => .remoteFocusIn | .focusOut => .remoteFocusOut
    let p := s.panel
    let repeats := p.held = some k
    let inert := 3 ≤ s.prot.pl ∨ ∃ e, p.resetEnd = some e ∧ s.clock ≤ e + 150000
    let acts := ¬repeats ∧ ¬inert
    let heard := { p with presenceDue := some (s.clock + 2000000), handsetBits := none, releaseDue := some (s.clock + 250000) }
    let pressed := fun (mark : Bool) =>
      if p.held = none then { heard with held := some k, inert := mark }
      else { heard with held := some k, inert := mark, autoDue := none, focus := .off, focusDue := none }
    let offers := fun (kind : ReqKind) =>
      if s.cool.power ≠ .coolingDown ∧ s.prot.pl < 2 ∧ s.arb.queues.remote.length < 3 then
        { s.arb with queues := { s.arb.queues with
          remote := s.arb.queues.remote ++ [⟨kind, none, .remote, false, false, false, none, none, false⟩] } }
      else s.arb
    (repeats → exec cmd s = .next { s with panel := heard })
    ∧ (¬repeats → inert → exec cmd s = .next { s with panel := pressed true })
    ∧ (acts → k = .fwd ∨ k = .rev → exec cmd s = .next { s with
        arb := offers (if k = .fwd then .stepFwd else .stepRev)
        panel := { pressed false with autoDue := some (s.clock + 700000) } })
    ∧ (acts → k = .back → exec cmd s = .next { s with arb := offers .ret, panel := pressed false })
    ∧ (acts → k = .mark → exec cmd s = .next { s with
        panel := pressed false
        arb := match s.changer.position with
          | none => s.arb
          | some n => { s.arb with stack := (n :: s.arb.stack).take 6 } })
    ∧ (acts → k = .hold → ∃ t, exec cmd s = .next t ∧ t.panel = pressed false ∧ s.holds t
        ∧ s.onlyChanges [.arb, .tape, .panel] t)
    ∧ (acts → k = .resume → ∃ t, exec cmd s = .next t ∧ t.panel = pressed false ∧ s.resumes t
        ∧ t.tape = (if s.arb.hold then s.tape.drops .hold s.clock else s.tape).drops .cueStop s.clock
        ∧ s.onlyChanges [.arb, .tape, .panel] t)
    ∧ (acts → k = .focusIn ∨ k = .focusOut → exec cmd s = .next { s with
        panel := if s.cool.warning then pressed false else { pressed false with
          focus := if k = .focusIn then .inward else .outward, focusDue := some (s.clock + 3000000) } })

/-- The rest of the remote line: a complete frame of eight bits, four of code and then four of complement, each most
significant first, is the command of its code, or fails the complement check; the idle and unassigned codes renew
presence and release the held key; an abandoned frame and one whose complement fails change nothing but the bits
gathered; the presence, release, auto-step and focus timers end what they time, the auto-step timer with a further
request and 500 ms more (R157, R158, R160, R161). -/
def Obligations.HandsetTimersAndFrames : Prop :=
  ∀ s : State,
    let p := s.panel
    let released := fun (q : RemotePanel) => { q with
      held := none, releaseDue := none, autoDue := none, inert := false, focus := .off, focusDue := none }
    let heard := { p with presenceDue := some (s.clock + 2000000), handsetBits := none }
    (∀ bits : BitVec 8,
      let code := bits.extractLsb' 4 4
      let cmd := if bits.extractLsb' 0 4 = ~~~code then
          [Instr.remoteIdleFrame 0#4, .remoteFwd, .remoteRev, .remoteHold, .remoteResume, .remoteMark, .remoteBack,
            .remoteFocusIn, .remoteFocusOut].getD code.toNat (.remoteIdleFrame code)
        else .remoteComplementFail bits
      exec cmd s = .next (s.handsetFrame bits))
    ∧ (∀ code : BitVec 4, exec (.remoteIdleFrame code) s = .next (
      if 1 ≤ code.toNat ∧ code.toNat ≤ 8 then s
      else { s with panel := if p.held.isSome then released heard else heard }))
    ∧ (∀ start : Bool, exec (.remoteFrameAbandoned start) s
        = .next { s with panel := { p with handsetBits := if start then some [] else none } })
    ∧ (∀ bits : BitVec 8, exec (.remoteComplementFail bits) s = .next (
      if ∀ i ∈ List.range 4, bits.getLsbD i = !bits.getLsbD (i + 4) then s
      else { s with panel := { p with handsetBits := none } }))
    ∧ (p.presenceDue = none → exec .presenceTimeout s = .next s)
    ∧ (∀ due, p.presenceDue = some due → exec .presenceTimeout s
        = .next { s with clock := max s.clock due, panel := { p with presenceDue := none } })
    ∧ (p.releaseDue = none → exec .releaseTimerExpiry s = .next s)
    ∧ (∀ due, p.releaseDue = some due → exec .releaseTimerExpiry s
        = .next { s with clock := max s.clock due, panel := released p })
    ∧ (p.focusDue = none → exec .focusRunExpiry s = .next s)
    ∧ (∀ due, p.focusDue = some due → exec .focusRunExpiry s
        = .next { s with clock := max s.clock due, panel := { p with focus := .off, focusDue := none } })
    ∧ (p.autoDue = none → exec .autoStepExpiry s = .next s)
    ∧ (∀ due, p.autoDue = some due → p.inert = false → p.held = some .fwd ∨ p.held = some .rev →
      let takes := s.cool.power ≠ .coolingDown ∧ s.prot.pl < 2 ∧ s.arb.queues.remote.length < 3
      let kind := if p.held = some .fwd then ReqKind.stepFwd else .stepRev
      exec .autoStepExpiry s = .next { s with
        clock := max s.clock due
        panel := { p with autoDue := some (max s.clock due + 500000) }
        arb := if takes then { s.arb with queues := { s.arb.queues with
            remote := s.arb.queues.remote ++ [⟨kind, none, .remote, false, false, false, none, none, false⟩] } }
          else s.arb })

/-- A panel key's press: nothing from an inert key, an inert mark at PL 3, else FWD, REV and HOME offer a request, LAMP
cycles the switch (OFF alone in show mode, nothing in COOLING-DOWN; a cycle through OFF clears FAILED, R58), TAPE plays
or stops (nothing in show mode), HOLD starts its 2 s timer; its release before that toggles hold; a release clears the
key (R164 to R167; what the two release rows share is log 30). -/
def Obligations.PanelKeysPressAndRelease : Prop :=
  ∀ s : State,
    let p := s.panel
    let keys := p.keys
    let key := fun (k : PanelKey) (v : PanelKeyState) => { p with keys := match k with
      | .fwd => { keys with fwd := v } | .rev => { keys with rev := v } | .home => { keys with home := v }
      | .lamp => { keys with lamp := v } | .tape => { keys with tape := v } | .hold => { keys with hold := v }
      | .power => { keys with power := v } }
    let rows : List (PanelKey × PanelKeyState × Instr) :=
      [(.fwd, keys.fwd, .panelFwd), (.rev, keys.rev, .panelRev), (.home, keys.home, .panelHome),
        (.lamp, keys.lamp, .panelLamp), (.tape, keys.tape, .panelTape), (.hold, keys.hold, .panelHoldPress),
        (.power, keys.power, .panelPower)]
    let free := s.prot.pl < 3
    (∀ r ∈ rows, (r.2.1.inert = true → exec r.2.2 s = .next s)
      ∧ (r.2.1.inert = false → ¬free → exec r.2.2 s = .next { s with panel := key r.1 ⟨true, true⟩ }))
    ∧ (free → ∀ x ∈ [(PanelKey.fwd, keys.fwd, Instr.panelFwd, ReqKind.stepFwd), (.rev, keys.rev, .panelRev, .stepRev),
          (.home, keys.home, .panelHome, .home)], x.2.1.inert = false →
        exec x.2.2.1 s = .next { s with
          panel := key x.1 ⟨true, false⟩
          arb := if s.cool.power ≠ .coolingDown ∧ s.prot.pl < 2 ∧ s.arb.queues.panel.length < 2 then
              { s.arb with queues := { s.arb.queues with
                panel := s.arb.queues.panel ++ [⟨x.2.2.2, none, .panel, false, false, false, none, none, false⟩] } }
            else s.arb })
    ∧ (free → keys.lamp.inert = false →
      let pressed := if s.cool.power = .coolingDown then s.lamp.switch
        else if s.link.showMode then .off
        else match s.lamp.switch with | .off => LampSwitch.eco | .eco => .full | .full => .off
      let clears := s.lamp.failed = true ∧ s.lamp.cycled = true ∧ s.lamp.switch = .off ∧ pressed ≠ .off
      ∃ t, exec .panelLamp s = .next t ∧ t.panel = key .lamp ⟨true, false⟩
        ∧ t.lamp = { s.lamp with
            switch := pressed
            failed := s.lamp.failed && !decide clears
            cycled := if clears then false
              else s.lamp.cycled || decide (s.lamp.failed = true ∧ s.lamp.switch ≠ .off ∧ pressed = .off)
            failCount := if clears then 0 else s.lamp.failCount }
        ∧ s.onlyChanges [.panel, .lamp, .cool, .store, .prot, .link] t)
    ∧ (free → keys.tape.inert = false →
      let idle := s.link.showMode = true ∨ s.tape.state = .noCassette
      let starts := s.tape.state = .stopped ∨ s.tape.state = .ended
      let blocked := s.cool.power = .coolingDown ∨ s.cool.warning = true
      let set : PauseSet := ⟨s.tape.standing.hold, s.tape.standing.queue, false, s.tape.standing.safe⟩
      let silent := set = ⟨false, false, false, false⟩
      ∃ t, exec .panelTape s = .next t ∧ t.panel = key .tape ⟨true, false⟩
        ∧ t.tape = (if idle ∨ (starts ∧ blocked) then s.tape
          else if starts then { s.tape with
            state := if silent then .play else .paused, direction := .forward, pause := set, seekTarget := none
            tachDue := if silent then some (s.clock + 1000000) else none }
          else { s.tape with
            state := .stopped, pause := ⟨false, false, false, false⟩, tachDue := none, seekTarget := none
            lastStop := .command })
        ∧ s.onlyChanges [.panel, .tape, .dec] t)
    ∧ (free → keys.hold.inert = false → exec .panelHoldPress s
        = .next { s with panel := { key .hold ⟨true, false⟩ with longDue := some (s.clock + 2000000) } })
    ∧ (∀ k : PanelKey, k ≠ .hold → exec (.panelKeyRelease k) s = .next { s with panel := key k ⟨false, false⟩ })
    ∧ exec (.panelKeyRelease .hold) s = exec .panelHoldRelease s
    ∧ ∃ t, exec .panelHoldRelease s = .next t ∧ t.panel = { key .hold ⟨false, false⟩ with longDue := none }
        ∧ s.onlyChanges [.panel, .arb, .tape] t
        ∧ (keys.hold ≠ ⟨true, false⟩ ∨ p.longDue = none → t.arb = s.arb ∧ t.tape = s.tape)
        ∧ (keys.hold = ⟨true, false⟩ → p.longDue ≠ none → s.arb.hold = false → s.holds t)
        ∧ (keys.hold = ⟨true, false⟩ → p.longDue ≠ none → s.arb.hold = true →
            s.resumes t ∧ t.tape = s.tape.drops .hold s.clock)

/-! ## What every step keeps -/

/-- The laws of the state hold right after reset; that reset's inputs (log 6) and the content of a store never written
(log 7) are the model's choices (R4, R23, R33, R40, R44, R49, R91, R111, R126, R138, R143, R145). -/
def Obligations.LawsHoldAtReset : Prop :=
  FaultLaw State.reset ∧ FaultLevelLaw State.reset ∧ QueueLaw State.reset ∧ StackLaw State.reset ∧ CompletionLaw State.reset ∧ FadeLaw State.reset
    ∧ GuardLaw State.reset ∧ CueMapLaw State.reset ∧ DebtLaw State.reset ∧ GateLaw State.reset
    ∧ LampRangeLaw State.reset ∧ CooldownLaw State.reset ∧ ScanLaw State.reset ∧ PauseLaw State.reset

/-- Every step keeps the queues within their depths and empty at PL 2 and 3, the return stack within six positions of
the ring (with the position within 0..T and no tray meaning LOST), and the completion list within 8 (R1, R20, R23, R33,
R40). -/
def Obligations.StepKeepsTheArbiterLists : Prop :=
  (∀ s t : State, QueueLaw s → step s = .next t → QueueLaw t)
    ∧ (∀ s t : State, StackLaw s → step s = .next t → StackLaw t)
    ∧ ∀ s t : State, CompletionLaw s → step s = .next t → CompletionLaw t

/-- Every step keeps at most one entry IN-GATE, the current position's, and every entry UNSEEN while the position is
unknown (R4). -/
def Obligations.StepKeepsOneEntryInGate : Prop := ∀ s t : State, GateLaw s → step s = .next t → GateLaw t

/-- Every step keeps the fault stack's levels rising strictly from bottom to top, at most three entries, and PL the top
entry's level or 0; and every entry's level at or above its cause's minimum level (R143, R145). -/
def Obligations.StepKeepsTheFaultStack : Prop :=
  (∀ s t : State, FaultLaw s → step s = .next t → FaultLaw t)
    ∧ ∀ s t : State, FaultLevelLaw s → step s = .next t → FaultLevelLaw t

/-- Every step keeps each channel level within 0..1000 and equal to its target while STEADY, the film guard accumulator
within 0..Gmax, the lamp items in their ranges, and each role with one enabled slot at most, HOUSING with one (R44, R49,
R60, R91). -/
def Obligations.StepKeepsLevelsAndRoles : Prop :=
  (∀ s t : State, FadeLaw s → step s = .next t → FadeLaw t)
    ∧ (∀ s t : State, GuardLaw s → step s = .next t → GuardLaw t)
    ∧ (∀ s t : State, LampRangeLaw s → step s = .next t → LampRangeLaw t)
    ∧ ∀ s t : State, ScanLaw s → step s = .next t → ScanLaw t

/-- Every step keeps the cue map sorted, spaced by more than the tolerance, within 48 entries and empty without a
cassette, cue debt at most 15 and nonzero only while the CUE queue holds four requests, and the tape PAUSED exactly
while the set of pause reasons is not empty (R111, R126, R132, R138, R139). -/
def Obligations.StepKeepsTheCueMapAndDebt : Prop :=
  (∀ s t : State, CueMapLaw s → step s = .next t → CueMapLaw t)
    ∧ (∀ s t : State, DebtLaw s → step s = .next t → DebtLaw t)
    ∧ ∀ s t : State, PauseLaw s → step s = .next t → PauseLaw t

/-- Cooldown runs only while the drive is 0, and every step keeps that. A command that brings the drive from above 0 to
0 starts cooldown from 0 and leaves a save in progress, the resets apart; in a scan pass with a cooldown minimum time of 0
a cool HOUSING result read later may have ended that cooldown again (R82, R93). One that brings it above 0 ends cooldown
(R82, R185). -/
def Obligations.StepKeepsCooldownWithTheDrive : Prop :=
  (∀ s t : State, CooldownLaw s → step s = .next t → CooldownLaw t)
    ∧ (∀ (c : Instr) (s t : State), exec c s = .next t → (∀ pins, c ≠ .powerOnReset pins ∧ c ≠ .linkReset pins ) →
        (∀ h args, c ≠ .resetPart h args) → c ≠ .supplyFailCleared → s.link.resetPins = none → 0 < s.drive → t.drive = 0 →
        t.store.saving.isSome = true
          ∧ (0 < s.items.cooldownTime ∨ (∀ raws, c ≠ .scanPass raws) → t.cool.darkStart = some t.clock)
          ∧ (t.cool.darkStart = some t.clock ∨ t.cool.darkStart = none))
    ∧ ∀ (c : Instr) (s t : State), exec c s = .next t → s.drive = 0 → 0 < t.drive → t.cool.darkStart = none
end

