-- ==== Sys2Proof/Laws/State.lean ====
section
/-! SUPPORT. For each named update of the state, one lemma for each field it leaves alone, true by rfl. -/

namespace Sys2Proof.Machine

@[simp] theorem State.reachAt_changer (s : State) (d : Nat) : (s.reachAt d).changer = s.changer := rfl
@[simp] theorem State.reachAt_arb (s : State) (d : Nat) : (s.reachAt d).arb = s.arb := rfl
@[simp] theorem State.reachAt_fade (s : State) (d : Nat) : (s.reachAt d).fade = s.fade := rfl
@[simp] theorem State.reachAt_lamp (s : State) (d : Nat) : (s.reachAt d).lamp = s.lamp := rfl
@[simp] theorem State.reachAt_cool (s : State) (d : Nat) : (s.reachAt d).cool = s.cool := rfl
@[simp] theorem State.reachAt_scan (s : State) (d : Nat) : (s.reachAt d).scan = s.scan := rfl
@[simp] theorem State.reachAt_tape (s : State) (d : Nat) : (s.reachAt d).tape = s.tape := rfl
@[simp] theorem State.reachAt_dec (s : State) (d : Nat) : (s.reachAt d).dec = s.dec := rfl
@[simp] theorem State.reachAt_cue (s : State) (d : Nat) : (s.reachAt d).cue = s.cue := rfl
@[simp] theorem State.reachAt_prot (s : State) (d : Nat) : (s.reachAt d).prot = s.prot := rfl
@[simp] theorem State.reachAt_link (s : State) (d : Nat) : (s.reachAt d).link = s.link := rfl
@[simp] theorem State.reachAt_panel (s : State) (d : Nat) : (s.reachAt d).panel = s.panel := rfl
@[simp] theorem State.reachAt_usage (s : State) (d : Nat) : (s.reachAt d).usage = s.usage := rfl
@[simp] theorem State.reachAt_store (s : State) (d : Nat) : (s.reachAt d).store = s.store := rfl
@[simp] theorem State.reachAt_items (s : State) (d : Nat) : (s.reachAt d).items = s.items := rfl
@[simp] theorem State.reachAt_law (s : State) (d : Nat) : (s.reachAt d).law = s.law := rfl
@[simp] theorem State.reachAt_freeCount (s : State) (d : Nat) : (s.reachAt d).freeCount = s.freeCount := rfl
@[simp] theorem State.reachAt_pending (s : State) (d : Nat) : (s.reachAt d).pending = s.pending := rfl

@[simp] theorem State.elapse_changer (s : State) (d : Nat) : (s.elapse d).changer = s.changer := rfl
@[simp] theorem State.elapse_arb (s : State) (d : Nat) : (s.elapse d).arb = s.arb := rfl
@[simp] theorem State.elapse_fade (s : State) (d : Nat) : (s.elapse d).fade = s.fade := rfl
@[simp] theorem State.elapse_lamp (s : State) (d : Nat) : (s.elapse d).lamp = s.lamp := rfl
@[simp] theorem State.elapse_cool (s : State) (d : Nat) : (s.elapse d).cool = s.cool := rfl
@[simp] theorem State.elapse_scan (s : State) (d : Nat) : (s.elapse d).scan = s.scan := rfl
@[simp] theorem State.elapse_tape (s : State) (d : Nat) : (s.elapse d).tape = s.tape := rfl
@[simp] theorem State.elapse_dec (s : State) (d : Nat) : (s.elapse d).dec = s.dec := rfl
@[simp] theorem State.elapse_cue (s : State) (d : Nat) : (s.elapse d).cue = s.cue := rfl
@[simp] theorem State.elapse_prot (s : State) (d : Nat) : (s.elapse d).prot = s.prot := rfl
@[simp] theorem State.elapse_link (s : State) (d : Nat) : (s.elapse d).link = s.link := rfl
@[simp] theorem State.elapse_panel (s : State) (d : Nat) : (s.elapse d).panel = s.panel := rfl
@[simp] theorem State.elapse_usage (s : State) (d : Nat) : (s.elapse d).usage = s.usage := rfl
@[simp] theorem State.elapse_store (s : State) (d : Nat) : (s.elapse d).store = s.store := rfl
@[simp] theorem State.elapse_items (s : State) (d : Nat) : (s.elapse d).items = s.items := rfl
@[simp] theorem State.elapse_law (s : State) (d : Nat) : (s.elapse d).law = s.law := rfl
@[simp] theorem State.elapse_freeCount (s : State) (d : Nat) : (s.elapse d).freeCount = s.freeCount := rfl
@[simp] theorem State.elapse_pending (s : State) (d : Nat) : (s.elapse d).pending = s.pending := rfl

@[simp] theorem State.putChanger_arb (s : State) (c : Changer) : (s.putChanger c).arb = s.arb := rfl
@[simp] theorem State.putChanger_fade (s : State) (c : Changer) : (s.putChanger c).fade = s.fade := rfl
@[simp] theorem State.putChanger_lamp (s : State) (c : Changer) : (s.putChanger c).lamp = s.lamp := rfl
@[simp] theorem State.putChanger_cool (s : State) (c : Changer) : (s.putChanger c).cool = s.cool := rfl
@[simp] theorem State.putChanger_scan (s : State) (c : Changer) : (s.putChanger c).scan = s.scan := rfl
@[simp] theorem State.putChanger_tape (s : State) (c : Changer) : (s.putChanger c).tape = s.tape := rfl
@[simp] theorem State.putChanger_dec (s : State) (c : Changer) : (s.putChanger c).dec = s.dec := rfl
@[simp] theorem State.putChanger_cue (s : State) (c : Changer) : (s.putChanger c).cue = s.cue := rfl
@[simp] theorem State.putChanger_prot (s : State) (c : Changer) : (s.putChanger c).prot = s.prot := rfl
@[simp] theorem State.putChanger_link (s : State) (c : Changer) : (s.putChanger c).link = s.link := rfl
@[simp] theorem State.putChanger_panel (s : State) (c : Changer) : (s.putChanger c).panel = s.panel := rfl
@[simp] theorem State.putChanger_usage (s : State) (c : Changer) : (s.putChanger c).usage = s.usage := rfl
@[simp] theorem State.putChanger_store (s : State) (c : Changer) : (s.putChanger c).store = s.store := rfl
@[simp] theorem State.putChanger_items (s : State) (c : Changer) : (s.putChanger c).items = s.items := rfl
@[simp] theorem State.putChanger_law (s : State) (c : Changer) : (s.putChanger c).law = s.law := rfl
@[simp] theorem State.putChanger_clock (s : State) (c : Changer) : (s.putChanger c).clock = s.clock := rfl
@[simp] theorem State.putChanger_freeCount (s : State) (c : Changer) : (s.putChanger c).freeCount = s.freeCount := rfl
@[simp] theorem State.putChanger_pending (s : State) (c : Changer) : (s.putChanger c).pending = s.pending := rfl

@[simp] theorem State.putRecord_arb (s : State) (r : ChangeRecord) : (s.putRecord r).arb = s.arb := rfl
@[simp] theorem State.putRecord_fade (s : State) (r : ChangeRecord) : (s.putRecord r).fade = s.fade := rfl
@[simp] theorem State.putRecord_lamp (s : State) (r : ChangeRecord) : (s.putRecord r).lamp = s.lamp := rfl
@[simp] theorem State.putRecord_cool (s : State) (r : ChangeRecord) : (s.putRecord r).cool = s.cool := rfl
@[simp] theorem State.putRecord_scan (s : State) (r : ChangeRecord) : (s.putRecord r).scan = s.scan := rfl
@[simp] theorem State.putRecord_tape (s : State) (r : ChangeRecord) : (s.putRecord r).tape = s.tape := rfl
@[simp] theorem State.putRecord_dec (s : State) (r : ChangeRecord) : (s.putRecord r).dec = s.dec := rfl
@[simp] theorem State.putRecord_cue (s : State) (r : ChangeRecord) : (s.putRecord r).cue = s.cue := rfl
@[simp] theorem State.putRecord_prot (s : State) (r : ChangeRecord) : (s.putRecord r).prot = s.prot := rfl
@[simp] theorem State.putRecord_link (s : State) (r : ChangeRecord) : (s.putRecord r).link = s.link := rfl
@[simp] theorem State.putRecord_panel (s : State) (r : ChangeRecord) : (s.putRecord r).panel = s.panel := rfl
@[simp] theorem State.putRecord_usage (s : State) (r : ChangeRecord) : (s.putRecord r).usage = s.usage := rfl
@[simp] theorem State.putRecord_store (s : State) (r : ChangeRecord) : (s.putRecord r).store = s.store := rfl
@[simp] theorem State.putRecord_items (s : State) (r : ChangeRecord) : (s.putRecord r).items = s.items := rfl
@[simp] theorem State.putRecord_law (s : State) (r : ChangeRecord) : (s.putRecord r).law = s.law := rfl
@[simp] theorem State.putRecord_clock (s : State) (r : ChangeRecord) : (s.putRecord r).clock = s.clock := rfl
@[simp] theorem State.putRecord_freeCount (s : State) (r : ChangeRecord) : (s.putRecord r).freeCount = s.freeCount := rfl
@[simp] theorem State.putRecord_pending (s : State) (r : ChangeRecord) : (s.putRecord r).pending = s.pending := rfl

@[simp] theorem State.putQueue_changer (s : State) (src : Source) (l : List Request) : (s.putQueue src l).changer = s.changer := rfl
@[simp] theorem State.putQueue_fade (s : State) (src : Source) (l : List Request) : (s.putQueue src l).fade = s.fade := rfl
@[simp] theorem State.putQueue_lamp (s : State) (src : Source) (l : List Request) : (s.putQueue src l).lamp = s.lamp := rfl
@[simp] theorem State.putQueue_cool (s : State) (src : Source) (l : List Request) : (s.putQueue src l).cool = s.cool := rfl
@[simp] theorem State.putQueue_scan (s : State) (src : Source) (l : List Request) : (s.putQueue src l).scan = s.scan := rfl
@[simp] theorem State.putQueue_tape (s : State) (src : Source) (l : List Request) : (s.putQueue src l).tape = s.tape := rfl
@[simp] theorem State.putQueue_dec (s : State) (src : Source) (l : List Request) : (s.putQueue src l).dec = s.dec := rfl
@[simp] theorem State.putQueue_cue (s : State) (src : Source) (l : List Request) : (s.putQueue src l).cue = s.cue := rfl
@[simp] theorem State.putQueue_prot (s : State) (src : Source) (l : List Request) : (s.putQueue src l).prot = s.prot := rfl
@[simp] theorem State.putQueue_link (s : State) (src : Source) (l : List Request) : (s.putQueue src l).link = s.link := rfl
@[simp] theorem State.putQueue_panel (s : State) (src : Source) (l : List Request) : (s.putQueue src l).panel = s.panel := rfl
@[simp] theorem State.putQueue_usage (s : State) (src : Source) (l : List Request) : (s.putQueue src l).usage = s.usage := rfl
@[simp] theorem State.putQueue_store (s : State) (src : Source) (l : List Request) : (s.putQueue src l).store = s.store := rfl
@[simp] theorem State.putQueue_items (s : State) (src : Source) (l : List Request) : (s.putQueue src l).items = s.items := rfl
@[simp] theorem State.putQueue_law (s : State) (src : Source) (l : List Request) : (s.putQueue src l).law = s.law := rfl
@[simp] theorem State.putQueue_clock (s : State) (src : Source) (l : List Request) : (s.putQueue src l).clock = s.clock := rfl
@[simp] theorem State.putQueue_freeCount (s : State) (src : Source) (l : List Request) : (s.putQueue src l).freeCount = s.freeCount := rfl
@[simp] theorem State.putQueue_pending (s : State) (src : Source) (l : List Request) : (s.putQueue src l).pending = s.pending := rfl

@[simp] theorem State.pushStack_changer (s : State) (p : Nat) : (s.pushStack p).changer = s.changer := rfl
@[simp] theorem State.pushStack_fade (s : State) (p : Nat) : (s.pushStack p).fade = s.fade := rfl
@[simp] theorem State.pushStack_lamp (s : State) (p : Nat) : (s.pushStack p).lamp = s.lamp := rfl
@[simp] theorem State.pushStack_cool (s : State) (p : Nat) : (s.pushStack p).cool = s.cool := rfl
@[simp] theorem State.pushStack_scan (s : State) (p : Nat) : (s.pushStack p).scan = s.scan := rfl
@[simp] theorem State.pushStack_tape (s : State) (p : Nat) : (s.pushStack p).tape = s.tape := rfl
@[simp] theorem State.pushStack_dec (s : State) (p : Nat) : (s.pushStack p).dec = s.dec := rfl
@[simp] theorem State.pushStack_cue (s : State) (p : Nat) : (s.pushStack p).cue = s.cue := rfl
@[simp] theorem State.pushStack_prot (s : State) (p : Nat) : (s.pushStack p).prot = s.prot := rfl
@[simp] theorem State.pushStack_link (s : State) (p : Nat) : (s.pushStack p).link = s.link := rfl
@[simp] theorem State.pushStack_panel (s : State) (p : Nat) : (s.pushStack p).panel = s.panel := rfl
@[simp] theorem State.pushStack_usage (s : State) (p : Nat) : (s.pushStack p).usage = s.usage := rfl
@[simp] theorem State.pushStack_store (s : State) (p : Nat) : (s.pushStack p).store = s.store := rfl
@[simp] theorem State.pushStack_items (s : State) (p : Nat) : (s.pushStack p).items = s.items := rfl
@[simp] theorem State.pushStack_law (s : State) (p : Nat) : (s.pushStack p).law = s.law := rfl
@[simp] theorem State.pushStack_clock (s : State) (p : Nat) : (s.pushStack p).clock = s.clock := rfl
@[simp] theorem State.pushStack_freeCount (s : State) (p : Nat) : (s.pushStack p).freeCount = s.freeCount := rfl
@[simp] theorem State.pushStack_pending (s : State) (p : Nat) : (s.pushStack p).pending = s.pending := rfl

@[simp] theorem State.cancelDwell_changer (s : State) : (s.cancelDwell).changer = s.changer := rfl
@[simp] theorem State.cancelDwell_fade (s : State) : (s.cancelDwell).fade = s.fade := rfl
@[simp] theorem State.cancelDwell_lamp (s : State) : (s.cancelDwell).lamp = s.lamp := rfl
@[simp] theorem State.cancelDwell_cool (s : State) : (s.cancelDwell).cool = s.cool := rfl
@[simp] theorem State.cancelDwell_scan (s : State) : (s.cancelDwell).scan = s.scan := rfl
@[simp] theorem State.cancelDwell_tape (s : State) : (s.cancelDwell).tape = s.tape := rfl
@[simp] theorem State.cancelDwell_dec (s : State) : (s.cancelDwell).dec = s.dec := rfl
@[simp] theorem State.cancelDwell_cue (s : State) : (s.cancelDwell).cue = s.cue := rfl
@[simp] theorem State.cancelDwell_prot (s : State) : (s.cancelDwell).prot = s.prot := rfl
@[simp] theorem State.cancelDwell_link (s : State) : (s.cancelDwell).link = s.link := rfl
@[simp] theorem State.cancelDwell_panel (s : State) : (s.cancelDwell).panel = s.panel := rfl
@[simp] theorem State.cancelDwell_usage (s : State) : (s.cancelDwell).usage = s.usage := rfl
@[simp] theorem State.cancelDwell_store (s : State) : (s.cancelDwell).store = s.store := rfl
@[simp] theorem State.cancelDwell_items (s : State) : (s.cancelDwell).items = s.items := rfl
@[simp] theorem State.cancelDwell_law (s : State) : (s.cancelDwell).law = s.law := rfl
@[simp] theorem State.cancelDwell_clock (s : State) : (s.cancelDwell).clock = s.clock := rfl
@[simp] theorem State.cancelDwell_freeCount (s : State) : (s.cancelDwell).freeCount = s.freeCount := rfl
@[simp] theorem State.cancelDwell_pending (s : State) : (s.cancelDwell).pending = s.pending := rfl

@[simp] theorem State.putChannel_changer (s : State) (ch : Channel) (c : FadeChannel) : (s.putChannel ch c).changer = s.changer := rfl
@[simp] theorem State.putChannel_arb (s : State) (ch : Channel) (c : FadeChannel) : (s.putChannel ch c).arb = s.arb := rfl
@[simp] theorem State.putChannel_lamp (s : State) (ch : Channel) (c : FadeChannel) : (s.putChannel ch c).lamp = s.lamp := rfl
@[simp] theorem State.putChannel_cool (s : State) (ch : Channel) (c : FadeChannel) : (s.putChannel ch c).cool = s.cool := rfl
@[simp] theorem State.putChannel_scan (s : State) (ch : Channel) (c : FadeChannel) : (s.putChannel ch c).scan = s.scan := rfl
@[simp] theorem State.putChannel_tape (s : State) (ch : Channel) (c : FadeChannel) : (s.putChannel ch c).tape = s.tape := rfl
@[simp] theorem State.putChannel_dec (s : State) (ch : Channel) (c : FadeChannel) : (s.putChannel ch c).dec = s.dec := rfl
@[simp] theorem State.putChannel_cue (s : State) (ch : Channel) (c : FadeChannel) : (s.putChannel ch c).cue = s.cue := rfl
@[simp] theorem State.putChannel_prot (s : State) (ch : Channel) (c : FadeChannel) : (s.putChannel ch c).prot = s.prot := rfl
@[simp] theorem State.putChannel_link (s : State) (ch : Channel) (c : FadeChannel) : (s.putChannel ch c).link = s.link := rfl
@[simp] theorem State.putChannel_panel (s : State) (ch : Channel) (c : FadeChannel) : (s.putChannel ch c).panel = s.panel := rfl
@[simp] theorem State.putChannel_usage (s : State) (ch : Channel) (c : FadeChannel) : (s.putChannel ch c).usage = s.usage := rfl
@[simp] theorem State.putChannel_store (s : State) (ch : Channel) (c : FadeChannel) : (s.putChannel ch c).store = s.store := rfl
@[simp] theorem State.putChannel_items (s : State) (ch : Channel) (c : FadeChannel) : (s.putChannel ch c).items = s.items := rfl
@[simp] theorem State.putChannel_law (s : State) (ch : Channel) (c : FadeChannel) : (s.putChannel ch c).law = s.law := rfl
@[simp] theorem State.putChannel_clock (s : State) (ch : Channel) (c : FadeChannel) : (s.putChannel ch c).clock = s.clock := rfl
@[simp] theorem State.putChannel_freeCount (s : State) (ch : Channel) (c : FadeChannel) : (s.putChannel ch c).freeCount = s.freeCount := rfl
@[simp] theorem State.putChannel_pending (s : State) (ch : Channel) (c : FadeChannel) : (s.putChannel ch c).pending = s.pending := rfl

@[simp] theorem State.openWatch_changer (s : State) : (s.openWatch).changer = s.changer := rfl
@[simp] theorem State.openWatch_arb (s : State) : (s.openWatch).arb = s.arb := rfl
@[simp] theorem State.openWatch_lamp (s : State) : (s.openWatch).lamp = s.lamp := rfl
@[simp] theorem State.openWatch_cool (s : State) : (s.openWatch).cool = s.cool := rfl
@[simp] theorem State.openWatch_scan (s : State) : (s.openWatch).scan = s.scan := rfl
@[simp] theorem State.openWatch_tape (s : State) : (s.openWatch).tape = s.tape := rfl
@[simp] theorem State.openWatch_dec (s : State) : (s.openWatch).dec = s.dec := rfl
@[simp] theorem State.openWatch_cue (s : State) : (s.openWatch).cue = s.cue := rfl
@[simp] theorem State.openWatch_prot (s : State) : (s.openWatch).prot = s.prot := rfl
@[simp] theorem State.openWatch_link (s : State) : (s.openWatch).link = s.link := rfl
@[simp] theorem State.openWatch_panel (s : State) : (s.openWatch).panel = s.panel := rfl
@[simp] theorem State.openWatch_usage (s : State) : (s.openWatch).usage = s.usage := rfl
@[simp] theorem State.openWatch_store (s : State) : (s.openWatch).store = s.store := rfl
@[simp] theorem State.openWatch_items (s : State) : (s.openWatch).items = s.items := rfl
@[simp] theorem State.openWatch_law (s : State) : (s.openWatch).law = s.law := rfl
@[simp] theorem State.openWatch_clock (s : State) : (s.openWatch).clock = s.clock := rfl
@[simp] theorem State.openWatch_freeCount (s : State) : (s.openWatch).freeCount = s.freeCount := rfl
@[simp] theorem State.openWatch_pending (s : State) : (s.openWatch).pending = s.pending := rfl

@[simp] theorem State.takeDip_changer (s : State) : (s.takeDip).changer = s.changer := rfl
@[simp] theorem State.takeDip_arb (s : State) : (s.takeDip).arb = s.arb := rfl
@[simp] theorem State.takeDip_lamp (s : State) : (s.takeDip).lamp = s.lamp := rfl
@[simp] theorem State.takeDip_cool (s : State) : (s.takeDip).cool = s.cool := rfl
@[simp] theorem State.takeDip_scan (s : State) : (s.takeDip).scan = s.scan := rfl
@[simp] theorem State.takeDip_tape (s : State) : (s.takeDip).tape = s.tape := rfl
@[simp] theorem State.takeDip_dec (s : State) : (s.takeDip).dec = s.dec := rfl
@[simp] theorem State.takeDip_cue (s : State) : (s.takeDip).cue = s.cue := rfl
@[simp] theorem State.takeDip_prot (s : State) : (s.takeDip).prot = s.prot := rfl
@[simp] theorem State.takeDip_link (s : State) : (s.takeDip).link = s.link := rfl
@[simp] theorem State.takeDip_panel (s : State) : (s.takeDip).panel = s.panel := rfl
@[simp] theorem State.takeDip_usage (s : State) : (s.takeDip).usage = s.usage := rfl
@[simp] theorem State.takeDip_store (s : State) : (s.takeDip).store = s.store := rfl
@[simp] theorem State.takeDip_items (s : State) : (s.takeDip).items = s.items := rfl
@[simp] theorem State.takeDip_law (s : State) : (s.takeDip).law = s.law := rfl
@[simp] theorem State.takeDip_clock (s : State) : (s.takeDip).clock = s.clock := rfl
@[simp] theorem State.takeDip_freeCount (s : State) : (s.takeDip).freeCount = s.freeCount := rfl
@[simp] theorem State.takeDip_pending (s : State) : (s.takeDip).pending = s.pending := rfl

@[simp] theorem State.writeSwitch_changer (s : State) (v : LampSwitch) : (s.writeSwitch v).changer = s.changer := rfl
@[simp] theorem State.writeSwitch_arb (s : State) (v : LampSwitch) : (s.writeSwitch v).arb = s.arb := rfl
@[simp] theorem State.writeSwitch_fade (s : State) (v : LampSwitch) : (s.writeSwitch v).fade = s.fade := rfl
@[simp] theorem State.writeSwitch_cool (s : State) (v : LampSwitch) : (s.writeSwitch v).cool = s.cool := rfl
@[simp] theorem State.writeSwitch_scan (s : State) (v : LampSwitch) : (s.writeSwitch v).scan = s.scan := rfl
@[simp] theorem State.writeSwitch_tape (s : State) (v : LampSwitch) : (s.writeSwitch v).tape = s.tape := rfl
@[simp] theorem State.writeSwitch_dec (s : State) (v : LampSwitch) : (s.writeSwitch v).dec = s.dec := rfl
@[simp] theorem State.writeSwitch_cue (s : State) (v : LampSwitch) : (s.writeSwitch v).cue = s.cue := rfl
@[simp] theorem State.writeSwitch_prot (s : State) (v : LampSwitch) : (s.writeSwitch v).prot = s.prot := rfl
@[simp] theorem State.writeSwitch_link (s : State) (v : LampSwitch) : (s.writeSwitch v).link = s.link := rfl
@[simp] theorem State.writeSwitch_panel (s : State) (v : LampSwitch) : (s.writeSwitch v).panel = s.panel := rfl
@[simp] theorem State.writeSwitch_usage (s : State) (v : LampSwitch) : (s.writeSwitch v).usage = s.usage := rfl
@[simp] theorem State.writeSwitch_store (s : State) (v : LampSwitch) : (s.writeSwitch v).store = s.store := rfl
@[simp] theorem State.writeSwitch_items (s : State) (v : LampSwitch) : (s.writeSwitch v).items = s.items := rfl
@[simp] theorem State.writeSwitch_law (s : State) (v : LampSwitch) : (s.writeSwitch v).law = s.law := rfl
@[simp] theorem State.writeSwitch_clock (s : State) (v : LampSwitch) : (s.writeSwitch v).clock = s.clock := rfl
@[simp] theorem State.writeSwitch_freeCount (s : State) (v : LampSwitch) : (s.writeSwitch v).freeCount = s.freeCount := rfl
@[simp] theorem State.writeSwitch_pending (s : State) (v : LampSwitch) : (s.writeSwitch v).pending = s.pending := rfl

@[simp] theorem State.zeroGuard_changer (s : State) : (s.zeroGuard).changer = s.changer := rfl
@[simp] theorem State.zeroGuard_arb (s : State) : (s.zeroGuard).arb = s.arb := rfl
@[simp] theorem State.zeroGuard_fade (s : State) : (s.zeroGuard).fade = s.fade := rfl
@[simp] theorem State.zeroGuard_cool (s : State) : (s.zeroGuard).cool = s.cool := rfl
@[simp] theorem State.zeroGuard_scan (s : State) : (s.zeroGuard).scan = s.scan := rfl
@[simp] theorem State.zeroGuard_tape (s : State) : (s.zeroGuard).tape = s.tape := rfl
@[simp] theorem State.zeroGuard_dec (s : State) : (s.zeroGuard).dec = s.dec := rfl
@[simp] theorem State.zeroGuard_cue (s : State) : (s.zeroGuard).cue = s.cue := rfl
@[simp] theorem State.zeroGuard_prot (s : State) : (s.zeroGuard).prot = s.prot := rfl
@[simp] theorem State.zeroGuard_link (s : State) : (s.zeroGuard).link = s.link := rfl
@[simp] theorem State.zeroGuard_panel (s : State) : (s.zeroGuard).panel = s.panel := rfl
@[simp] theorem State.zeroGuard_usage (s : State) : (s.zeroGuard).usage = s.usage := rfl
@[simp] theorem State.zeroGuard_store (s : State) : (s.zeroGuard).store = s.store := rfl
@[simp] theorem State.zeroGuard_items (s : State) : (s.zeroGuard).items = s.items := rfl
@[simp] theorem State.zeroGuard_law (s : State) : (s.zeroGuard).law = s.law := rfl
@[simp] theorem State.zeroGuard_clock (s : State) : (s.zeroGuard).clock = s.clock := rfl
@[simp] theorem State.zeroGuard_freeCount (s : State) : (s.zeroGuard).freeCount = s.freeCount := rfl
@[simp] theorem State.zeroGuard_pending (s : State) : (s.zeroGuard).pending = s.pending := rfl

@[simp] theorem State.putGuard_changer (s : State) (g : Nat) : (s.putGuard g).changer = s.changer := rfl
@[simp] theorem State.putGuard_arb (s : State) (g : Nat) : (s.putGuard g).arb = s.arb := rfl
@[simp] theorem State.putGuard_fade (s : State) (g : Nat) : (s.putGuard g).fade = s.fade := rfl
@[simp] theorem State.putGuard_cool (s : State) (g : Nat) : (s.putGuard g).cool = s.cool := rfl
@[simp] theorem State.putGuard_scan (s : State) (g : Nat) : (s.putGuard g).scan = s.scan := rfl
@[simp] theorem State.putGuard_tape (s : State) (g : Nat) : (s.putGuard g).tape = s.tape := rfl
@[simp] theorem State.putGuard_dec (s : State) (g : Nat) : (s.putGuard g).dec = s.dec := rfl
@[simp] theorem State.putGuard_cue (s : State) (g : Nat) : (s.putGuard g).cue = s.cue := rfl
@[simp] theorem State.putGuard_prot (s : State) (g : Nat) : (s.putGuard g).prot = s.prot := rfl
@[simp] theorem State.putGuard_link (s : State) (g : Nat) : (s.putGuard g).link = s.link := rfl
@[simp] theorem State.putGuard_panel (s : State) (g : Nat) : (s.putGuard g).panel = s.panel := rfl
@[simp] theorem State.putGuard_usage (s : State) (g : Nat) : (s.putGuard g).usage = s.usage := rfl
@[simp] theorem State.putGuard_store (s : State) (g : Nat) : (s.putGuard g).store = s.store := rfl
@[simp] theorem State.putGuard_items (s : State) (g : Nat) : (s.putGuard g).items = s.items := rfl
@[simp] theorem State.putGuard_law (s : State) (g : Nat) : (s.putGuard g).law = s.law := rfl
@[simp] theorem State.putGuard_clock (s : State) (g : Nat) : (s.putGuard g).clock = s.clock := rfl
@[simp] theorem State.putGuard_freeCount (s : State) (g : Nat) : (s.putGuard g).freeCount = s.freeCount := rfl
@[simp] theorem State.putGuard_pending (s : State) (g : Nat) : (s.putGuard g).pending = s.pending := rfl

@[simp] theorem State.setTransport_changer (s : State) (st : TransportState) : (s.setTransport st).changer = s.changer := rfl
@[simp] theorem State.setTransport_arb (s : State) (st : TransportState) : (s.setTransport st).arb = s.arb := rfl
@[simp] theorem State.setTransport_fade (s : State) (st : TransportState) : (s.setTransport st).fade = s.fade := rfl
@[simp] theorem State.setTransport_lamp (s : State) (st : TransportState) : (s.setTransport st).lamp = s.lamp := rfl
@[simp] theorem State.setTransport_cool (s : State) (st : TransportState) : (s.setTransport st).cool = s.cool := rfl
@[simp] theorem State.setTransport_scan (s : State) (st : TransportState) : (s.setTransport st).scan = s.scan := rfl
@[simp] theorem State.setTransport_cue (s : State) (st : TransportState) : (s.setTransport st).cue = s.cue := rfl
@[simp] theorem State.setTransport_prot (s : State) (st : TransportState) : (s.setTransport st).prot = s.prot := rfl
@[simp] theorem State.setTransport_link (s : State) (st : TransportState) : (s.setTransport st).link = s.link := rfl
@[simp] theorem State.setTransport_panel (s : State) (st : TransportState) : (s.setTransport st).panel = s.panel := rfl
@[simp] theorem State.setTransport_usage (s : State) (st : TransportState) : (s.setTransport st).usage = s.usage := rfl
@[simp] theorem State.setTransport_store (s : State) (st : TransportState) : (s.setTransport st).store = s.store := rfl
@[simp] theorem State.setTransport_items (s : State) (st : TransportState) : (s.setTransport st).items = s.items := rfl
@[simp] theorem State.setTransport_law (s : State) (st : TransportState) : (s.setTransport st).law = s.law := rfl
@[simp] theorem State.setTransport_clock (s : State) (st : TransportState) : (s.setTransport st).clock = s.clock := rfl
@[simp] theorem State.setTransport_freeCount (s : State) (st : TransportState) : (s.setTransport st).freeCount = s.freeCount := rfl
@[simp] theorem State.setTransport_pending (s : State) (st : TransportState) : (s.setTransport st).pending = s.pending := rfl

@[simp] theorem State.resetTrackers_changer (s : State) : (s.resetTrackers).changer = s.changer := rfl
@[simp] theorem State.resetTrackers_arb (s : State) : (s.resetTrackers).arb = s.arb := rfl
@[simp] theorem State.resetTrackers_fade (s : State) : (s.resetTrackers).fade = s.fade := rfl
@[simp] theorem State.resetTrackers_lamp (s : State) : (s.resetTrackers).lamp = s.lamp := rfl
@[simp] theorem State.resetTrackers_cool (s : State) : (s.resetTrackers).cool = s.cool := rfl
@[simp] theorem State.resetTrackers_scan (s : State) : (s.resetTrackers).scan = s.scan := rfl
@[simp] theorem State.resetTrackers_tape (s : State) : (s.resetTrackers).tape = s.tape := rfl
@[simp] theorem State.resetTrackers_cue (s : State) : (s.resetTrackers).cue = s.cue := rfl
@[simp] theorem State.resetTrackers_prot (s : State) : (s.resetTrackers).prot = s.prot := rfl
@[simp] theorem State.resetTrackers_link (s : State) : (s.resetTrackers).link = s.link := rfl
@[simp] theorem State.resetTrackers_panel (s : State) : (s.resetTrackers).panel = s.panel := rfl
@[simp] theorem State.resetTrackers_usage (s : State) : (s.resetTrackers).usage = s.usage := rfl
@[simp] theorem State.resetTrackers_store (s : State) : (s.resetTrackers).store = s.store := rfl
@[simp] theorem State.resetTrackers_items (s : State) : (s.resetTrackers).items = s.items := rfl
@[simp] theorem State.resetTrackers_law (s : State) : (s.resetTrackers).law = s.law := rfl
@[simp] theorem State.resetTrackers_clock (s : State) : (s.resetTrackers).clock = s.clock := rfl
@[simp] theorem State.resetTrackers_freeCount (s : State) : (s.resetTrackers).freeCount = s.freeCount := rfl
@[simp] theorem State.resetTrackers_pending (s : State) : (s.resetTrackers).pending = s.pending := rfl

@[simp] theorem State.liveInactive_changer (s : State) (c : Cause) : (s.liveInactive c).changer = s.changer := rfl
@[simp] theorem State.liveInactive_arb (s : State) (c : Cause) : (s.liveInactive c).arb = s.arb := rfl
@[simp] theorem State.liveInactive_fade (s : State) (c : Cause) : (s.liveInactive c).fade = s.fade := rfl
@[simp] theorem State.liveInactive_lamp (s : State) (c : Cause) : (s.liveInactive c).lamp = s.lamp := rfl
@[simp] theorem State.liveInactive_cool (s : State) (c : Cause) : (s.liveInactive c).cool = s.cool := rfl
@[simp] theorem State.liveInactive_scan (s : State) (c : Cause) : (s.liveInactive c).scan = s.scan := rfl
@[simp] theorem State.liveInactive_tape (s : State) (c : Cause) : (s.liveInactive c).tape = s.tape := rfl
@[simp] theorem State.liveInactive_dec (s : State) (c : Cause) : (s.liveInactive c).dec = s.dec := rfl
@[simp] theorem State.liveInactive_cue (s : State) (c : Cause) : (s.liveInactive c).cue = s.cue := rfl
@[simp] theorem State.liveInactive_link (s : State) (c : Cause) : (s.liveInactive c).link = s.link := rfl
@[simp] theorem State.liveInactive_panel (s : State) (c : Cause) : (s.liveInactive c).panel = s.panel := rfl
@[simp] theorem State.liveInactive_usage (s : State) (c : Cause) : (s.liveInactive c).usage = s.usage := rfl
@[simp] theorem State.liveInactive_store (s : State) (c : Cause) : (s.liveInactive c).store = s.store := rfl
@[simp] theorem State.liveInactive_items (s : State) (c : Cause) : (s.liveInactive c).items = s.items := rfl
@[simp] theorem State.liveInactive_law (s : State) (c : Cause) : (s.liveInactive c).law = s.law := rfl
@[simp] theorem State.liveInactive_clock (s : State) (c : Cause) : (s.liveInactive c).clock = s.clock := rfl
@[simp] theorem State.liveInactive_freeCount (s : State) (c : Cause) : (s.liveInactive c).freeCount = s.freeCount := rfl
@[simp] theorem State.liveInactive_pending (s : State) (c : Cause) : (s.liveInactive c).pending = s.pending := rfl

@[simp] theorem State.lockKeys_changer (s : State) : (s.lockKeys).changer = s.changer := rfl
@[simp] theorem State.lockKeys_arb (s : State) : (s.lockKeys).arb = s.arb := rfl
@[simp] theorem State.lockKeys_fade (s : State) : (s.lockKeys).fade = s.fade := rfl
@[simp] theorem State.lockKeys_lamp (s : State) : (s.lockKeys).lamp = s.lamp := rfl
@[simp] theorem State.lockKeys_cool (s : State) : (s.lockKeys).cool = s.cool := rfl
@[simp] theorem State.lockKeys_scan (s : State) : (s.lockKeys).scan = s.scan := rfl
@[simp] theorem State.lockKeys_tape (s : State) : (s.lockKeys).tape = s.tape := rfl
@[simp] theorem State.lockKeys_dec (s : State) : (s.lockKeys).dec = s.dec := rfl
@[simp] theorem State.lockKeys_cue (s : State) : (s.lockKeys).cue = s.cue := rfl
@[simp] theorem State.lockKeys_prot (s : State) : (s.lockKeys).prot = s.prot := rfl
@[simp] theorem State.lockKeys_link (s : State) : (s.lockKeys).link = s.link := rfl
@[simp] theorem State.lockKeys_usage (s : State) : (s.lockKeys).usage = s.usage := rfl
@[simp] theorem State.lockKeys_store (s : State) : (s.lockKeys).store = s.store := rfl
@[simp] theorem State.lockKeys_items (s : State) : (s.lockKeys).items = s.items := rfl
@[simp] theorem State.lockKeys_law (s : State) : (s.lockKeys).law = s.law := rfl
@[simp] theorem State.lockKeys_clock (s : State) : (s.lockKeys).clock = s.clock := rfl
@[simp] theorem State.lockKeys_freeCount (s : State) : (s.lockKeys).freeCount = s.freeCount := rfl
@[simp] theorem State.lockKeys_pending (s : State) : (s.lockKeys).pending = s.pending := rfl

@[simp] theorem State.putKey_changer (s : State) (k : PanelKey) (v : PanelKeyState) : (s.putKey k v).changer = s.changer := rfl
@[simp] theorem State.putKey_arb (s : State) (k : PanelKey) (v : PanelKeyState) : (s.putKey k v).arb = s.arb := rfl
@[simp] theorem State.putKey_fade (s : State) (k : PanelKey) (v : PanelKeyState) : (s.putKey k v).fade = s.fade := rfl
@[simp] theorem State.putKey_lamp (s : State) (k : PanelKey) (v : PanelKeyState) : (s.putKey k v).lamp = s.lamp := rfl
@[simp] theorem State.putKey_cool (s : State) (k : PanelKey) (v : PanelKeyState) : (s.putKey k v).cool = s.cool := rfl
@[simp] theorem State.putKey_scan (s : State) (k : PanelKey) (v : PanelKeyState) : (s.putKey k v).scan = s.scan := rfl
@[simp] theorem State.putKey_tape (s : State) (k : PanelKey) (v : PanelKeyState) : (s.putKey k v).tape = s.tape := rfl
@[simp] theorem State.putKey_dec (s : State) (k : PanelKey) (v : PanelKeyState) : (s.putKey k v).dec = s.dec := rfl
@[simp] theorem State.putKey_cue (s : State) (k : PanelKey) (v : PanelKeyState) : (s.putKey k v).cue = s.cue := rfl
@[simp] theorem State.putKey_prot (s : State) (k : PanelKey) (v : PanelKeyState) : (s.putKey k v).prot = s.prot := rfl
@[simp] theorem State.putKey_link (s : State) (k : PanelKey) (v : PanelKeyState) : (s.putKey k v).link = s.link := rfl
@[simp] theorem State.putKey_usage (s : State) (k : PanelKey) (v : PanelKeyState) : (s.putKey k v).usage = s.usage := rfl
@[simp] theorem State.putKey_store (s : State) (k : PanelKey) (v : PanelKeyState) : (s.putKey k v).store = s.store := rfl
@[simp] theorem State.putKey_items (s : State) (k : PanelKey) (v : PanelKeyState) : (s.putKey k v).items = s.items := rfl
@[simp] theorem State.putKey_law (s : State) (k : PanelKey) (v : PanelKeyState) : (s.putKey k v).law = s.law := rfl
@[simp] theorem State.putKey_clock (s : State) (k : PanelKey) (v : PanelKeyState) : (s.putKey k v).clock = s.clock := rfl
@[simp] theorem State.putKey_freeCount (s : State) (k : PanelKey) (v : PanelKeyState) : (s.putKey k v).freeCount = s.freeCount := rfl
@[simp] theorem State.putKey_pending (s : State) (k : PanelKey) (v : PanelKeyState) : (s.putKey k v).pending = s.pending := rfl

@[simp] theorem State.raiseFlag_changer (s : State) (f : AttentionFlag) : (s.raiseFlag f).changer = s.changer := rfl
@[simp] theorem State.raiseFlag_arb (s : State) (f : AttentionFlag) : (s.raiseFlag f).arb = s.arb := rfl
@[simp] theorem State.raiseFlag_fade (s : State) (f : AttentionFlag) : (s.raiseFlag f).fade = s.fade := rfl
@[simp] theorem State.raiseFlag_lamp (s : State) (f : AttentionFlag) : (s.raiseFlag f).lamp = s.lamp := rfl
@[simp] theorem State.raiseFlag_cool (s : State) (f : AttentionFlag) : (s.raiseFlag f).cool = s.cool := rfl
@[simp] theorem State.raiseFlag_scan (s : State) (f : AttentionFlag) : (s.raiseFlag f).scan = s.scan := rfl
@[simp] theorem State.raiseFlag_tape (s : State) (f : AttentionFlag) : (s.raiseFlag f).tape = s.tape := rfl
@[simp] theorem State.raiseFlag_dec (s : State) (f : AttentionFlag) : (s.raiseFlag f).dec = s.dec := rfl
@[simp] theorem State.raiseFlag_cue (s : State) (f : AttentionFlag) : (s.raiseFlag f).cue = s.cue := rfl
@[simp] theorem State.raiseFlag_prot (s : State) (f : AttentionFlag) : (s.raiseFlag f).prot = s.prot := rfl
@[simp] theorem State.raiseFlag_panel (s : State) (f : AttentionFlag) : (s.raiseFlag f).panel = s.panel := rfl
@[simp] theorem State.raiseFlag_usage (s : State) (f : AttentionFlag) : (s.raiseFlag f).usage = s.usage := rfl
@[simp] theorem State.raiseFlag_store (s : State) (f : AttentionFlag) : (s.raiseFlag f).store = s.store := rfl
@[simp] theorem State.raiseFlag_items (s : State) (f : AttentionFlag) : (s.raiseFlag f).items = s.items := rfl
@[simp] theorem State.raiseFlag_law (s : State) (f : AttentionFlag) : (s.raiseFlag f).law = s.law := rfl
@[simp] theorem State.raiseFlag_clock (s : State) (f : AttentionFlag) : (s.raiseFlag f).clock = s.clock := rfl
@[simp] theorem State.raiseFlag_freeCount (s : State) (f : AttentionFlag) : (s.raiseFlag f).freeCount = s.freeCount := rfl
@[simp] theorem State.raiseFlag_pending (s : State) (f : AttentionFlag) : (s.raiseFlag f).pending = s.pending := rfl

@[simp] theorem State.clearFlag_changer (s : State) (f : AttentionFlag) : (s.clearFlag f).changer = s.changer := rfl
@[simp] theorem State.clearFlag_arb (s : State) (f : AttentionFlag) : (s.clearFlag f).arb = s.arb := rfl
@[simp] theorem State.clearFlag_fade (s : State) (f : AttentionFlag) : (s.clearFlag f).fade = s.fade := rfl
@[simp] theorem State.clearFlag_lamp (s : State) (f : AttentionFlag) : (s.clearFlag f).lamp = s.lamp := rfl
@[simp] theorem State.clearFlag_cool (s : State) (f : AttentionFlag) : (s.clearFlag f).cool = s.cool := rfl
@[simp] theorem State.clearFlag_scan (s : State) (f : AttentionFlag) : (s.clearFlag f).scan = s.scan := rfl
@[simp] theorem State.clearFlag_tape (s : State) (f : AttentionFlag) : (s.clearFlag f).tape = s.tape := rfl
@[simp] theorem State.clearFlag_dec (s : State) (f : AttentionFlag) : (s.clearFlag f).dec = s.dec := rfl
@[simp] theorem State.clearFlag_cue (s : State) (f : AttentionFlag) : (s.clearFlag f).cue = s.cue := rfl
@[simp] theorem State.clearFlag_prot (s : State) (f : AttentionFlag) : (s.clearFlag f).prot = s.prot := rfl
@[simp] theorem State.clearFlag_panel (s : State) (f : AttentionFlag) : (s.clearFlag f).panel = s.panel := rfl
@[simp] theorem State.clearFlag_usage (s : State) (f : AttentionFlag) : (s.clearFlag f).usage = s.usage := rfl
@[simp] theorem State.clearFlag_store (s : State) (f : AttentionFlag) : (s.clearFlag f).store = s.store := rfl
@[simp] theorem State.clearFlag_items (s : State) (f : AttentionFlag) : (s.clearFlag f).items = s.items := rfl
@[simp] theorem State.clearFlag_law (s : State) (f : AttentionFlag) : (s.clearFlag f).law = s.law := rfl
@[simp] theorem State.clearFlag_clock (s : State) (f : AttentionFlag) : (s.clearFlag f).clock = s.clock := rfl
@[simp] theorem State.clearFlag_freeCount (s : State) (f : AttentionFlag) : (s.clearFlag f).freeCount = s.freeCount := rfl
@[simp] theorem State.clearFlag_pending (s : State) (f : AttentionFlag) : (s.clearFlag f).pending = s.pending := rfl

@[simp] theorem State.endFrame_changer (s : State) : (s.endFrame).changer = s.changer := rfl
@[simp] theorem State.endFrame_arb (s : State) : (s.endFrame).arb = s.arb := rfl
@[simp] theorem State.endFrame_fade (s : State) : (s.endFrame).fade = s.fade := rfl
@[simp] theorem State.endFrame_lamp (s : State) : (s.endFrame).lamp = s.lamp := rfl
@[simp] theorem State.endFrame_cool (s : State) : (s.endFrame).cool = s.cool := rfl
@[simp] theorem State.endFrame_scan (s : State) : (s.endFrame).scan = s.scan := rfl
@[simp] theorem State.endFrame_tape (s : State) : (s.endFrame).tape = s.tape := rfl
@[simp] theorem State.endFrame_dec (s : State) : (s.endFrame).dec = s.dec := rfl
@[simp] theorem State.endFrame_cue (s : State) : (s.endFrame).cue = s.cue := rfl
@[simp] theorem State.endFrame_prot (s : State) : (s.endFrame).prot = s.prot := rfl
@[simp] theorem State.endFrame_panel (s : State) : (s.endFrame).panel = s.panel := rfl
@[simp] theorem State.endFrame_usage (s : State) : (s.endFrame).usage = s.usage := rfl
@[simp] theorem State.endFrame_store (s : State) : (s.endFrame).store = s.store := rfl
@[simp] theorem State.endFrame_items (s : State) : (s.endFrame).items = s.items := rfl
@[simp] theorem State.endFrame_law (s : State) : (s.endFrame).law = s.law := rfl
@[simp] theorem State.endFrame_clock (s : State) : (s.endFrame).clock = s.clock := rfl
@[simp] theorem State.endFrame_freeCount (s : State) : (s.endFrame).freeCount = s.freeCount := rfl
@[simp] theorem State.endFrame_pending (s : State) : (s.endFrame).pending = s.pending := rfl

@[simp] theorem State.linkError_changer (s : State) : (s.linkError).changer = s.changer := rfl
@[simp] theorem State.linkError_arb (s : State) : (s.linkError).arb = s.arb := rfl
@[simp] theorem State.linkError_fade (s : State) : (s.linkError).fade = s.fade := rfl
@[simp] theorem State.linkError_lamp (s : State) : (s.linkError).lamp = s.lamp := rfl
@[simp] theorem State.linkError_cool (s : State) : (s.linkError).cool = s.cool := rfl
@[simp] theorem State.linkError_scan (s : State) : (s.linkError).scan = s.scan := rfl
@[simp] theorem State.linkError_tape (s : State) : (s.linkError).tape = s.tape := rfl
@[simp] theorem State.linkError_dec (s : State) : (s.linkError).dec = s.dec := rfl
@[simp] theorem State.linkError_cue (s : State) : (s.linkError).cue = s.cue := rfl
@[simp] theorem State.linkError_prot (s : State) : (s.linkError).prot = s.prot := rfl
@[simp] theorem State.linkError_panel (s : State) : (s.linkError).panel = s.panel := rfl
@[simp] theorem State.linkError_usage (s : State) : (s.linkError).usage = s.usage := rfl
@[simp] theorem State.linkError_store (s : State) : (s.linkError).store = s.store := rfl
@[simp] theorem State.linkError_items (s : State) : (s.linkError).items = s.items := rfl
@[simp] theorem State.linkError_law (s : State) : (s.linkError).law = s.law := rfl
@[simp] theorem State.linkError_clock (s : State) : (s.linkError).clock = s.clock := rfl
@[simp] theorem State.linkError_freeCount (s : State) : (s.linkError).freeCount = s.freeCount := rfl
@[simp] theorem State.linkError_pending (s : State) : (s.linkError).pending = s.pending := rfl

@[simp] theorem State.putCounter_changer (s : State) (i : CounterIndex) (v : Counter) : (s.putCounter i v).changer = s.changer := rfl
@[simp] theorem State.putCounter_arb (s : State) (i : CounterIndex) (v : Counter) : (s.putCounter i v).arb = s.arb := rfl
@[simp] theorem State.putCounter_fade (s : State) (i : CounterIndex) (v : Counter) : (s.putCounter i v).fade = s.fade := rfl
@[simp] theorem State.putCounter_lamp (s : State) (i : CounterIndex) (v : Counter) : (s.putCounter i v).lamp = s.lamp := rfl
@[simp] theorem State.putCounter_cool (s : State) (i : CounterIndex) (v : Counter) : (s.putCounter i v).cool = s.cool := rfl
@[simp] theorem State.putCounter_scan (s : State) (i : CounterIndex) (v : Counter) : (s.putCounter i v).scan = s.scan := rfl
@[simp] theorem State.putCounter_tape (s : State) (i : CounterIndex) (v : Counter) : (s.putCounter i v).tape = s.tape := rfl
@[simp] theorem State.putCounter_dec (s : State) (i : CounterIndex) (v : Counter) : (s.putCounter i v).dec = s.dec := rfl
@[simp] theorem State.putCounter_cue (s : State) (i : CounterIndex) (v : Counter) : (s.putCounter i v).cue = s.cue := rfl
@[simp] theorem State.putCounter_prot (s : State) (i : CounterIndex) (v : Counter) : (s.putCounter i v).prot = s.prot := rfl
@[simp] theorem State.putCounter_link (s : State) (i : CounterIndex) (v : Counter) : (s.putCounter i v).link = s.link := rfl
@[simp] theorem State.putCounter_panel (s : State) (i : CounterIndex) (v : Counter) : (s.putCounter i v).panel = s.panel := rfl
@[simp] theorem State.putCounter_store (s : State) (i : CounterIndex) (v : Counter) : (s.putCounter i v).store = s.store := rfl
@[simp] theorem State.putCounter_items (s : State) (i : CounterIndex) (v : Counter) : (s.putCounter i v).items = s.items := rfl
@[simp] theorem State.putCounter_law (s : State) (i : CounterIndex) (v : Counter) : (s.putCounter i v).law = s.law := rfl
@[simp] theorem State.putCounter_clock (s : State) (i : CounterIndex) (v : Counter) : (s.putCounter i v).clock = s.clock := rfl
@[simp] theorem State.putCounter_freeCount (s : State) (i : CounterIndex) (v : Counter) : (s.putCounter i v).freeCount = s.freeCount := rfl
@[simp] theorem State.putCounter_pending (s : State) (i : CounterIndex) (v : Counter) : (s.putCounter i v).pending = s.pending := rfl

@[simp] theorem State.startSave_changer (s : State) (im : Image) : (s.startSave im).changer = s.changer := rfl
@[simp] theorem State.startSave_arb (s : State) (im : Image) : (s.startSave im).arb = s.arb := rfl
@[simp] theorem State.startSave_fade (s : State) (im : Image) : (s.startSave im).fade = s.fade := rfl
@[simp] theorem State.startSave_lamp (s : State) (im : Image) : (s.startSave im).lamp = s.lamp := rfl
@[simp] theorem State.startSave_cool (s : State) (im : Image) : (s.startSave im).cool = s.cool := rfl
@[simp] theorem State.startSave_scan (s : State) (im : Image) : (s.startSave im).scan = s.scan := rfl
@[simp] theorem State.startSave_tape (s : State) (im : Image) : (s.startSave im).tape = s.tape := rfl
@[simp] theorem State.startSave_dec (s : State) (im : Image) : (s.startSave im).dec = s.dec := rfl
@[simp] theorem State.startSave_cue (s : State) (im : Image) : (s.startSave im).cue = s.cue := rfl
@[simp] theorem State.startSave_prot (s : State) (im : Image) : (s.startSave im).prot = s.prot := rfl
@[simp] theorem State.startSave_link (s : State) (im : Image) : (s.startSave im).link = s.link := rfl
@[simp] theorem State.startSave_panel (s : State) (im : Image) : (s.startSave im).panel = s.panel := rfl
@[simp] theorem State.startSave_usage (s : State) (im : Image) : (s.startSave im).usage = s.usage := rfl
@[simp] theorem State.startSave_items (s : State) (im : Image) : (s.startSave im).items = s.items := rfl
@[simp] theorem State.startSave_law (s : State) (im : Image) : (s.startSave im).law = s.law := rfl
@[simp] theorem State.startSave_clock (s : State) (im : Image) : (s.startSave im).clock = s.clock := rfl
@[simp] theorem State.startSave_freeCount (s : State) (im : Image) : (s.startSave im).freeCount = s.freeCount := rfl
@[simp] theorem State.startSave_pending (s : State) (im : Image) : (s.startSave im).pending = s.pending := rfl
/-! ## What the updates write -/

@[simp] theorem State.reachAt_clock (s : State) (d : Nat) : (s.reachAt d).clock = max s.clock d := rfl
@[simp] theorem State.elapse_clock (s : State) (d : Nat) : (s.elapse d).clock = s.clock + d := rfl
@[simp] theorem State.putChanger_changer (s : State) (c : Changer) : (s.putChanger c).changer = c := rfl
@[simp] theorem State.putRecord_changer (s : State) (r : ChangeRecord) :
    (s.putRecord r).changer = { s.changer with record := some r } := rfl
@[simp] theorem State.putQueue_arb (s : State) (src : Source) (l : List Request) :
    (s.putQueue src l).arb = { s.arb with queues := s.arb.queues.put src l } := rfl
@[simp] theorem State.pushStack_arb (s : State) (p : Nat) :
    (s.pushStack p).arb = { s.arb with stack := pushPosition s.arb.stack p } := rfl
@[simp] theorem State.cancelDwell_arb (s : State) : s.cancelDwell.arb = { s.arb with dwellDue := none } := rfl
@[simp] theorem State.putChannel_fade (s : State) (ch : Channel) (c : FadeChannel) :
    (s.putChannel ch c).fade = s.fade.putChannel ch c := rfl
@[simp] theorem State.zeroGuard_lamp (s : State) :
    s.zeroGuard.lamp = { s.lamp with guardAcc := 0, guardEngaged := false } := rfl
@[simp] theorem State.putGuard_lamp (s : State) (g : Nat) :
    (s.putGuard g).lamp = { s.lamp with guardAcc := g, guardEngaged := guardLatch s.items s.lamp.guardEngaged g } := rfl
@[simp] theorem State.liveInactive_prot (s : State) (c : Cause) :
    (s.liveInactive c).prot = { s.prot with active := s.prot.active.put c false } := rfl
@[simp] theorem State.raiseFlag_link (s : State) (f : AttentionFlag) :
    (s.raiseFlag f).link = { s.link with flags := s.link.flags.put f true } := rfl
@[simp] theorem State.clearFlag_link (s : State) (f : AttentionFlag) :
    (s.clearFlag f).link = { s.link with flags := s.link.flags.put f false } := rfl
@[simp] theorem State.endFrame_link (s : State) : s.endFrame.link = { s.link with rxFrame := [] } := rfl
@[simp] theorem State.putCounter_usage (s : State) (i : CounterIndex) (v : Counter) :
    (s.putCounter i v).usage = { s.usage with counters := s.usage.counters.put i v } := rfl
@[simp] theorem State.startSave_store (s : State) (im : Image) :
    (s.startSave im).store = { s.store with saving := some im, saveDue := some (s.clock + ms 30) } := rfl

@[simp] theorem Queues.get_put_same (q : Queues) (src : Source) (l : List Request) : (q.put src l).get src = l := by
  cases src <;> rfl

theorem Queues.get_put_other (q : Queues) (src other : Source) (l : List Request) (h : other ≠ src) :
    (q.put src l).get other = q.get other := by
  cases src <;> cases other <;> first | rfl | exact absurd rfl h

@[simp] theorem FadeEngine.channel_putChannel (f : FadeEngine) (ch : Channel) (c : FadeChannel) :
    (f.putChannel ch c).channel ch = c := by
  cases ch <;> rfl

@[simp] theorem Counters.get_put_same (c : Counters) (i : CounterIndex) (v : Counter) : (c.put i v).get i = v := by
  cases i <;> rfl

@[simp] theorem Attention.get_put_same (a : Attention) (f : AttentionFlag) (v : Bool) : (a.put f v).get f = v := by
  cases f <;> rfl

@[simp] theorem PanelKeys.get_put_same (k : PanelKeys) (key : PanelKey) (v : PanelKeyState) : (k.put key v).get key = v := by
  cases key <;> rfl

@[simp] theorem State.takeCueLevel_changer (s : State) (n : Nat) : (s.takeCueLevel n).changer = s.changer := rfl
@[simp] theorem State.takeCueLevel_arb (s : State) (n : Nat) : (s.takeCueLevel n).arb = s.arb := rfl
@[simp] theorem State.takeCueLevel_fade (s : State) (n : Nat) : (s.takeCueLevel n).fade = s.fade := rfl
@[simp] theorem State.takeCueLevel_lamp (s : State) (n : Nat) : (s.takeCueLevel n).lamp = s.lamp := rfl
@[simp] theorem State.takeCueLevel_cool (s : State) (n : Nat) : (s.takeCueLevel n).cool = s.cool := rfl
@[simp] theorem State.takeCueLevel_scan (s : State) (n : Nat) : (s.takeCueLevel n).scan = s.scan := rfl
@[simp] theorem State.takeCueLevel_tape (s : State) (n : Nat) : (s.takeCueLevel n).tape = s.tape := rfl
@[simp] theorem State.takeCueLevel_cue (s : State) (n : Nat) : (s.takeCueLevel n).cue = s.cue := rfl
@[simp] theorem State.takeCueLevel_prot (s : State) (n : Nat) : (s.takeCueLevel n).prot = s.prot := rfl
@[simp] theorem State.takeCueLevel_link (s : State) (n : Nat) : (s.takeCueLevel n).link = s.link := rfl
@[simp] theorem State.takeCueLevel_panel (s : State) (n : Nat) : (s.takeCueLevel n).panel = s.panel := rfl
@[simp] theorem State.takeCueLevel_usage (s : State) (n : Nat) : (s.takeCueLevel n).usage = s.usage := rfl
@[simp] theorem State.takeCueLevel_store (s : State) (n : Nat) : (s.takeCueLevel n).store = s.store := rfl
@[simp] theorem State.takeCueLevel_items (s : State) (n : Nat) : (s.takeCueLevel n).items = s.items := rfl
@[simp] theorem State.takeCueLevel_law (s : State) (n : Nat) : (s.takeCueLevel n).law = s.law := rfl
@[simp] theorem State.takeCueLevel_clock (s : State) (n : Nat) : (s.takeCueLevel n).clock = s.clock := rfl
@[simp] theorem State.takeCueLevel_freeCount (s : State) (n : Nat) : (s.takeCueLevel n).freeCount = s.freeCount := rfl
@[simp] theorem State.takeCueLevel_pending (s : State) (n : Nat) : (s.takeCueLevel n).pending = s.pending := rfl
@[simp] theorem State.takeCueLevel_levelLow (s : State) (n : Nat) : (s.takeCueLevel n).dec.levelLow = n := rfl

end Sys2Proof.Machine
end

