-- ==== Sys2Proof/Laws/Frames.lean ====
section
/-! SUPPORT. One frame lemma for each shared operation: the blocks it may change. A caller cites it in place of unfolding
the operation. -/

namespace Sys2Proof.Machine

/-! ## Working with frames -/

theorem State.onlyChanges.refl (bs : List Block) (s : State) : s.onlyChanges bs s := by
  intro b _; cases b <;> rfl

theorem State.same.trans {b : Block} {s t u : State} (h1 : s.same b t) (h2 : t.same b u) : s.same b u := by
  cases b <;> exact Eq.trans h2 h1

theorem State.onlyChanges.mono {as bs : List Block} {s t : State} (h : s.onlyChanges as t) (hs : ∀ b ∈ as, b ∈ bs) :
    s.onlyChanges bs t :=
  fun b hb => h b (fun ha => hb (hs b ha))

/-- Two steps one after the other change at most what either changes. -/
theorem State.onlyChanges.trans {bs : List Block} {s t u : State} (h1 : s.onlyChanges bs t) (h2 : t.onlyChanges bs u) :
    s.onlyChanges bs u :=
  fun b hb => (h1 b hb).trans (h2 b hb)

/-- Two steps, each with its own frame. -/
theorem State.onlyChanges.andThen {as bs cs : List Block} {s t u : State} (h1 : s.onlyChanges as t)
    (h2 : t.onlyChanges bs u) (ha : ∀ b ∈ as, b ∈ cs) (hb : ∀ b ∈ bs, b ∈ cs) : s.onlyChanges cs u :=
  (h1.mono ha).trans (h2.mono hb)

/-! ## Flags, counters and the store -/

theorem State.raiseFlag_frame (f : AttentionFlag) (s : State) : s.onlyChanges [.link] (s.raiseFlag f) := by
  intro b hb; cases b <;> first | rfl | simp at hb

theorem State.raiseFlagIf_frame (c : Bool) (f : AttentionFlag) (s : State) :
    s.onlyChanges [.link] (s.raiseFlagIf c f) := by
  unfold State.raiseFlagIf; split
  · exact s.raiseFlag_frame f
  · exact .refl _ _

theorem State.gainCounter_frame (i : CounterIndex) (s : State) : s.onlyChanges [.usage, .link] (s.gainCounter i) := by
  unfold State.gainCounter State.raiseFlagIf
  dsimp only; split <;> (intro b hb; cases b <;> first | rfl | simp at hb)

theorem State.gainCounterIf_frame (c : Bool) (i : CounterIndex) (s : State) :
    s.onlyChanges [.usage, .link] (s.gainCounterIf c i) := by
  unfold State.gainCounterIf; split
  · exact s.gainCounter_frame i
  · exact .refl _ _

theorem State.requestCounterSave_frame (s : State) : s.onlyChanges [.store] s.requestCounterSave := by
  unfold State.requestCounterSave State.startCounterSave State.startSave
  split <;> (intro b hb; cases b <;> first | rfl | simp at hb)

/-! ## The transport -/

theorem State.setTransport_frame (st : TransportState) (s : State) : s.onlyChanges [.tape, .dec] (s.setTransport st) := by
  intro b hb; cases b <;> first | rfl | simp at hb

theorem State.addReason_frame (r : PauseReason) (s : State) : s.onlyChanges [.tape, .dec] (s.addReason r) := by
  unfold State.addReason State.setTransport
  dsimp only; split <;> (intro b hb; cases b <;> first | rfl | simp at hb)

theorem State.removeReason_frame (r : PauseReason) (s : State) : s.onlyChanges [.tape, .dec] (s.removeReason r) := by
  unfold State.removeReason State.setTransport
  dsimp only; split
  · split <;> (intro b hb; cases b <;> first | rfl | simp at hb)
  · intro b hb; cases b <;> first | rfl | simp at hb

theorem State.stopTape_frame (c : StopCause) (s : State) : s.onlyChanges [.tape, .dec] (s.stopTape c) := by
  unfold State.stopTape State.setTransport
  split <;> (intro b hb; cases b <;> first | rfl | simp at hb)

theorem State.enterPlay_frame (s : State) : s.onlyChanges [.tape, .dec] s.enterPlay := by
  intro b hb; cases b <;> first | rfl | simp at hb

theorem State.tapeOp_frame (op : TapeOp) (s : State) : s.onlyChanges [.tape, .dec] (s.tapeOp op) := by
  unfold State.tapeOp
  (repeat' split) <;> first
    | exact .refl _ _ | exact s.enterPlay_frame | exact s.stopTape_frame _ | exact s.removeReason_frame _
    | exact s.setTransport_frame _

theorem State.beginSeek_frame (n : Nat) (s : State) : s.onlyChanges [.tape, .dec] (s.beginSeek n) := by
  unfold State.beginSeek State.setTransport
  split <;> (intro b hb; cases b <;> first | rfl | simp at hb)

theorem State.tapeEnds_frame (st : TransportState) (c : StopCause) (s : State) :
    s.onlyChanges [.tape, .dec] (s.tapeEnds st c) := by
  intro b hb; cases b <;> first | rfl | simp at hb

theorem State.atLeader_frame (s : State) : s.onlyChanges [.tape, .dec] s.atLeader := by
  intro b hb; cases b <;> first | rfl | simp at hb

/-! ## Fades -/

theorem State.plainFade_frame (ch : Channel) (l t : Nat) (s : State) : s.onlyChanges [.fade] (s.plainFade ch l t) := by
  unfold State.plainFade
  cases ch <;> (intro b hb; cases b <;> first | rfl | simp at hb)

theorem State.takeFade_frame (ch : Channel) (l t : Nat) (w : Bool) (s : State) :
    s.onlyChanges [.fade] (s.takeFade ch l t w) := by
  unfold State.takeFade State.waitFade
  split
  · split
    · exact s.plainFade_frame ch _ t
    · intro b hb; cases b <;> first | rfl | simp at hb
  · exact s.plainFade_frame ch _ t

theorem State.takePending_frame (ch : Channel) (s : State) : s.onlyChanges [.fade] (s.takePending ch) := by
  unfold State.takePending
  dsimp only; split <;> (intro b hb; cases b <;> first | rfl | simp at hb)

theorem State.takePendings_frame (s : State) : s.onlyChanges [.fade] s.takePendings :=
  (s.takePending_frame .lamp).trans ((s.takePending .lamp).takePending_frame .audio)

theorem State.restoreLamp_frame (w : Watch) (final : Option Nat) (found : Bool) (s : State) :
    s.onlyChanges [.fade] (s.restoreLamp w final found) := by
  unfold State.restoreLamp
  dsimp only
  (repeat' split) <;> (intro b hb; cases b <;> first | rfl | simp at hb)

theorem State.closeWatch_frame (s : State) :
    s.onlyChanges [.fade] { s with fade := { s.fade with watch := none } } := by
  intro b hb; cases b <;> first | rfl | simp at hb

theorem State.fadeChangeEnd_frame (final : Option Nat) (found free : Bool) (s : State) :
    s.onlyChanges [.fade] (s.fadeChangeEnd final found free) := by
  have h1 : s.onlyChanges [.fade] (if free = true ∧ s.fade.lamp.pending.isSome = true then s.takePending .lamp
      else match s.fade.watch with
        | none => s
        | some w => s.restoreLamp w final found) := by
    split
    · exact s.takePending_frame .lamp
    · split
      · exact .refl _ _
      · exact s.restoreLamp_frame _ _ _
  unfold State.fadeChangeEnd
  dsimp only
  split
  · exact (h1.trans (State.closeWatch_frame _)).trans (State.takePending_frame _ _)
  · exact h1.trans (State.closeWatch_frame _)

/-! ## Requests, queues, hold and dwell -/

theorem State.join_frame (r : Request) (s : State) : s.onlyChanges [.arb] (s.join r) := by
  intro b hb; cases b <;> first | rfl | simp at hb

theorem State.offerOwed_frame (s : State) : s.onlyChanges [.arb, .cue] s.offerOwed := by
  unfold State.offerOwed
  dsimp only; split <;> (intro b hb; cases b <;> first | rfl | simp at hb)

theorem State.convertDebt_frame (n : Nat) (s : State) : s.onlyChanges [.arb, .cue] (State.convertDebt n s) := by
  induction n generalizing s with
  | zero => exact .refl _ _
  | succ n ih =>
    unfold State.convertDebt; split
    · exact s.offerOwed_frame.trans (ih _)
    · exact .refl _ _

theorem State.judgeQueue_frame (s : State) : s.onlyChanges [.cue, .tape, .dec] s.judgeQueue := by
  unfold State.judgeQueue
  dsimp only
  split
  · refine State.onlyChanges.trans (t := _) ?_ ((State.addReason_frame _ _).mono (by decide))
    intro b hb; cases b <;> first | rfl | simp at hb
  · split
    · refine State.onlyChanges.trans (t := _) ?_ ((State.removeReason_frame _ _).mono (by decide))
      intro b hb; cases b <;> first | rfl | simp at hb
    · intro b hb; cases b <;> first | rfl | simp at hb

theorem State.reportCue_frame (s : State) : s.onlyChanges [.arb, .cue, .tape, .dec] s.reportCue :=
  (s.convertDebt_frame s.cue.debt).andThen (State.judgeQueue_frame _) (by decide) (by decide)

theorem State.offer_frame (r : Request) (s : State) : s.onlyChanges [.arb, .cue, .tape, .dec] (s.offer r).1 := by
  unfold State.offer
  split
  · exact .refl _ _
  · dsimp only; split
    · exact (s.join_frame r).andThen (State.reportCue_frame _) (by decide) (by decide)
    · exact (s.join_frame r).mono (by decide)

theorem State.offered_frame (r : Request) (s : State) : s.onlyChanges [.arb, .cue, .tape, .dec] (s.offered r) :=
  s.offer_frame r

theorem State.addCompletion_frame (c : Completion) (s : State) : s.onlyChanges [.arb, .link] (s.addCompletion c) := by
  intro b hb; cases b <;> first | rfl | simp at hb

theorem State.completeRequest_frame (r : Request) (o : ChangeOutcome) (final : Option Nat) (s : State) :
    s.onlyChanges [.arb, .link] (s.completeRequest r o final) := by
  unfold State.completeRequest; split
  · exact s.addCompletion_frame _
  · exact .refl _ _

theorem State.flushLink_frame (s : State) : s.onlyChanges [.arb, .link] s.flushLink := by
  have h : ∀ (p : Option Nat) (l : List Request) (u : State), u.onlyChanges [.arb, .link]
      (l.foldl (fun t r => t.completeRequest r .aborted p) u) := by
    intro p l
    induction l with
    | nil => intro u; exact .refl _ _
    | cons r l ih => intro u; exact (u.completeRequest_frame r .aborted p).trans (ih _)
  unfold State.flushLink
  refine (h s.changer.position s.arb.queues.link s).trans ?_
  intro b hb; cases b <;> first | rfl | simp at hb

theorem State.flushAll_frame (s : State) : s.onlyChanges [.arb, .link, .cue, .tape, .dec] s.flushAll := by
  unfold State.flushAll
  refine s.flushLink_frame.andThen (bs := [.arb, .cue, .tape, .dec]) ?_ (by decide) (by decide)
  refine State.onlyChanges.andThen (as := [.arb]) ?_ (State.reportCue_frame _) (by decide) (by decide)
  intro b hb; cases b <;> first | rfl | simp at hb

theorem State.markPosition_frame (s : State) : s.onlyChanges [.arb] s.markPosition := by
  unfold State.markPosition
  split <;> (intro b hb; cases b <;> first | rfl | simp at hb)

theorem State.startDwell_frame (s : State) : s.onlyChanges [.arb] s.startDwell := by
  unfold State.startDwell
  split
  · split <;> (intro b hb; cases b <;> first | rfl | simp at hb)
  · exact .refl _ _

theorem State.takeHold_frame (s : State) : s.onlyChanges [.arb, .tape, .dec] s.takeHold := by
  unfold State.takeHold
  split
  · exact .refl _ _
  · refine State.onlyChanges.andThen (as := [.arb]) ?_ (State.addReason_frame _ _) (by decide) (by decide)
    intro b hb; cases b <;> first | rfl | simp at hb

theorem State.takeResume_frame (s : State) : s.onlyChanges [.arb, .tape, .dec] s.takeResume := by
  unfold State.takeResume
  split
  · refine State.onlyChanges.andThen (as := [.arb]) ?_ (State.removeReason_frame _ _) (by decide) (by decide)
    intro b hb; cases b <;> first | rfl | simp at hb
  · exact .refl _ _

theorem State.writeAuto_frame (on : Bool) (s : State) : s.onlyChanges [.arb] (s.writeAuto on) := by
  unfold State.writeAuto
  dsimp only
  split
  · intro b hb; cases b <;> first | rfl | simp at hb
  · split
    · split
      · refine State.onlyChanges.trans (t := _) ?_ (State.startDwell_frame _)
        intro b hb; cases b <;> first | rfl | simp at hb
      · intro b hb; cases b <;> first | rfl | simp at hb
    · intro b hb; cases b <;> first | rfl | simp at hb

/-! ## The changer -/

theorem State.markEntry_frame (st : EntryState) (s : State) : s.onlyChanges [.changer] (s.markEntry st) := by
  unfold State.markEntry
  split <;> (intro b hb; cases b <;> first | rfl | simp at hb)

theorem State.enterLost_frame (s : State) : s.onlyChanges [.changer, .arb] s.enterLost := by
  intro b hb; cases b <;> first | rfl | simp at hb

theorem State.countChange_frame (o : ChangeOutcome) (r : ChangeRecord) (s : State) :
    s.onlyChanges [.usage, .link] (s.countChange o r) :=
  (s.gainCounterIf_frame _ _).trans (State.gainCounterIf_frame _ _ _)

theorem State.putChanger_frame (c : Changer) (s : State) : s.onlyChanges [.changer] (s.putChanger c) := by
  intro b hb; cases b <;> first | rfl | simp at hb

theorem State.endChange_frame (o : ChangeOutcome) (after : ChangerState) (count : Bool) (s : State) :
    s.onlyChanges [.changer, .arb, .fade, .usage, .link] (s.endChange o after count) := by
  unfold State.endChange
  split
  · exact .refl _ _
  · rename_i r _
    dsimp only
    refine State.onlyChanges.andThen (as := [.changer, .arb, .usage, .link]) ?_ (State.fadeChangeEnd_frame _ _ _ _)
      (by decide) (by decide)
    have h1 : ∀ u : State, s.onlyChanges [.changer, .arb, .usage, .link] u →
        s.onlyChanges [.changer, .arb, .usage, .link] (match r.request with
          | none => u
          | some q => u.completeRequest q o (if after = .lost then none else s.changer.position)) := by
      intro u hu
      split
      · exact hu
      · exact hu.andThen (State.completeRequest_frame _ _ _ _) (by decide) (by decide)
    refine h1 _ ?_
    have h2 : s.onlyChanges [.usage, .link] (if count = true ∧ r.request.isSome = true then s.countChange o r else s) := by
      split
      · exact s.countChange_frame o r
      · exact .refl _ _
    split
    · exact h2.andThen (State.enterLost_frame _) (by decide) (by decide)
    · exact h2.andThen (State.putChanger_frame _ _) (by decide) (by decide)

theorem State.abortToLost_frame (count : Bool) (s : State) :
    s.onlyChanges [.changer, .arb, .fade, .usage, .link] (s.abortToLost count) := by
  unfold State.abortToLost
  split
  · exact s.enterLost_frame.andThen (State.takePendings_frame _) (by decide) (by decide)
  · exact s.endChange_frame _ _ _

theorem State.jamCleared_frame (s : State) : s.onlyChanges [.changer, .arb, .fade] s.jamCleared := by
  unfold State.jamCleared
  split
  · exact s.enterLost_frame.andThen (State.takePendings_frame _) (by decide) (by decide)
  · exact s.enterLost_frame.andThen (State.takePendings_frame _) (by decide) (by decide)
  · exact .refl _ _
  · exact (s.putChanger_frame _).mono (by decide)

theorem State.enterSettle_frame (o : ChangeOutcome) (s : State) : s.onlyChanges [.changer] (s.enterSettle o) :=
  s.putChanger_frame _

theorem State.enterDrop_frame (s : State) : s.onlyChanges [.changer] s.enterDrop := s.putChanger_frame _

theorem State.arrive_frame (o : ChangeOutcome) (s : State) : s.onlyChanges [.changer] (s.arrive o) := by
  unfold State.arrive; split
  · exact s.enterSettle_frame o
  · exact s.enterDrop_frame

theorem State.startRotate_frame (r : ChangeRecord) (p q : Nat) (s : State) :
    s.onlyChanges [.changer] (s.startRotate r p q) := s.putChanger_frame _

theorem State.liftDone_frame (s : State) : s.onlyChanges [.changer] s.liftDone := by
  unfold State.liftDone
  (repeat' split) <;> first
    | exact .refl _ _ | exact s.enterSettle_frame _ | exact s.startRotate_frame _ _ _

theorem State.startLift_frame (s : State) : s.onlyChanges [.changer] s.startLift := by
  unfold State.startLift
  split
  · exact s.putChanger_frame _
  · dsimp only
    have h : ∀ u : State, s.onlyChanges [.changer] u →
        s.onlyChanges [.changer] { u with changer := { u.changer with state := .lift } } := by
      intro u hu
      refine hu.trans ?_
      intro b hb; cases b <;> first | rfl | simp at hb
    refine State.onlyChanges.trans (h _ ?_) (State.liftDone_frame _)
    split
    · split
      · exact s.markEntry_frame .empty
      · exact .refl _ _
    · exact .refl _ _

theorem State.startReturn_frame (r : ChangeRecord) (s : State) : s.onlyChanges [.changer] (s.startReturn r) := by
  unfold State.startReturn
  dsimp only; split
  · exact (s.putChanger_frame _).trans (State.arrive_frame _ _)
  · exact s.putChanger_frame _

theorem State.fixTarget_frame (q : Request) (popped : Option Nat) (p : Nat) (s : State) :
    s.onlyChanges [.usage, .link] (s.fixTarget q popped p).1 := by
  unfold State.fixTarget
  dsimp only
  split
  · exact .refl _ _
  · split
    · exact .refl _ _
    · split <;> exact (s.gainCounter_frame _).andThen (State.raiseFlag_frame _ _) (by decide) (by decide)

theorem State.homingSuccess_frame (s : State) :
    s.onlyChanges [.changer, .arb, .fade, .usage, .link] s.homingSuccess := by
  unfold State.homingSuccess
  split
  · exact .refl _ _
  · rename_i r _
    dsimp only
    split
    · exact (s.putChanger_frame _).andThen (State.endChange_frame _ _ _ _) (by decide) (by decide)
    · have h : ∀ (u : State) (q : Request) (f : State → Changer), s.onlyChanges [.changer] u →
          s.onlyChanges [.changer, .arb, .fade, .usage, .link]
            (((u.fixTarget q r.popped 0).1.putChanger (f (u.fixTarget q r.popped 0).1)).liftDone) := fun u q f hu =>
        ((hu.andThen (u.fixTarget_frame q r.popped 0) (cs := [.changer, .usage, .link]) (by decide) (by decide)).andThen
          ((State.putChanger_frame _ _).trans (State.liftDone_frame _)) (cs := [.changer, .arb, .fade, .usage, .link])
          (by decide) (by decide))
      exact h _ _ (fun _ => _) (s.putChanger_frame _)

theorem State.homingSearch_frame (s : State) :
    s.onlyChanges [.changer, .arb, .fade, .usage, .link] s.homingSearch := by
  unfold State.homingSearch; split
  · exact s.homingSuccess_frame
  · exact (s.putChanger_frame _).mono (by decide)

theorem State.startHoming_frame (s : State) :
    s.onlyChanges [.changer, .arb, .fade, .usage, .link] s.startHoming := by
  unfold State.startHoming
  dsimp only; split
  · exact ((s.putChanger_frame _).trans (State.putChanger_frame _ _)).mono (by decide)
  · exact (s.putChanger_frame _).andThen (State.homingSearch_frame _) (by decide) (by decide)

theorem State.homeWithoutRequest_frame (s : State) :
    s.onlyChanges [.changer, .arb, .fade, .usage, .link] s.homeWithoutRequest := by
  unfold State.homeWithoutRequest
  refine State.onlyChanges.andThen (as := [.changer, .arb]) ?_ (State.startHoming_frame _) (by decide) (by decide)
  intro b hb; cases b <;> first | rfl | simp at hb

theorem State.leaveDipping_frame (s : State) :
    s.onlyChanges [.changer, .arb, .fade, .usage, .link] s.leaveDipping := by
  unfold State.leaveDipping; split
  · exact s.startHoming_frame
  · exact s.startLift_frame.mono (by decide)

theorem State.firstStage_frame (q : Request) (s : State) :
    s.onlyChanges [.changer, .arb, .fade, .usage, .link] (s.firstStage q) := by
  have ho : s.onlyChanges [.fade] s.openWatch := by intro b hb; cases b <;> first | rfl | simp at hb
  unfold State.firstStage
  dsimp only; split
  · have hd : s.onlyChanges [.changer, .fade]
        { s.openWatch.takeDip with changer := { s.openWatch.changer with state := .dipping } } := by
      intro b hb; cases b <;> first | rfl | simp at hb
    split
    · exact hd.andThen (State.leaveDipping_frame _) (by decide) (by decide)
    · exact hd.mono (by decide)
  · exact ho.andThen (State.leaveDipping_frame _) (by decide) (by decide)

theorem State.pushOrigin_frame (q : Request) (s : State) : s.onlyChanges [.arb] (s.pushOrigin q) := by
  unfold State.pushOrigin
  (repeat' split) <;> first | exact .refl _ _ | (intro b hb; cases b <;> first | rfl | simp at hb)

theorem State.decideGrant_frame (q : Request) (popped : Option Nat) (s : State) :
    s.onlyChanges [.changer, .arb, .fade, .usage, .link] (s.decideGrant q popped) := by
  have he : ∀ (r : Request) (o : ChangeOutcome) (u : State), u.onlyChanges [.arb, .link] (u.endAtGrant r o) :=
    fun r o u => u.completeRequest_frame r o _
  unfold State.decideGrant
  split
  · exact (s.pushOrigin_frame q).andThen (he _ _ _) (by decide) (by decide)
  split
  · exact (he _ _ _).mono (by decide)
  split
  · exact (he _ _ _).mono (by decide)
  split
  · exact (s.putChanger_frame _).andThen (State.firstStage_frame _ _) (by decide) (by decide)
  · rename_i p _
    dsimp only
    split
    · exact (s.fixTarget_frame _ _ _).andThen (he _ _ _) (by decide) (by decide)
    · refine (s.fixTarget_frame q popped p).andThen (bs := [.changer, .arb, .fade, .usage, .link]) ?_ (by decide) (by decide)
      exact ((State.pushOrigin_frame _ _).andThen (State.putChanger_frame _ _) (cs := [.changer, .arb]) (by decide)
        (by decide)).andThen (State.firstStage_frame _ _) (by decide) (by decide)

theorem State.takeHead_frame (src : Source) (q : Request) (rest : List Request) (s : State) :
    s.onlyChanges [.arb] (s.takeHead src q rest) := by
  intro b hb; cases b <;> first | rfl | simp at hb

theorem State.grantHead_frame (src : Source) (q : Request) (rest : List Request) (s : State) :
    s.onlyChanges [.changer, .arb, .fade, .usage, .link, .cue, .tape, .dec] (s.grantHead src q rest) := by
  unfold State.grantHead
  dsimp only
  refine State.onlyChanges.andThen (as := [.arb, .cue, .tape, .dec]) ?_ (State.decideGrant_frame _ _ _)
    (by decide) (by decide)
  split
  · exact (s.takeHead_frame src q rest).andThen (State.reportCue_frame _) (by decide) (by decide)
  · exact (s.takeHead_frame src q rest).mono (by decide)

/-! ## Protection -/

theorem State.recordRaise_frame (c : Cause) (s : State) : s.onlyChanges [.prot, .link] (s.recordRaise c) := by
  intro b hb; cases b <;> first | rfl | simp at hb

theorem State.crossToSafe_frame (s : State) : s.onlyChanges [.arb, .link, .cue, .tape, .dec] s.crossToSafe := by
  unfold State.crossToSafe
  refine State.onlyChanges.andThen (as := [.arb, .link, .cue, .tape, .dec]) ?_ (State.addReason_frame _ _)
    (by decide) (by decide)
  refine State.onlyChanges.andThen (as := [.cue]) ?_ (State.flushAll_frame _) (by decide) (by decide)
  intro b hb; cases b <;> first | rfl | simp at hb

theorem State.crossToLockout_frame (s : State) : s.onlyChanges [.tape, .dec, .panel] s.crossToLockout := by
  unfold State.crossToLockout
  have h : (s.stopTape .lockout).onlyChanges [.panel] (s.stopTape .lockout).lockKeys := by
    intro b hb; cases b <;> first | rfl | simp at hb
  exact (s.stopTape_frame _).andThen h (by decide) (by decide)

theorem State.handPL_frame (old : Nat) (s : State) :
    s.onlyChanges [.arb, .link, .cue, .tape, .dec, .panel] (s.handPL old) := by
  have h1 : s.onlyChanges [.arb, .link, .cue, .tape, .dec]
      (if old < 2 ∧ 2 ≤ s.prot.pl then s.crossToSafe
       else if 2 ≤ old ∧ s.prot.pl < 2 then s.removeReason .safe else s) := by
    split
    · exact s.crossToSafe_frame
    · split
      · exact (s.removeReason_frame _).mono (by decide)
      · exact .refl _ _
  unfold State.handPL
  dsimp only
  split
  · exact h1.andThen (State.crossToLockout_frame _) (by decide) (by decide)
  · exact h1.mono (by decide)

theorem State.raise_frame (c : Cause) (s : State) :
    s.onlyChanges [.prot, .arb, .link, .cue, .tape, .dec, .panel] (s.raise c) :=
  (s.recordRaise_frame c).andThen (State.handPL_frame _ _) (by decide) (by decide)

theorem State.liveActive_frame (c : Cause) (s : State) :
    s.onlyChanges [.prot, .arb, .link, .cue, .tape, .dec, .panel] (s.liveActive c) := by
  unfold State.liveActive
  split
  · exact .refl _ _
  · have h : s.onlyChanges [.prot] { s with prot := { s.prot with active := s.prot.active.put c true } } := by
      intro b hb; cases b <;> first | rfl | simp at hb
    dsimp only; split
    · exact h.mono (by decide)
    · exact h.andThen (State.raise_frame _ _) (by decide) (by decide)

theorem State.liveInactive_frame (c : Cause) (s : State) : s.onlyChanges [.prot] (s.liveInactive c) := by
  intro b hb; cases b <;> first | rfl | simp at hb

theorem State.liveChange_frame (c : Cause) (old new : Bool) (s : State) :
    s.onlyChanges [.prot, .arb, .link, .cue, .tape, .dec, .panel] (s.liveChange c old new) := by
  unfold State.liveChange
  split
  · exact .refl _ _
  · split
    · exact s.liveActive_frame c
    · exact (s.liveInactive_frame c).mono (by decide)

theorem State.reraise_frame (s : State) : s.onlyChanges [.prot, .link] s.reraise := by
  have h : ∀ (l : List Cause) (u : State), u.onlyChanges [.prot, .link] (l.foldl
      (fun t c => if t.prot.active.get c ∧ stacked c t.prot.stack = false then t.recordRaise c else t) u) := by
    intro l
    induction l with
    | nil => intro u; exact .refl _ _
    | cons c l ih =>
      intro u
      refine State.onlyChanges.trans (t := _) ?_ (ih _)
      dsimp only
      split
      · exact u.recordRaise_frame c
      · exact .refl _ _
  exact h _ _

theorem State.tellJamCleared_frame (c : Cause) (s : State) :
    s.onlyChanges [.changer, .arb, .fade] (s.tellJamCleared c) := by
  have h1 : s.onlyChanges [.changer, .arb, .fade] (if c = .trayJam ∨ c = .gateJam then s.jamCleared else s) := by
    split
    · exact s.jamCleared_frame
    · exact .refl _ _
  unfold State.tellJamCleared
  dsimp only
  generalize (if c = .trayJam ∨ c = .gateJam then s.jamCleared else s) = u at h1 ⊢
  split
  · exact (h1.andThen u.enterLost_frame (cs := [.changer, .arb, .fade]) (by decide) (by decide)).andThen
      (State.takePendings_frame _) (by decide) (by decide)
  · exact h1

theorem State.clearFault_frame (s : State) :
    s.onlyChanges [.prot, .arb, .link, .cue, .tape, .dec, .panel, .changer, .fade] s.clearFault.1 := by
  unfold State.clearFault
  split
  · exact .refl _ _
  · split
    · exact .refl _ _
    · dsimp only
      refine State.onlyChanges.andThen (as := [.prot, .arb, .link, .cue, .tape, .dec, .panel]) ?_
        (State.tellJamCleared_frame _ _) (by decide) (by decide)
      refine State.onlyChanges.andThen (as := [.prot, .link]) ?_ (State.handPL_frame _ _) (by decide) (by decide)
      refine State.onlyChanges.andThen (as := [.prot]) ?_ (State.reraise_frame _) (by decide) (by decide)
      intro b hb; cases b <;> first | rfl | simp at hb

theorem State.failHoming_frame (c : Cause) (s : State) :
    s.onlyChanges [.changer, .arb, .fade, .usage, .link, .prot, .cue, .tape, .dec, .panel] (s.failHoming c) :=
  (s.endChange_frame _ _ _).andThen (State.raise_frame _ _) (by decide) (by decide)

/-! ## What follows at once -/

theorem State.driveChanged_frame (d : Nat) (s : State) : s.onlyChanges [.cool, .lamp, .store] (s.driveChanged d) := by
  unfold State.driveChanged
  split
  · refine State.onlyChanges.andThen (as := [.cool, .lamp]) ?_ (State.requestCounterSave_frame _) (by decide) (by decide)
    intro b hb; cases b <;> first | rfl | simp at hb
  · split <;> (intro b hb; cases b <;> first | rfl | simp at hb)

theorem State.offChanged_frame (c : Bool) (s : State) : s.onlyChanges [.cool] (s.offChanged c) := by
  unfold State.offChanged
  split <;> (intro b hb; cases b <;> first | rfl | simp at hb)

theorem State.dutyChanged_frame (d : Nat) (s : State) : s.onlyChanges [.cool, .prot] (s.dutyChanged d) := by
  unfold State.dutyChanged
  (repeat' split) <;> (intro b hb; cases b <;> first | rfl | simp at hb)

theorem State.settleFrom_frame (before after : State) :
    after.onlyChanges [.cool, .lamp, .store, .prot, .link] (before.settleFrom after) := by
  unfold State.settleFrom State.lifeChanged
  refine State.onlyChanges.andThen (as := [.cool, .lamp, .store, .prot]) ?_ (State.raiseFlagIf_frame _ _ _)
    (by decide) (by decide)
  refine State.onlyChanges.andThen (as := [.cool, .lamp, .store]) ?_ (State.dutyChanged_frame _ _) (by decide) (by decide)
  exact (State.driveChanged_frame _ _).andThen (State.offChanged_frame _ _) (by decide) (by decide)

theorem State.enterStandby_frame (s : State) :
    s.onlyChanges [.cool, .lamp, .tape, .dec, .arb, .cue] s.enterStandby := by
  have h1 : s.onlyChanges [.cool, .lamp, .tape, .dec]
      (({ s with cool := { s.cool with power := .coolingDown } }.writeSwitch .off).stopTape .standby) := by
    refine State.onlyChanges.andThen (as := [.cool, .lamp]) ?_ (State.stopTape_frame _ _) (by decide) (by decide)
    intro b hb; cases b <;> first | rfl | simp at hb
  unfold State.enterStandby
  dsimp only; split
  · exact h1.andThen (State.offered_frame _ _) (by decide) (by decide)
  · exact h1.mono (by decide)

theorem State.powerAsked_frame (on : Option Bool) (s : State) :
    s.onlyChanges [.cool, .lamp, .tape, .dec, .arb, .cue] (s.powerAsked on) := by
  unfold State.powerAsked
  (repeat' split) <;> first
    | exact .refl _ _ | exact s.enterStandby_frame | (intro b hb; cases b <;> first | rfl | simp at hb)

end Sys2Proof.Machine
end

