-- ==== Sys2Proof/Laws/Ops.lean ====
section
/-! SUPPORT. What the shared operations do, each said once: taking a link command, what follows from the derived
quantities, the ring, the preferred source, the completion list, the fault stack, and the link reset. -/

namespace Sys2Proof.Machine

/-! ## What follows from the derived quantities -/

/-- Nothing follows where the four derived quantities read as before. -/
theorem State.settleFrom_quiet (s t : State) (hd : t.drive = s.drive) (ho : t.offReady = s.offReady)
    (hu : t.duty = s.duty) (hl : t.lifeMark = s.lifeMark) : s.settleFrom t = t := by
  have h1 : t.driveChanged s.drive = t := by
    unfold State.driveChanged; rw [hd]
    split
    · omega
    · split
      · omega
      · rfl
  have h2 : t.offChanged s.offReady = t := by
    unfold State.offChanged; rw [ho]; split
    · next h => simp [h.2] at h
    · rfl
  have h3 : t.dutyChanged s.duty = t := by
    unfold State.dutyChanged; rw [hu]; split
    · rfl
    · split
      · omega
      · split
        · omega
        · rfl
  have h4 : t.lifeChanged s.lifeMark = t := by
    unfold State.lifeChanged State.raiseFlagIf; rw [hl]; cases s.lifeMark <;> rfl
  unfold State.settleFrom
  rw [h1, h2, h3, h4]

@[simp] theorem State.settleFrom_self (s : State) : s.settleFrom s = s := s.settleFrom_quiet s rfl rfl rfl rfl

/-! ## Taking a link command -/

theorem State.endFrame_heardMaster_closed (s : State) :
    { s.endFrame.heardMaster with link := { s.endFrame.heardMaster.link with seq := none } } = s.framed := by
  unfold State.heardMaster State.framed State.endFrame secs
  cases h : s.link.showMode <;> simp [h, Nat.mul_comm]

/-- A frame that the receiver takes: its tests, its effects, what follows from them, and its reply. -/
theorem linkCommand_takes (code len : Nat) (h : Header) (args : List Byte) (body : State → Answer) (s : State)
    (ht : s.takes h) (hb : h.addr ≠ 31#5 ∨ givesUpState code = false) :
    linkCommand code len h args body s = .next
      (State.replied h (commandTests code len args body s.framed).code (commandTests code len args body s.framed).data
        (s.framed.settleFrom (commandTests code len args body s.framed).st)) := by
  obtain ⟨hr, ha⟩ := ht
  have hon : s.receiverOn = true := by simp [State.receiverOn, hr]
  unfold linkCommand State.commandFrame
  rw [if_pos hon]
  by_cases hall : h.addr = 31#5
  · have hk : s.frameKind h = .broadcast := by simp [State.frameKind, hall]
    have hg : givesUpState code = false := by
      rcases hb with hb | hb
      · exact absurd hall hb
      · exact hb
    rw [hk]
    simp only [State.takeOwn, hg, Bool.false_eq_true, and_false, if_false, State.endFrame_heardMaster_closed]
    simp [Answer.send, State.replied, hall]
  · have hs : h.addr = s.link.strap := ha.resolve_left hall
    have hn : s.link.strap ≠ 31#5 := hs ▸ hall
    have hk : s.frameKind h = .own := by simp [State.frameKind, hs, hn]
    rw [hk]
    simp only [State.takeOwn, reduceCtorEq, false_and, if_false, State.endFrame_heardMaster_closed]
    by_cases hrep : h.reply = true <;> simp [Answer.send, State.replied, hall, hrep]

/-! ## The ring and steps (R1, R11) -/

theorem ringStep_le (d : Direction) (t p : Nat) (h : p ≤ t) : ringStep d t p ≤ t := by
  cases d <;> simp only [ringStep] <;> split <;> omega

theorem walkRing_le (eligible : Nat → Bool) (d : Direction) (t n p : Nat) (h : p ≤ t) : walkRing eligible d t n p ≤ t := by
  induction n generalizing p with
  | zero => exact h
  | succ n ih =>
    simp only [walkRing]
    split
    · exact ringStep_le d t p h
    · exact ih _ (ringStep_le d t p h)

theorem State.stepTarget_le (d : Direction) (p : Nat) (s : State) (h : p ≤ s.items.traySize) :
    s.stepTarget d p ≤ s.items.traySize := by
  unfold State.stepTarget
  split
  · exact walkRing_le _ _ _ _ _ h
  · exact ringStep_le _ _ _ h

/-! ## The preferred source (R28) -/

/-- The best source stands in the list and no other of the list has a lower priority number. -/
theorem bestSource_spec (p : Priorities) (l : List Source) (src : Source) (h : bestSource p l = some src) :
    src ∈ l ∧ ∀ x ∈ l, p.get src ≤ p.get x := by
  induction l generalizing src with
  | nil => cases h
  | cons a rest ih =>
    simp only [bestSource] at h
    cases hr : bestSource p rest with
    | none =>
      rw [hr] at h
      cases h
      have hnil : rest = [] := by
        cases rest with
        | nil => rfl
        | cons b r => simp only [bestSource] at hr; split at hr <;> (try split at hr) <;> cases hr
      subst hnil
      simp
    | some other =>
      rw [hr] at h
      obtain ⟨hm, hle⟩ := ih other hr
      dsimp only at h
      split at h <;> next hc =>
        cases h
        first
        | exact ⟨List.mem_cons_self, fun x hx => (List.mem_cons.mp hx).elim (fun e => e ▸ Nat.le_refl _)
            (fun hx => Nat.le_trans hc (hle x hx))⟩
        | exact ⟨List.mem_cons_of_mem _ hm, fun x hx => (List.mem_cons.mp hx).elim (fun e => e ▸ by omega) (hle x)⟩

/-! ## The completion list (R40) -/

/-- One addition: the entry at the end, the oldest gone where there were 8, COMPLETION raised. -/
theorem State.addCompletion_spec (c : Completion) (s : State) :
    (s.addCompletion c).arb.completions = lastEight (s.arb.completions ++ [c])
      ∧ (s.addCompletion c).link.flags.completion = true
      ∧ (s.addCompletion c).arb.queues = s.arb.queues ∧ (s.addCompletion c).arb.stack = s.arb.stack := ⟨rfl, rfl, rfl, rfl⟩

/-! ## The raise (R143, R146) -/

/-- What the Protect Unit records of a raise, before PL is handed on. -/
theorem State.recordRaise_spec (c : Cause) (s : State) :
    let level := min 3 (max (s.prot.pl + 1) c.minLevel)
    (s.recordRaise c).prot.pl = (if s.prot.pl < 3 then level else s.prot.pl)
      ∧ (s.recordRaise c).prot.stack = (if s.prot.pl < 3 then ⟨c, level, s.usage.uptime⟩ :: s.prot.stack else s.prot.stack)
      ∧ (s.recordRaise c).prot.active = s.prot.active ∧ (s.recordRaise c).link.flags.fault = true := by
  refine ⟨?_, ?_, rfl, rfl⟩ <;> by_cases h : s.prot.pl < 3 <;> simp [State.recordRaise, Protect.record, raisedLevel, h]

/-- Handing PL on changes no protection record. -/
theorem State.handPL_prot (old : Nat) (s : State) : (s.handPL old).prot = s.prot := State.handPL_frame old s .prot (by decide)

/-- A raise leaves what the Protect Unit recorded. -/
theorem State.raise_prot (c : Cause) (s : State) : (s.raise c).prot = (s.recordRaise c).prot :=
  State.handPL_prot _ _

/-! ## Taking a fade (R43) -/

/-- A fade over no time is STEADY at its level, any other ramps from the present level. -/
theorem FadeChannel.rampTo_spec (now l t : Nat) (c : FadeChannel) :
    (c.rampTo now l t).target = l ∧ (c.rampTo now l t).start = c.level ∧ (c.rampTo now l t).count = 0
      ∧ (c.rampTo now l t).steps = 10 * t ∧ (c.rampTo now l t).pending = c.pending
      ∧ (if t = 0 then (c.rampTo now l t).level = l ∧ (c.rampTo now l t).state = .steady
        else (c.rampTo now l t).level = c.level ∧ (c.rampTo now l t).state = .ramping) := by
  by_cases h : t = 0
  · subst h; simp [FadeChannel.rampTo]
  · have h' : 10 * t ≠ 0 := by omega
    simp [FadeChannel.rampTo, h, h']

/-! ## Handset frames and the scan pass (R57, R157) -/

/-- A frame that fails the complement check drops the bits gathered and does nothing else. -/
theorem State.handsetFrame_invalid {bits : BitVec 8} (h : frameComplement bits = false) (s : State) :
    s.handsetFrame bits = { s with panel := { s.panel with handsetBits := none } } := by
  simp [State.handsetFrame, h]

/-- A valid frame is a key's, or releases the held key. -/
theorem State.handsetFrame_valid {bits : BitVec 8} (h : frameComplement bits = true) (s : State) :
    (∃ k, HandsetKey.ofCode (bits.toNat / 16) = some k ∧ s.handsetFrame bits = s.handsetKey k)
      ∨ (HandsetKey.ofCode (bits.toNat / 16) = none ∧ s.handsetFrame bits = s.handsetIdle) := by
  unfold State.handsetFrame
  rw [if_pos h]
  split
  · next k hk => exact .inl ⟨k, hk, rfl⟩
  · next hk => exact .inr ⟨hk, rfl⟩

/-- Before the slots are read a pass changes the failure count at most. -/
theorem State.passWithoutCurrent_cases (s : State) :
    s.passWithoutCurrent = s ∨ s.passWithoutCurrent = { s with lamp := { s.lamp with failCount := 0 } } := by
  unfold State.passWithoutCurrent
  split
  · exact .inl rfl
  · exact .inr rfl

/-! ## The link reset (R173, R186) -/

/-- The link reset keeps the model's own fields. -/
theorem State.linkReset_own (pins : Pins) (s : State) :
    (s.linkReset pins).clock = s.clock ∧ (s.linkReset pins).freeCount = s.freeCount
      ∧ (s.linkReset pins).pending = s.pending := by
  have h : ∀ u : State, u.autoHome.clock = u.clock ∧ u.autoHome.freeCount = u.freeCount
      ∧ u.autoHome.pending = u.pending := by
    intro u
    unfold State.autoHome
    split
    · have f := u.homeWithoutRequest_frame
      exact ⟨f .clock (by decide), f .freeCount (by decide), f .pending (by decide)⟩
    · exact ⟨rfl, rfl, rfl⟩
  exact h _

/-- A reset that waits is made when nothing holds it up, and nothing happens otherwise. -/
theorem State.makeDueReset_cases (s : State) :
    (s.makeDueReset = s ∧ (s.link.resetPins = none ∨ s.resetHeldUp = true))
      ∨ ∃ pins, s.link.resetPins = some pins ∧ s.resetHeldUp = false ∧ s.makeDueReset = s.linkReset pins := by
  unfold State.makeDueReset
  split
  · next h => exact .inl ⟨rfl, .inl h⟩
  · next pins h =>
    cases hu : s.resetHeldUp
    · exact .inr ⟨pins, h, rfl, rfl⟩
    · exact .inl ⟨rfl, .inr rfl⟩

end Sys2Proof.Machine
end

