-- ==== Sys2Proof/Tests/Slice0.lean ====
section
/-! SUPPORT. The model's own tests: ill-formed commands that the check refuses, one step of every command against the
manual's tables and worked sequences, and a witness for the hypotheses of every statement. -/

namespace Sys2Proof.Tests

open Sys2Proof Sys2Proof.Machine

/-! ## Helpers -/

/-- The state after a command. -/
def run (c : Instr) (s : State) : State :=
  match exec c s with
  | .next t => t
  | _ => s

def own : Header := ⟨0#5, 0#2, false⟩
def ownReply : Header := ⟨0#5, 0#2, true⟩
def all : Header := ⟨31#5, 0#2, false⟩
def foreign : Header := ⟨7#5, 1#2, false⟩
def clear : Sense := ⟨false, false⟩
def slideIn : Sense := ⟨true, false⟩
def noKeys : PanelInputs := ⟨false, false, false, false, false, false, false⟩
def pins : Pins := ⟨3#5, true, false, false, false, noKeys, ⟨false, true⟩⟩

/-- T = 96, a tray present, IDLE at a position, the housing at 30.0 °C. -/
def idleAt (p : Nat) : State :=
  { State.reset with
    changer := { State.reset.changer with state := .idle, trayPresent := true, position := some p }
    cool := { State.reset.cool with th := some 300 } }

/-- LOST with a tray present. -/
def lostState : State := { idleAt 0 with changer := { (idleAt 0).changer with state := .lost, position := none } }

def linkRequestOf (kind : ReqKind) (target : Option Nat) : Request :=
  { plainRequest kind .link with target := target, tag := some 9#8, noDip := true }

def queued (src : Source) (l : List Request) (s : State) : State := s.putQueue src l

/-- A change in flight in a stage. -/
def flying (st : ChangerState) (p : Option Nat) (r : ChangeRecord) (s : State) : State :=
  { s with changer := { s.changer with state := st, position := p, record := some r, stageDue := some 1000 } }

/-- The record of a LINK GOTO from 12 to 15. -/
def goto15 : ChangeRecord :=
  { grantRecord (linkRequestOf .goto (some 15)) (some 12) (some 15) none with direction := some .forward, planned := 3 }

/-- A homing without a request. -/
def search : ChangeRecord := newRecord none none none none

def atPL (n : Nat) (c : Cause) (s : State) : State :=
  { s with prot := { s.prot with pl := n, stack := if n = 0 then [] else [⟨c, n, 0⟩] } }

def lampAt (l : Nat) (s : State) : State :=
  { s with lamp := { s.lamp with switch := .full }, fade := { s.fade with lamp := steadyChannel l } }

def ramping (l0 l1 n k : Nat) : FadeChannel := ⟨l0, l1, l0, n, k, .ramping, none, some 10000⟩

def deckIn (st : TransportState) (s : State) : State :=
  { s with tape := { s.tape with state := st, cassette := true, tachDue := some 1000000 } }

def mapOf (l : List CueEntry) (s : State) : State := { s with cue := { s.cue with entries := l } }

def trackerA (t : Tracker) (s : State) : State := { s with dec := { s.dec with trackers := { s.dec.trackers with a := t } } }

/-- The cue gate open: no slot holds CUE-LEVEL. -/
def noSlots (s : State) : State := { s with scan := { s.scan with slots := [] } }

/-- One slot alone enabled. -/
def oneSlot (sl : ScanSlot) (s : State) : State :=
  { s with scan := { s.scan with slots := sl :: List.replicate 7 (slotAfterReset ⟨5, false, 0, 0, 4095, .none⟩) } }

def raw8 (v : BitVec 12) : List (BitVec 12) := [v, 0#12, 0#12, 0#12, 0#12, 0#12, 0#12, 0#12]

/-- A failed lamp switched OFF, with the mark of R58 or without. -/
def failedLamp (cycled : Bool) : State :=
  { idleAt 0 with lamp := { State.reset.lamp with failed := true, cycled := cycled } }

/-- The supply-fail warning stands. -/
def warned (s : State) : State := { s with cool := { s.cool with warning := true } }

/-- RESET-PART was taken. -/
def dueReset (s : State) : State := { s with link := { s.link with resetDue := true } }

/-- COOLING-DOWN since time 0 at a housing temperature. -/
def cooling (th : Nat) : State :=
  { idleAt 0 with cool := { (idleAt 0).cool with darkStart := some 0, power := .coolingDown, th := some th } }

/-- A change in SETTLE at 15 with a watch, and a lamp preset of 444 at slot 15. -/
def watched (w : Watch) (found : Bool) : State :=
  let s := flying .settle (some 15) { goto15 with outcome := some .done, found := found } (idleAt 15)
  { s with
    fade := { s.fade with watch := some w }
    changer := { s.changer with map := s.changer.map.modify 14 (fun e => { e with lampPreset := some 444 }) } }

def saving (s : State) : State :=
  { s with store := { s.store with saving := some unwrittenImage, saveDue := some 30000 } }

/-! ## Ill-formed commands -/

theorem wf_smoke_arguments : (Instr.mark own (List.replicate 9 0#8)).wf = false := by decide
theorem wf_smoke_unknown_code : (Instr.unknownCommand own 33#6 []).wf = false := by decide
theorem wf_smoke_unknown_arguments : (Instr.unknownCommand own 34#6 (List.replicate 9 0#8)).wf = false := by decide
theorem wf_smoke_partner : (Instr.partnerFrame own false 7#6 (List.replicate 9 0#8)).wf = false := by decide
theorem wf_smoke_continuation : (Instr.continuationFrame own 25#6 (List.replicate 9 0#8)).wf = false := by decide
theorem wf_smoke_scan : (Instr.scanPass [0#12]).wf = false := by decide
theorem wf_smoke_gap_start : (Instr.frameGapDiscard [0x00#8]).wf = false := by decide
theorem wf_smoke_gap_length : (Instr.frameGapDiscard (0xD3#8 :: List.replicate 12 0#8)).wf = false := by decide
theorem wf_smoke_stop_bit : (Instr.byteWithNoStopBit [0x00#8]).wf = false := by decide
theorem wf_smoke_length_byte : (Instr.lengthByteAbove8 [0xD3#8, 0#8, 0#8] 8#8).wf = false := by decide
theorem wf_smoke_length_place : (Instr.lengthByteAbove8 [0xD3#8, 0#8] 9#8).wf = false := by decide
theorem wf_smoke_frame : (Instr.frameDiscarded [0xD3#8, 0#8]).wf = false := by decide
theorem wf_smoke_idle_code : (Instr.remoteIdleFrame 8#4).wf = false := by decide
theorem wf_smoke_accepts : (Instr.remoteIdleFrame 15#4).wf = true ∧ (Instr.mark own []).wf = true := by decide

/-! ## One step of every command: the changer (sections 1.4 to 1.9) -/

/-- R18, R22: the mark active at the start gives position 0 at once. -/
theorem test_powerOnReset : (run (.powerOnReset pins) (idleAt 7)).changer.position = some 0 := by decide
theorem test_resetPart : (run (.resetPart ownReply []) (idleAt 7)).link.resetDue = true := by decide
/-- R173: a command that asks for no reply begins the reset at once. -/
theorem test_resetPart_no_reply : (run (.resetPart own []) (idleAt 7)).changer.state = .homing := by decide
/-- R186: the strap is not read again at a link reset. -/
theorem test_linkReset : (run (.linkReset pins) (dueReset (idleAt 7))).link.strap = 0#5
    ∧ (run (.linkReset pins) (dueReset (idleAt 7))).changer.position = some 0 := by decide
/-- R177, R186: a reset that comes during a save is made at its end. -/
theorem test_linkReset_waits :
    let held := run (.linkReset pins) (dueReset (saving (idleAt 7)))
    held.changer.position = some 7 ∧ (run .saveComplete held).changer.position = some 0 := by decide
theorem test_mechanismRestart_off : run (.mechanismRestart pins) (atPL 3 .trayJam (idleAt 7)) = atPL 3 .trayJam (idleAt 7) := by
  decide
theorem test_mechanismRestart :
    (run (.mechanismRestart pins) { atPL 3 .trayJam (idleAt 7) with items := { factoryItems with lockoutRestart := true } }).prot.pl
      = 0 := by decide
theorem test_supplyFailWarning : (run .supplyFailWarning (idleAt 7)).changer.state = .lost := by decide
/-- R88: the power-on reset of the whole part. -/
theorem test_supplyFailCleared :
    let t := run .supplyFailCleared (warned (lampAt 500 (idleAt 7)))
    t.cool.warning = false ∧ t.changer.state = .homing ∧ t.lamp.switch = .off ∧ t.fade.lamp.level = 0 := by decide
/-- Section 1.9, Direction choices: from 90 to 5 forward 12 steps. -/
theorem test_grant : (run (.grant clear) (queued .link [linkRequestOf .goto (some 5)] (idleAt 90))).changer.record.map
    (fun r => (r.direction, r.planned)) = some (some .forward, 12) := by decide
/-- Section 1.9, Direction choices: from 0 to 96 in reverse 1 step. -/
theorem test_grant_reverse : (run (.grant clear) (queued .link [linkRequestOf .goto (some 96)] (idleAt 0))).changer.record.map
    (fun r => (r.direction, r.planned)) = some (some .reverse, 1) := by decide
/-- Section 1.9, A stall after two steps. -/
theorem test_indexPulse : (run (.indexPulse false) (flying .rotate (some 12) goto15 (idleAt 12))).changer.position = some 13 := by
  decide
theorem test_indexPulse_arrives :
    (run (.indexPulse false) (flying .rotate (some 14) { goto15 with stepsMade := 2 } (idleAt 12))).changer.state = .drop := by
  decide
theorem test_homingStepCountReached :
    (run .homingStepCountReached (flying .homing none { search with homingSteps := 98 } lostState)).prot.stack.map
      FaultEntry.cause = [.homeFail] := by decide
theorem test_rotateStepTimeout :
    (run .rotateStepTimeout (flying .rotate (some 14) { goto15 with stepsMade := 2 } (idleAt 12))).changer.state = .returning := by
  decide
theorem test_returnStepTimeout :
    (run .returnStepTimeout (flying .returning (some 14) { goto15 with stepsBack := 2 } (idleAt 12))).changer.state = .jammed := by
  decide
theorem test_homingStepTimeout : (run .homingStepTimeout (flying .homing none search lostState)).changer.state = .lost := by decide
theorem test_gateClearInLift : (run (.gateClearInLift false) (flying .lift (some 12) goto15 (idleAt 12))).changer.state = .rotate := by
  decide
theorem test_liftLimitExpiry : (run .liftLimitExpiry (flying .lift (some 12) goto15 (idleAt 12))).prot.stack.map FaultEntry.cause
    = [.gateJam] := by decide
theorem test_gateOccupiedInDrop :
    ((run .gateOccupiedInDrop (flying .drop (some 13) goto15 (idleAt 13))).changer.map[12]?).map TrayEntry.state = some .inGate := by
  decide
theorem test_dropLimitExpiry :
    ((run .dropLimitExpiry (flying .drop (some 13) goto15 (idleAt 13))).changer.map[12]?).map TrayEntry.state = some .empty := by
  decide
/-- Section 1.9: CHANGES gains 1 and the completion list receives the tag. -/
theorem test_settleExpiry :
    let t := run .settleExpiry (flying .settle (some 15) { goto15 with outcome := some .done, moved := true } (idleAt 15))
    t.usage.counters.changes.value = 1 ∧ t.arb.completions = [⟨9#8, .done, some 15⟩] := by decide
theorem test_trayRemoval : (run .trayRemoval (idleAt 7)).changer.position = none := by decide
/-- R15, R70, R72: a change ABORTED in SETTLE after its drop found a slide takes the slot's preset. -/
theorem test_trayRemoval_settle : (run .trayRemoval (watched ⟨false, none, none, none⟩ true)).fade.lamp.target = 444 := by decide
theorem test_trayInsertion :
    (run (.trayInsertion ⟨false, true⟩) { State.reset with clock := 5 }).changer.position = some 0 := by decide

/-! ## One step of every command: the arbiter (chapter 2) -/

theorem test_dwellExpiry :
    (run .dwellExpiry { idleAt 14 with arb := { (idleAt 14).arb with dwellDue := some 8000000 } }).arb.queues.dwell.length = 1 := by
  decide
theorem test_step : (run (.step own [1#8, 0#8, 5#8]) (idleAt 20)).arb.queues.link
    = [{ plainRequest .stepRev .link with tag := some 5#8 }] := by decide
/-- R25: a GOTO above T is refused BAD-SLOT (code 2). -/
theorem test_goto : ((run (.goto ownReply [97#8, 0#8, 5#8]) (idleAt 20)).link.reply[2]?) = some 2#8 := by decide
theorem test_ret : (run (.ret own [4#8, 5#8]) (idleAt 20)).arb.queues.link
    = [{ plainRequest .ret .link with tag := some 5#8, noPush := true }] := by decide
theorem test_home : (run (.home own [2#8, 5#8]) (idleAt 20)).arb.queues.link
    = [{ plainRequest .home .link with tag := some 5#8, waitFade := true }] := by decide
/-- Section 2.10, Return stack: MARK at 25. -/
theorem test_mark : (run (.mark own []) { idleAt 25 with arb := { (idleAt 25).arb with stack := [17, 3] } }).arb.stack
    = [25, 17, 3] := by decide
theorem test_flush : (run (.flush own []) (queued .link [linkRequestOf .home none] (idleAt 25))).arb.completions
    = [⟨9#8, .aborted, some 25⟩] := by decide
/-- Section 2.10, Hold across a dwell: 12.0 s running, 5.0 s later HOLD saves 7.0 s. -/
theorem test_hold :
    (run (.hold own []) { idleAt 14 with
      clock := 5000000, arb := { (idleAt 14).arb with dwellDue := some 12000000, autoMode := true } }).arb.shadow
      = some ⟨some 7000000, true⟩ := by decide
/-- Section 2.10, Hold across a dwell: RESUME restores 8.0 s. -/
theorem test_resume :
    (run (.resume own []) { idleAt 15 with
      clock := 100, arb := { (idleAt 15).arb with hold := true, shadow := some ⟨some 8000000, true⟩ } }).arb.dwellDue
      = some 8000100 := by decide
theorem test_auto : (run (.auto own [1#8]) (idleAt 14)).arb.autoMode = true := by decide
/-- Section 2.10: PRIORITY with LINK 3, CUE 3, REMOTE 1, PANEL 7, DWELL 7. -/
theorem test_priority : (run (.priority own [3#8, 3#8, 1#8, 7#8, 7#8]) (idleAt 20)).arb.priority = ⟨3, 3, 1, 7, 7⟩ := by decide
theorem test_lock : (run (.lock own [1#8]) (idleAt 20)).arb.lock = true := by decide

/-! ## One step of every command: light and heat (chapters 3 to 6) -/

/-- Section 3.11: the level at k = 17 of a fade from 200 to 850 over 0.5 s is 421. -/
theorem test_rampStep :
    (run (.rampStep .lamp clear) { idleAt 20 with fade := { State.reset.fade with lamp := ramping 200 850 50 16 } }).fade.lamp.level
      = 421 := by decide
/-- Section 3.11: 1000 to 0 over 0.3 s, k 2: 334. -/
theorem test_rampStep_falling :
    (run (.rampStep .lamp clear) { idleAt 20 with fade := { State.reset.fade with lamp := ramping 1000 0 3 1 } }).fade.lamp.level
      = 334 := by decide
/-- R49: E = 1000 raises G by 650. -/
theorem test_guardTick : (run .guardTick (lampAt 1000 (idleAt 20))).lamp.guardAcc = 650 := by decide
/-- Section 3.11: drive 421, H = 10,000 gives 6,520 µs. -/
theorem test_zeroCrossing :
    (run (.zeroCrossing 10000) { lampAt 421 (idleAt 20) with
      lamp := { (lampAt 421 (idleAt 20)).lamp with mainsNormal := true, lastCrossing := some 0 } }).lamp.firingDue
      = some 16520 := by decide
theorem test_firingPulse :
    (run .firingPulse { idleAt 20 with lamp := { State.reset.lamp with firingDue := some 6520 } }).lamp.lastPulse = some 6520 := by
  decide
theorem test_mainsSilenceExpiry :
    (run .mainsSilenceExpiry { idleAt 20 with lamp := { State.reset.lamp with mainsNormal := true, lastCrossing := some 0 } }).lamp.mainsNormal
      = false := by decide
/-- R43: a FADE to 850 over 0.5 s has N = 50. -/
theorem test_fade : (run (.fade own [0#8, 3#8, 82#8, 5#8, 0#8]) (idleAt 20)).fade.lamp.steps = 50 := by decide
theorem test_lamp : (run (.lamp own [1#8]) (idleAt 20)).lamp.switch = .eco := by decide
theorem test_lampReset :
    (run (.lampReset own []) { idleAt 20 with lamp := { State.reset.lamp with failed := true } }).lamp.failed = false := by decide
/-- R92: the HOUSING result is the raw value less the offset. -/
theorem test_scanPass : (run (.scanPass (raw8 780#12)) (idleAt 20)).cool.th = some 780 := by decide
/-- R105: the CUE-LEVEL slot's low limit is handed on with its result. -/
theorem test_scanPass_cueLevel :
    (run (.scanPass (raw8 500#12)) (oneSlot (slotAfterReset ⟨0, true, 0, 40, 950, .cueLevel⟩) (idleAt 20))).dec.levelLow = 40 := by
  decide
theorem test_cooldownMinTimeReached :
    (run .cooldownMinTimeReached { idleAt 20 with cool := { (idleAt 20).cool with darkStart := some 0 } }).cool.darkStart = none := by
  decide
theorem test_offTimeout :
    (run .offTimeout { idleAt 20 with cool := { (idleAt 20).cool with power := .off, offDue := some 9 } }).cool.power = .run := by
  decide
/-- R80: two pulses a revolution; 10 ms between pulses is 3,000 rpm. -/
theorem test_fanTachPulse :
    (run (.fanTachPulse 10000) { idleAt 20 with cool := { (idleAt 20).cool with lastTach := some 0 } }).cool.speed = some 3000 := by
  decide
theorem test_speedTimeout :
    (run .speedTimeout { idleAt 20 with cool := { (idleAt 20).cool with lastTach := some 0, speed := some 3000 } }).cool.speed = none := by
  decide
/-- R81, R143: FAN-STALL lifts PL from 0 straight to 2. -/
theorem test_stallTimerExpiry :
    (run .stallTimerExpiry { idleAt 20 with cool := { (idleAt 20).cool with th := some 800 } }).prot.pl = 2 := by decide
theorem test_standby : (run (.standby own [1#8]) (idleAt 20)).cool.power = .coolingDown := by decide

/-! ## One step of every command: tape, cues and protection (chapters 7 to 9) -/

theorem test_tapeTachPulse : (run .tapeTachPulse (deckIn .play (idleAt 20))).tape.counter = 1 := by decide
theorem test_tapeTachTimerExpiry :
    (run (.tapeTachTimerExpiry false true) (deckIn .play (idleAt 20))).tape.state = .ended := by decide
theorem test_leaderReached : (run .leaderReached (deckIn .rewind (idleAt 20))).tape.lastStop = .leader := by decide
theorem test_cassetteRemoval : (run .cassetteRemoval (deckIn .play (idleAt 20))).tape.state = .noCassette := by decide
theorem test_cassetteInsertion : (run .cassetteInsertion (idleAt 20)).tape.state = .stopped := by decide
/-- R120: a count of 50 at play speed is class A. -/
theorem test_windowClose :
    (run (.windowClose 50) (noSlots (deckIn .play (idleAt 20)))).dec.lastWindow = some ⟨50, some .a⟩ := by decide
/-- R121, R124: the third window of a class A burst is recognised and steps the tray. -/
theorem test_windowClose_steps :
    (run (.windowClose 50) (trackerA ⟨.running, 2, 40, 0, 0, false⟩ (noSlots (deckIn .play (idleAt 20))))).arb.queues.cue
      = [{ plainRequest .stepFwd .cue with cueRef := some 40 }] := by decide
theorem test_tape : (run (.tape own [0#8]) (deckIn .stopped (idleAt 20))).tape.state = .play := by decide
/-- R134: the target is the entry's position less the preroll. -/
theorem test_seekCue :
    (run (.seekCue own [1#8]) (mapOf [⟨100, .a, 0, none⟩] (deckIn .stopped (idleAt 20)))).tape.seekTarget = some 92 := by decide
theorem test_bindCue :
    (run (.bindCue own [1#8, 5#8]) (mapOf [⟨100, .a, 0, none⟩] (idleAt 20))).cue.entries = [⟨100, .a, 0, some 5⟩] := by decide
theorem test_clearMap : (run (.clearMap own []) (mapOf [⟨100, .a, 0, none⟩] (idleAt 20))).cue.entries = [] := by decide
/-- R151, R152: PL falls to the entry below. -/
theorem test_clearFault :
    (run (.clearFault own []) { idleAt 20 with
      prot := { State.reset.prot with pl := 2, stack := [⟨.gateJam, 2, 9⟩, ⟨.trayJam, 1, 5⟩] } }).prot.pl = 1 := by decide
theorem test_limitClear :
    ((run (.limitClear own [0#8]) (oneSlot { slotAfterReset ⟨0, true, 0, 0, 950, .housing⟩ with latchedHigh := true }
      (idleAt 20))).scan.slots.head?).map ScanSlot.latchedHigh = some false := by decide

/-! ## One step of every command: the handset and the panel (chapter 10) -/

theorem test_remoteFwd : (run .remoteFwd { idleAt 20 with clock := 200000 }).arb.queues.remote = [plainRequest .stepFwd .remote] := by
  decide
theorem test_remoteRev : (run .remoteRev { idleAt 20 with clock := 200000 }).arb.queues.remote = [plainRequest .stepRev .remote] := by
  decide
/-- R162: a press within 150 ms of a reset is inert. -/
theorem test_remoteFwd_inert : (run .remoteFwd (idleAt 20)).arb.queues.remote = [] := by decide
theorem test_remoteHold : (run .remoteHold { idleAt 20 with clock := 200000 }).arb.hold = true := by decide
theorem test_remoteResume :
    (run .remoteResume { run (.hold own []) (idleAt 20) with clock := 200000 }).arb.hold = false := by decide
theorem test_remoteMark : (run .remoteMark { idleAt 25 with clock := 200000 }).arb.stack = [25] := by decide
theorem test_remoteBack : (run .remoteBack { idleAt 25 with clock := 200000 }).arb.queues.remote = [plainRequest .ret .remote] := by
  decide
theorem test_remoteFocusIn : (run .remoteFocusIn { idleAt 25 with clock := 200000 }).panel.focus = .inward := by decide
theorem test_remoteFocusOut : (run .remoteFocusOut { idleAt 25 with clock := 200000 }).panel.focus = .outward := by decide
theorem test_remoteIdleFrame : (run (.remoteIdleFrame 15#4) (run .remoteFwd (idleAt 20))).panel.held = none := by decide
theorem test_remoteFrameAbandoned :
    (run (.remoteFrameAbandoned true) (idleAt 20)).panel.handsetBits = some [] := by decide
theorem test_remoteComplementFail :
    (run (.remoteComplementFail 0x1F#8) { idleAt 20 with panel := { State.reset.panel with handsetBits := some [true] } }).panel.handsetBits
      = none := by decide
/-- Section 10.1: the bits of the nine frames of the code table, in order. -/
theorem test_handsetFrame_codes :
    [0b00011110#8, 0b00101101#8, 0b00111100#8, 0b01001011#8, 0b01011010#8, 0b01101001#8, 0b01111000#8, 0b10000111#8,
        0b11110000#8].map (fun b => (frameComplement b, HandsetKey.ofCode (b.toNat / 16)))
      = [(true, some .fwd), (true, some .rev), (true, some .hold), (true, some .resume), (true, some .mark),
        (true, some .back), (true, some .focusIn), (true, some .focusOut), (true, none)] := by decide
theorem test_presenceTimeout : (run .presenceTimeout (run .remoteFwd (idleAt 20))).clock = 2000000 := by decide
theorem test_releaseTimerExpiry : (run .releaseTimerExpiry (run .remoteFwd (idleAt 20))).panel.held = none := by decide
/-- R160: the second step of a held FWD. -/
theorem test_autoStepExpiry :
    (run .autoStepExpiry (run .remoteFwd { idleAt 20 with clock := 200000 })).arb.queues.remote.length = 2 := by decide
theorem test_focusRunExpiry :
    (run .focusRunExpiry (run .remoteFocusIn { idleAt 25 with clock := 200000 })).panel.focus = .off := by decide
theorem test_panelFwd : (run .panelFwd (idleAt 20)).arb.queues.panel = [plainRequest .stepFwd .panel] := by decide
theorem test_panelRev : (run .panelRev (idleAt 20)).arb.queues.panel = [plainRequest .stepRev .panel] := by decide
theorem test_panelHome : (run .panelHome (idleAt 20)).arb.queues.panel = [plainRequest .home .panel] := by decide
theorem test_panelPower : (run .panelPower (idleAt 20)).cool.power = .coolingDown := by decide
theorem test_panelLamp : (run .panelLamp (lampAt 0 (idleAt 20))).lamp.switch = .off := by decide
/-- R58: the second press, OFF to ECO, clears FAILED. -/
theorem test_panelLamp_clears : (run .panelLamp (failedLamp true)).lamp.failed = false := by decide
theorem test_panelTape : (run .panelTape (deckIn .play (idleAt 20))).tape.lastStop = .command := by decide
theorem test_panelHoldPress : (run .panelHoldPress (idleAt 20)).panel.longDue = some 2000000 := by decide
theorem test_panelHoldRelease : (run .panelHoldRelease (run .panelHoldPress (idleAt 20))).arb.hold = true := by decide
theorem test_panelHoldLongPress :
    (run .panelHoldLongPress (run .panelHoldPress (atPL 1 .trayJam (idleAt 20)))).prot.pl = 0 := by decide
theorem test_panelKeyRelease : (run (.panelKeyRelease .fwd) (run .panelFwd (idleAt 20))).panel.keys.fwd = ⟨false, false⟩ := by
  decide
/-- R168, example: PL 0, IDLE at position 37. -/
theorem test_display : (idleAt 37).display.chars = [' ', '3', '7'] := by decide

/-! ## One step of every command: the port, the counters and the store (chapters 11 and 12) -/

theorem test_secondTick : (run .secondTick (lampAt 600 (idleAt 20))).usage.femAcc = 600 := by decide
theorem test_saveComplete : (run .saveComplete (saving (idleAt 20))).store.good = true := by decide
theorem test_frameGapDiscard : (run (.frameGapDiscard [0xD3#8]) (idleAt 20)).link.errCount = 1 := by decide
theorem test_frameDiscarded : (run (.frameDiscarded [0xD3#8, 0#8, 5#8, 0#8, 0#8]) (idleAt 20)).link.errCount = 1 := by decide
theorem test_frameDiscarded_sound : (run (.frameDiscarded [0xD3#8, 0#8, 5#8, 0#8, 0xFB#8]) (idleAt 20)).link.errCount = 0 := by
  decide
theorem test_unknownCommand : ((run (.unknownCommand ownReply 34#6 []) (idleAt 20)).link.reply[2]?) = some 11#8 := by decide
/-- R76: a complement fade to 200 is taken as 800. -/
theorem test_partnerFrame :
    (run (.partnerFrame foreign false 7#6 [0#8, 0#8, 200#8, 5#8, 0#8]) { idleAt 20 with
      link := { State.reset.link with following := true, partner := some 7 } }).fade.lamp.target = 800 := by decide
theorem test_continuationFrame : (run (.continuationFrame own 25#6 []) (idleAt 20)).link.errCount = 1 := by decide
theorem test_lawTable : ((run (.lawTable own (List.replicate 6 0#8)) (idleAt 20)).link.seq).map PendingSeq.due = some 2 := by decide
theorem test_scanSlot : ((run (.scanSlot own [5#8, 5#8, 1#8]) (idleAt 20)).link.seq).map PendingSeq.due = some 1 := by decide
/-- R100: the whole of a SCAN-SLOT sequence gives slot 5 the limits 16 and 1,000. -/
theorem test_scanSlot_whole :
    ((run (.continuationFrame own 26#6 [0#8, 0#8, 0#8, 0#8, 16#8, 3#8, 232#8, 5#8])
      (run (.scanSlot own [5#8, 5#8, 1#8]) (idleAt 20))).scan.slots[5]?).map ScanSlot.cfg
      = some ⟨5, true, 0, 16, 1000, .none⟩ := by decide
theorem test_follow : (run (.follow own [1#8, 7#8]) (idleAt 20)).link.partner = some 7 := by decide
theorem test_takeShow : (run (.takeShow own []) (idleAt 20)).link.silenceDue = some 5000000 := by decide
theorem test_releaseShow : (run (.releaseShow own []) (run (.takeShow own []) (idleAt 20))).link.showMode = false := by decide
theorem test_showModeLapse : (run .showModeLapse (run (.takeShow own []) (idleAt 20))).link.flags.showStore = true := by decide
theorem test_set : (run (.set own [4#8, 0#8, 0#8, 0#8, 1#8, 44#8]) (idleAt 20)).items.dipLevel = 300 := by decide
theorem test_save : (run (.save own []) (idleAt 20)).store.saveDue = some 30000 := by decide
theorem test_read : (run (.read ownReply [0#8, 0#8]) (idleAt 20)).link.reply.drop 8 = [3#8, 0x19#8, 0xDC#8, 1#8, 0x73#8] := by
  decide
theorem test_readCompletion :
    (run (.readCompletion own []) { idleAt 20 with
      arb := { State.reset.arb with completions := [⟨5#8, .done, some 21⟩, ⟨6#8, .done, some 40⟩] } }).arb.completions
      = [⟨6#8, .done, some 40⟩] := by decide
theorem test_readCounters :
    (run (.readCounters own []) { idleAt 20 with
      link := { State.reset.link with flags := { State.reset.link.flags with counter := true } } }).link.flags.counter = false := by
  decide
theorem test_setCounter :
    (run (.setCounter own [2#8, 0#8, 0#8, 1#8, 2#8, 0#8]) (idleAt 20)).usage.counters.changes = ⟨258, false⟩ := by decide
theorem test_byteWithNoStopBit : (run (.byteWithNoStopBit [0xD3#8]) (idleAt 20)).link.errCount = 1 := by decide
theorem test_lengthByteAbove8 : (run (.lengthByteAbove8 [0xD3#8, 0#8, 0#8] 9#8) (idleAt 20)).link.errCount = 1 := by decide
theorem test_replyDriverRelease :
    (run .replyDriverRelease (run (.read ownReply [0#8, 0#8]) (idleAt 20))).link.reply = [] := by decide


/-! ## Witnesses: states and operands that meet the hypotheses of each statement, clause by clause -/

def request (kind : ReqKind) (target : Option Nat) : State → State := queued .link [linkRequestOf kind target]

/-- At PL 3 with the lockout restart on and all that it waits for. -/
def restartable : State :=
  { atPL 3 .trayJam (idleAt 7) with items := { factoryItems with lockoutRestart := true } }

theorem witness_StepTakesTheFrontCommand :
    { idleAt 0 with pending := [.guardTick] }.pending = .guardTick :: [] ∧ (idleAt 0).pending = [] := by decide

theorem witness_PowerOnResetTakesResetValues :
    (idleAt 0).store.saving = none ∧ (saving (idleAt 0)).store.saving.isSome = true
      ∧ { pins with supplyLost := true }.supplyLost = true := by decide

theorem witness_LinkResetIsAPowerOnResetBut :
    ((idleAt 0).takes ownReply ∧ ownReply.addr ≠ 31#5 ∧ ownReply.reply = true)
      ∧ ((idleAt 0).takes own ∧ own.reply = false) ∧ ((idleAt 0).takes all ∧ all.addr = 31#5)
      ∧ (idleAt 0).link.resetDue = false
      ∧ (∀ s ∈ [dueReset (run (.read ownReply [0#8, 0#8]) (idleAt 0)), dueReset (saving (idleAt 0))],
          s.link.resetDue = true ∧ (s.link.reply ≠ [] ∨ s.store.saving.isSome = true))
      ∧ (dueReset { idleAt 0 with store := { (idleAt 0).store with waiting := true } }).store.waiting = true := by decide

/-- A reset that waits for a reply, and one that waits for a save. -/
def awaitingReply : State := run (.linkReset pins) (run (.resetPart ownReply []) (idleAt 0))
def awaitingSave : State := run (.linkReset pins) (dueReset (saving (idleAt 0)))

theorem witness_LinkResetIsAPowerOnResetBut_waiting :
    (awaitingReply.link.resetDue = true ∧ awaitingReply.link.resetPins = some pins ∧ awaitingReply.store.waiting = false
        ∧ awaitingReply.store.saving = none)
      ∧ (awaitingSave.link.resetDue = true ∧ awaitingSave.link.resetPins = some pins ∧ awaitingSave.store.waiting = false
        ∧ awaitingSave.link.reply = [] ∧ awaitingSave.store.saving = some unwrittenImage)
      ∧ (∀ s ∈ [dueReset (idleAt 0), dueReset (lampAt 1 (idleAt 0)), dueReset (cooling 300)],
          s.link.resetDue = true ∧ s.link.reply = [] ∧ s.store.saving = none ∧ s.store.waiting = false)
      ∧ 0 < (lampAt 1 (idleAt 0)).drive ∧ (cooling 300).cool.darkStart.isSome = true ∧ (idleAt 0).cool.darkStart = none
      ∧ pins.supplyFail = false ∧ { pins with supplyFail := true }.supplyFail = true := by decide

theorem witness_MechanismRestartTakesRestartValues :
    (idleAt 7).items.lockoutRestart = false
      ∧ (restartable.items.lockoutRestart = true ∧ restartable.prot.pl = 3
        ∧ restartable.prot.active = ⟨false, false, false, false⟩ ∧ restartable.cool.darkStart = none
        ∧ restartable.cool.th = some 300 ∧ 300 < restartable.items.coolTemp ∧ restartable.tape.state.playing = false)
      ∧ restartable.arb.completions.length ≤ 8 ∧ restartable.fade.audio.pending = none ∧ restartable.cool.power ≠ .coolingDown := by decide

theorem witness_SupplyFailWarningStopsTheMotors :
    (warned (idleAt 0)).cool.warning = true ∧ (idleAt 0).cool.warning = false
      ∧ (saving (idleAt 0)).store.saving.isSome = true
      ∧ (flying .rotate (some 12) goto15 (idleAt 12)).changer.record = some goto15
      ∧ goto15.request = some (linkRequestOf .goto (some 15)) ∧ (linkRequestOf .goto (some 15)).source = .link
      ∧ (goto15.request.isSome = true ∧ { goto15 with moved := true }.moved = true ∧ goto15.moved = false)
      ∧ 4294967295 ≤ (⟨4294967295, false⟩ : Counter).value
      ∧ ((flying .rotate (some 12) goto15 (cooling 300)).cool.power = .coolingDown
        ∧ (flying .rotate (some 12) goto15 (cooling 300)).cool.warning = false
        ∧ (flying .rotate (some 12) goto15 (cooling 300)).changer.state = .rotate) := by decide

/-- A CUE queue of steps with a debt owed. -/
def owing (n debt : Nat) (s : State) : State :=
  { queued .cue (List.replicate n owedStep) s with cue := { s.cue with debt := debt, queueLen := n, queueAsked := n == 4 } }

theorem witness_GrantPrefersLowestPriority_debt :
    (∀ s ∈ [owing 4 15 (idleAt 9), owing 4 1 (idleAt 9), owing 4 2 (cooling 300)],
        DebtLaw s ∧ s.preferred = some .cue ∧ s.arb.queues.get .cue = owedStep :: List.replicate 3 owedStep)
      ∧ ((owing 1 0 (idleAt 9)).preferred = some .cue ∧ (owing 1 0 (idleAt 9)).arb.queues.get .cue = owedStep :: [])
      ∧ (idleAt 9).cool.power ≠ .coolingDown ∧ (idleAt 9).prot.pl < 2 ∧ (cooling 300).cool.power = .coolingDown := by decide

theorem witness_GrantPrefersLowestPriority :
    (flying .rotate (some 12) goto15 (idleAt 12)).changer.state ≠ .idle
      ∧ (flying .rotate (some 12) goto15 (idleAt 12)).changer.state ≠ .lost ∧ (idleAt 0).preferred = none
      ∧ (idleAt 0).changer.state = .idle ∧ lostState.changer.state = .lost
      ∧ (request .home none (idleAt 9)).arb.queues.get .link = [linkRequestOf .home none]
      ∧ (request .home none (idleAt 9)).eligible (linkRequestOf .home none) = true
      ∧ (request .home none (idleAt 9)).preferred = some .link
      ∧ (queued .cue [owedStep] (idleAt 9)).preferred = some .cue ∧ (idleAt 9).cue.debt = 0 := by decide

def trayless : State := { lostState with changer := { lostState.changer with trayPresent := false } }

theorem witness_GrantEndsAtOnce :
    ((request .home none trayless).preferred = some .link
        ∧ (request .home none trayless).arb.queues.get .link = [linkRequestOf .home none]
        ∧ (request .home none trayless).changer.trayPresent = false ∧ (warned (idleAt 9)).cool.warning = true)
      ∧ ((request .goto (some 97) (idleAt 9)).preferred = some .link ∧ (idleAt 9).changer.trayPresent = true
        ∧ (idleAt 9).cool.warning = false ∧ (idleAt 9).items.traySize < 97)
      ∧ ((request .ret none (idleAt 9)).preferred = some .link ∧ (idleAt 9).arb.stack = [])
      ∧ ((request .home none (idleAt 0)).preferred = some .link ∧ (idleAt 0).changer.position = some 0)
      ∧ ((request .goto (some 15) (warned (idleAt 9))).preferred = some .link
        ∧ (request .goto (some 15) (warned (idleAt 9))).cool.warning = true
        ∧ (request .goto (some 15) (warned (idleAt 9))).changer.position = some 9 ∧ (linkRequestOf .goto (some 15)).noPush = false) := by
  decide

theorem witness_GrantEndsAtOnce_asks : (request .home none (idleAt 0)).asks (linkRequestOf .home none) none 0 0 := rfl

/-- A panel step that may dip, under a lamp at 800. -/
def dipping : State := queued .panel [plainRequest .stepFwd .panel] (lampAt 800 (idleAt 96))

theorem witness_GrantStartsTheChange :
    ((request .goto (some 96) (idleAt 0)).preferred = some .link ∧ (idleAt 0).changer.trayPresent = true
        ∧ (idleAt 0).cool.warning = false ∧ (idleAt 0).changer.position = some 0 ∧ 0 ≤ (idleAt 0).items.traySize ∧ 96 ≠ 0)
      ∧ (dipping.preferred = some .panel ∧ dipping.items.dipPolicy = true ∧ dipping.items.dipTime ≠ 0
        ∧ dipping.changer.position = some 96 ∧ dipping.items.dipLevel < min dipping.fade.lamp.level dipping.ceiling
        ∧ (plainRequest .stepFwd .panel).noDip = false)
      ∧ ({ dipping with items := { factoryItems with dipTime := 0 } }.items.dipTime = 0
        ∧ { dipping with items := { factoryItems with dipTime := 0 } }.preferred = some .panel)
      ∧ (linkRequestOf .goto (some 96)).noDip = true ∧ slideIn.gateOccupied = true ∧ clear.gateOccupied = false := by decide

theorem witness_GrantStartsTheChange_asks :
    (request .goto (some 96) (idleAt 0)).asks (linkRequestOf .goto (some 96)) none 0 96
      ∧ dipping.asks (plainRequest .stepFwd .panel) none 96 0 := ⟨⟨rfl, by decide⟩, ⟨rfl, by decide⟩⟩

theorem witness_GrantInLostHomesFirst :
    (request .goto (some 96) lostState).preferred = some .link ∧ lostState.changer.trayPresent = true
      ∧ lostState.cool.warning = false ∧ lostState.changer.position = none ∧ 96 ≤ lostState.items.traySize
      ∧ (linkRequestOf .goto (some 96)).noDip = true ∧ clear.homeMark = false ∧ slideIn.gateOccupied = true
      ∧ (∀ s ∈ [queued .panel [plainRequest .stepFwd .panel] (lampAt 800 lostState)],
          s.preferred = some .panel ∧ s.changer.position = none ∧ s.items.dipPolicy = true ∧ s.items.dipTime ≠ 0
            ∧ s.items.dipLevel < min s.fade.lamp.level s.ceiling) := by decide

/-- A cue step with a reference to the entry at 100, bound to a slot, from a position. -/
def cueStep (p slot : Nat) : State :=
  queued .cue [{ plainRequest .stepFwd .cue with cueRef := some 100 }] (mapOf [⟨100, .a, 0, some slot⟩] (idleAt p))

theorem witness_CueStepResyncs :
    (∀ s ∈ [cueStep 96 0, cueStep 96 40, cueStep 20 20, cueStep 0 1],
        s.preferred = some .cue ∧ s.arb.queues.get .cue = [{ plainRequest .stepFwd .cue with cueRef := some 100 }]
          ∧ s.changer.trayPresent = true ∧ s.cool.warning = false ∧ s.cue.debt = 0 ∧ s.items.skipEmpty = false
          ∧ s.items.autoResync = true ∧ (s.cue.entries.find? (fun x => x.position == 100)).isSome = true)
      ∧ (cueStep 96 0).changer.position = some 96 ∧ { factoryItems with autoResync := false }.autoResync = false := by decide

/-- A homing granted to a cue step whose entry is bound to a slot, with the first slot skipped where skip-empty is on. -/
def resolving (slot : Nat) (skips : Bool) : State :=
  let q : Request := { plainRequest .stepFwd .cue with cueRef := some 100 }
  let s := flying .homing none (newRecord (some q) none none none) (mapOf [⟨100, .a, 0, some slot⟩] lostState)
  { s with
    items := { factoryItems with skipEmpty := skips }
    changer := { s.changer with map := s.changer.map.modify 0 (fun e => { e with skip := skips }) } }

theorem witness_CueStepResyncs_homing :
    (∀ s ∈ [resolving 1 false, resolving 40 false, resolving 0 false, resolving 2 true, resolving 1 true],
        s.changer.state = .homing ∧ s.changer.homingLift = false ∧ s.items.autoResync = true
          ∧ s.changer.record = some (newRecord (some { plainRequest .stepFwd .cue with cueRef := some 100 }) none none none)
          ∧ 0 < s.items.traySize + 2 ∧ (s.cue.entries.find? (fun x => x.position == 100)).isSome = true)
      ∧ (resolving 2 true).stepTarget .forward 0 = 2
      ∧ { cueStep 96 0 with items := { factoryItems with skipEmpty := true } }.preferred = some .cue := by decide

theorem witness_IndexPulseCountsOneStep :
    (goto15.direction = some .forward ∧ 12 ≤ (idleAt 12).items.traySize
        ∧ (flying .rotate (some 12) goto15 (idleAt 12)).changer.state = .rotate ∧ goto15.stepsMade + 1 < goto15.planned)
      ∧ { goto15 with stepsMade := 2 }.planned ≤ { goto15 with stepsMade := 2 }.stepsMade + 1
      ∧ (flying .returning (some 96) goto15 (idleAt 12)).changer.state = .returning
      ∧ 1 < { goto15 with stepsBack := 2 }.stepsBack ∧ { goto15 with stepsBack := 1 }.stepsBack ≤ 1
      ∧ (idleAt 0).changer.state = .idle ∧ lostState.changer.state ∈ [ChangerState.lost, .jammed, .dipping, .lift, .drop, .settle] := by
  decide

theorem witness_HomingSearchCountsToTheMark :
    (flying .homing none search lostState).changer.state = .homing ∧ lostState.changer.homingLift = false
      ∧ { search with homingSteps := 97 }.homingSteps < lostState.items.traySize + 2 ∧ search.request = none
      ∧ lostState.changer.jamClear = false
      ∧ (newRecord (some (linkRequestOf .home none)) none none none).request = some (linkRequestOf .home none) := by decide

theorem witness_HomingSearchCountsToTheMark_asks :
    lostState.asks (linkRequestOf .home none) none 0 0 ∧ lostState.asks (linkRequestOf .goto (some 96)) none 0 96 :=
  ⟨rfl, ⟨rfl, by decide⟩⟩

theorem witness_HomingFailureGivesHomeFail :
    (flying .homing none search lostState).changer.state = .homing ∧ lostState.changer.homingLift = false
      ∧ lostState.prot.pl = 0 ∧ lostState.items.traySize + 2 ≤ { search with homingSteps := 98 }.homingSteps
      ∧ { search with homingSteps := 97 }.homingSteps < lostState.items.traySize + 2 := by decide

theorem witness_RotationStallRetriesThenReturns :
    (flying .rotate (some 12) goto15 (idleAt 12)).changer.state = .rotate ∧ goto15.stepsMade = 0 ∧ goto15.retryUsed = false
      ∧ { goto15 with retryUsed := true }.retryUsed = true ∧ { goto15 with stepsMade := 2 }.stepsMade ≠ 0 := by decide

theorem witness_StallsAndGateJamsGiveTheirCause :
    (flying .returning (some 14) goto15 (idleAt 12)).changer.state = .returning ∧ goto15.request.isSome = true
      ∧ { goto15 with moved := true }.moved = true ∧ search.request = none ∧ (idleAt 12).prot.pl = 0
      ∧ (flying .lift (some 12) goto15 (idleAt 12)).changer.state = .lift ∧ goto15.moved = false
      ∧ { flying .homing none search lostState with
          changer := { (flying .homing none search lostState).changer with homingLift := true } }.changer.homingLift = true := by
  decide

theorem witness_GateReadingsInLiftAndDrop :
    (flying .lift (some 12) goto15 (idleAt 12)).changer.state = .lift ∧ goto15.target = some 15 ∧ 15 ≠ 12
      ∧ (flying .lift (some 15) goto15 (idleAt 12)).changer.position = goto15.target
      ∧ { (flying .homing none search lostState).changer with homingLift := true }.state = .homing
      ∧ (flying .drop (some 96) goto15 (idleAt 12)).changer.state = .drop := by decide

/-- A change about to end at 15 with an outcome. -/
def ending (o : ChangeOutcome) (s : State) : State := flying .settle (some 15) { goto15 with outcome := some o, moved := true } s

/-- A slide in the gate at 15. -/
def slideAt15 : State :=
  { idleAt 15 with changer := { (idleAt 15).changer with map := putEntryState 15 .inGate (idleAt 15).changer.map } }

theorem witness_SettleEndsTheChange :
    (ending .restored (idleAt 15)).changer.state = .settle ∧ (ending .restored (idleAt 15)).changer.position = some 15
      ∧ (ending .done (idleAt 15)).changer.jamClear = false
      ∧ (ending .done slideAt15).dwellTime 15 = some 8000000 ∧ (ending .done (idleAt 15)).dwellTime 15 = none
      ∧ (run (.auto own [1#8]) slideAt15).arb.autoMode = true ∧ slideAt15.arb.autoMode = false
      ∧ (run (.hold own []) slideAt15).arb.hold = true
      ∧ { (ending .done slideAt15).changer with jamClear := true }.jamClear = true
      ∧ 4294967295 ≤ (⟨4294967295, false⟩ : Counter).value ∧ goto15.request.isSome = true := by decide

theorem witness_TrayRemovalAndInsertion :
    (idleAt 7).changer.trayPresent = true ∧ (idleAt 7).arb.completions.length ≤ 8 ∧ (idleAt 7).prot.pl < 2
      ∧ (idleAt 7).cool.power ≠ .coolingDown ∧ trayless.changer.trayPresent = false ∧ trayless.items.autoHome = true
      ∧ trayless.changer.state = .lost ∧ trayless.changer.jamClear = false
      ∧ { trayless with items := { factoryItems with autoHome := false } }.items.autoHome = false := by decide

theorem witness_SkipEmptyStepsToAnEligiblePosition :
    96 ≤ (idleAt 96).items.traySize ∧ (idleAt 96).changer.map.length = (idleAt 96).items.traySize
      ∧ (idleAt 96).items.skipEmpty = false
      ∧ { idleAt 96 with items := { factoryItems with skipEmpty := true } }.items.skipEmpty = true := by decide

theorem witness_RampStepFollowsTheFormula :
    (ramping 200 850 50 49).count < (ramping 200 850 50 49).steps ∧ (ramping 200 850 50 0).state ≠ .steady
      ∧ (idleAt 0).changer.state ≠ .dipping ∧ (ramping 200 850 50 48).count + 1 < (ramping 200 850 50 48).steps
      ∧ (flying .dipping (some 12) goto15 (idleAt 12)).changer.state = .dipping
      ∧ { ramping 800 0 10 9 with state := .dipped }.count + 1 = 10 ∧ 0 < 50 ∧ 17 ≤ 17 ∧ 17 ≤ 50
      ∧ (∀ s ∈ [flying .dipping (some 12) goto15 (idleAt 12), flying .dipping (some 96) goto15 (idleAt 12),
            flying .dipping (some 0) goto15 (idleAt 12)],
          s.changer.state = .dipping ∧ s.changer.record = some goto15 ∧ goto15.target = some 15)
      ∧ (flying .dipping none search lostState).changer.position = none
      ∧ clear.gateOccupied = false ∧ clear.homeMark = false ∧ slideIn.gateOccupied = true := by decide

theorem witness_FadeIsTakenOrHeld :
    (idleAt 0).takes own ∧ (idleAt 0).takes all ∧ (idleAt 0).prot.pl < 3 ∧ 2 ≤ (2#8).toNat
      ∧ (1#8).getLsbD 0 = true ∧ (idleAt 0).changer.state = .idle
      ∧ (flying .rotate (some 12) goto15 (idleAt 12)).changer.state ≠ .idle
      ∧ (flying .rotate (some 12) goto15 (idleAt 12)).changer.state ≠ .lost := by decide

theorem witness_ChangeEndRestoresTheLamp :
    (∀ found : Bool, (watched ⟨true, some 700, none, none⟩ found).changer.state = .settle
        ∧ (watched ⟨true, some 700, none, none⟩ found).changer.trayPresent = true
        ∧ (watched ⟨true, some 700, none, none⟩ found).cool.warning = false
        ∧ (watched ⟨true, some 700, none, none⟩ found).fade.watch = some ⟨true, some 700, none, none⟩
        ∧ (watched ⟨true, some 700, none, none⟩ found).fade.lamp.pending = none)
      ∧ (watched ⟨true, some 700, none, none⟩ true).presetAt (some 15) true = some 444
      ∧ (watched ⟨true, some 700, none, none⟩ false).presetAt (some 15) false = none
      ∧ (watched ⟨false, none, none, some ⟨300, 2⟩⟩ true).fade.watch = some ⟨false, none, none, some ⟨300, 2⟩⟩
      ∧ { steadyChannel 5 with pending := some ⟨300, 2⟩ }.pending = some ⟨300, 2⟩ := by decide

/-- A change under way in a stage, with an open watch and a fade that waits. -/
def waitingFade (st : ChangerState) (p : Option Nat) (r : ChangeRecord) (s : State) : State :=
  let s := flying st p r s
  { s with fade := { s.fade with
      watch := some ⟨false, none, none, none⟩, lamp := { steadyChannel 5 with state := .pending, pending := some ⟨300, 2⟩ } } }

theorem witness_ChangeEndRestoresTheLamp_stages :
    (∀ s ∈ [waitingFade .lift (some 12) goto15 (idleAt 12), waitingFade .returning (some 14) goto15 (idleAt 12),
          waitingFade .homing none { search with homingSteps := 98 } lostState, waitingFade .settle (some 15) goto15 (idleAt 15)],
        s.changer.record.isSome = true ∧ s.fade.watch = some ⟨false, none, none, none⟩
          ∧ s.fade.lamp.pending = some ⟨300, 2⟩ ∧ s.changer.trayPresent = true ∧ s.cool.warning = false)
      ∧ (waitingFade .returning (some 14) goto15 (idleAt 12)).changer.state = .returning
      ∧ (waitingFade .homing none search lostState).changer.homingLift = false
      ∧ { (waitingFade .homing none search lostState).changer with homingLift := true }.homingLift = true
      ∧ (idleAt 12).items.traySize + 2 ≤ { search with homingSteps := 98 }.homingSteps := by decide

theorem witness_LampSwitchAndLampReset :
    (idleAt 0).takes own ∧ (idleAt 0).prot.pl < 3 ∧ 3 ≤ (3#8).toNat ∧ (2#8).toNat ≤ 2 ∧ (idleAt 0).cool.power ≠ .coolingDown
      ∧ (run (.standby own [1#8]) (idleAt 5)).cool.power = .coolingDown
      ∧ { State.reset.lamp with failed := true }.failed = true ∧ (idleAt 0).lamp.failed = false := by decide

theorem witness_MainsTrackingAndFiring :
    (idleAt 0).lamp.lastCrossing = none ∧ { State.reset.lamp with lastCrossing := some 0 }.lastCrossing = some 0
      ∧ { State.reset.lamp with mainsNormal := true }.mainsNormal = true ∧ (idleAt 0).lamp.mainsNormal = false
      ∧ { State.reset.lamp with invalidRun := 6 }.invalidRun < 7 ∧ 7 ≤ { State.reset.lamp with invalidRun := 7 }.invalidRun
      ∧ { State.reset.lamp with validRun := 2 }.validRun < 3 ∧ 3 ≤ { State.reset.lamp with validRun := 3 }.validRun
      ∧ (∀ h ∈ [8000, 12000], 8000 ≤ h ∧ h ≤ 12000) ∧ (∀ h ∈ [7999, 12001], ¬(8000 ≤ h ∧ h ≤ 12000))
      ∧ { State.reset.lamp with firingDue := some 9 }.firingDue = some 9 ∧ (idleAt 0).lamp.firingDue = none := by decide

theorem witness_LampLawInterpolates :
    factoryLaw.length = 11 ∧ factoryLaw.Pairwise (fun a b => b ≤ a) ∧ factoryLaw.getD 0 0 ≤ 1000 ∧ 50 ≤ factoryLaw.getD 10 0
      ∧ 1 ≤ 1 ∧ 1 ≤ 1000 ∧ 999 < 1000 ∧ 100 % 100 = 0 ∧ (idleAt 0).drive = 0 := by decide

theorem witness_DriveStaysUnderTheCeilings :
    LampItemsLaw (idleAt 0).items ∧ 2 ≤ (atPL 2 .fanStall (idleAt 0)).prot.pl := by decide

theorem witness_SoundAndDisplayShowTheState :
    990 ≤ (steadyChannel 990).level ∧ (steadyChannel 0).level ≤ 1000 ∧ FaultLaw (atPL 2 .fanStall (idleAt 0))
      ∧ 0 < (atPL 2 .fanStall (idleAt 0)).prot.pl ∧ (idleAt 0).prot.pl = 0 ∧ lostState.changer.position = none
      ∧ { idleAt 128 with items := { factoryItems with traySize := 128 } }.changer.position = some 128
      ∧ { idleAt 0 with fade := { State.reset.fade with audio := steadyChannel 0 } }.attenuation = 96 := by decide

def housing : SlotConfig := ⟨0, true, 0, 20, 950, .housing⟩

theorem witness_ScanPassReadsEveryEnabledSlot :
    (oneSlot (slotAfterReset housing) (idleAt 0)).scan.slots[0]? = some (slotAfterReset housing)
      ∧ (raw8 951#12)[0]? = some 951#12 ∧ housing.enable = true ∧ housing.high < (951#12).toNat - housing.offset
      ∧ (19#12).toNat - housing.offset < housing.low ∧ (slotAfterReset housing).latchedHigh = false
      ∧ ((oneSlot (slotAfterReset housing) (idleAt 0)).scan.slots.filter (fun x => x.cfg.role == .housing)).length = 1
      ∧ ((oneSlot (slotAfterReset { housing with role := .cueLevel }) (idleAt 0)).scan.slots.filter
          (fun x => x.cfg.role == .cueLevel)).length = 1 ∧ { housing with role := .cueLevel }.enable = true := by decide

/-- A slot of a role whose next read beyond the high limit is the third. -/
def third (role : Role) : ScanSlot := { slotAfterReset { housing with role := role } with highCount := 2 }

/-- HOUSING, GATE and LAMP-CURRENT held by slots 0, 1 and 2, the slot of one role at its third pass. -/
def scanned (role : Role) (s : State) : State :=
  let slot := fun (r : Role) => if r = role then third r else slotAfterReset { housing with role := r }
  { s with scan := { s.scan with
      slots := [slot .housing, slot .gate, slot .lampCurrent] ++ List.replicate 5 (slotAfterReset ⟨5, false, 0, 0, 4095, .none⟩) } }

/-- A raw value for one slot, and one within the limits for the others. -/
def rawAt (i : Nat) (v : BitVec 12) : List (BitVec 12) := (List.replicate 8 500#12).set i v

theorem witness_ThirdPassBeyondTheLimitActs :
    (∀ x ∈ [(Role.housing, (0 : Fin 8)), (.gate, 1), (.lampCurrent, 2)],
        (scanned x.1 (idleAt 0)).scan.slots[x.2.val]? = some (third x.1) ∧ (third x.1).cfg.role = x.1
          ∧ (third x.1).cfg.enable = true ∧ (third x.1).highCond = false ∧ 2 ≤ (third x.1).highCount
          ∧ (rawAt x.2.val 951#12)[x.2.val]? = some 951#12 ∧ (third x.1).cfg.high < (951#12).toNat - (third x.1).cfg.offset
          ∧ ∀ j : Fin 8, j ≠ x.2 → ((scanned x.1 (idleAt 0)).scan.slots[j.val]?).map ScanSlot.highCount = some 0)
      ∧ (idleAt 0).prot.active = ⟨false, false, false, false⟩ ∧ (idleAt 0).prot.stack = [] ∧ (idleAt 0).lamp.failed = false := by
  decide

theorem witness_ThirdPassBeyondTheLimitActs_roles :
    ∀ role ∈ [Role.housing, .gate, .lampCurrent], RoleLaw ((scanned role (idleAt 0)).scan.slots.map ScanSlot.cfg) := by decide

/-- The lamp NORMAL and driven at 200, its current low, on the pass after a count. -/
def dimming (count : Nat) : State :=
  let s := scanned .lampCurrent (lampAt 200 (idleAt 0))
  { s with lamp := { s.lamp with mainsNormal := true, failCount := count } }

theorem witness_ThirdPassBeyondTheLimitActs_lamp :
    ((∀ sl ∈ (noSlots (dimming 2)).scan.slots, ¬(sl.cfg.enable = true ∧ sl.cfg.role = .lampCurrent))
        ∧ (noSlots (dimming 2)).lamp.failCount = 2
        ∧ (run (.scanPass (rawAt 2 19#12)) (noSlots (dimming 2))).lamp.failCount = 0)
      ∧ (∀ n ∈ [0, 1, 2], (dimming n).lamp.failed = false ∧ (dimming n).lamp.mainsNormal = true ∧ (dimming n).drive = 200
        ∧ (rawAt 2 19#12)[2]? = some 19#12 ∧ (19#12).toNat - (third .lampCurrent).cfg.offset < (third .lampCurrent).cfg.low)
      ∧ (idleAt 0).lamp.mainsNormal = false
      ∧ (lampAt 199 (idleAt 0)).drive = 199 ∧ ¬((20#12).toNat - (third .lampCurrent).cfg.offset < (third .lampCurrent).cfg.low) := by
  decide

theorem witness_CooldownEndsAndOffTimesOut :
    (cooling 449).cool.darkStart = some 0 ∧ (cooling 449).cool.th = some 449 ∧ 449 < (cooling 449).items.coolTemp
      ∧ ¬(450 < (cooling 450).items.coolTemp) ∧ (cooling 449).cool.power = .coolingDown
      ∧ (cooling 449).changer.state = .idle ∧ (cooling 449).arb.queues.panel = [] ∧ (idleAt 0).cool.darkStart = none
      ∧ (idleAt 0).cool.power ≠ .off ∧ { (idleAt 0).cool with power := .off, offDue := some 9 }.power = .off := by decide

theorem witness_FanTachAndStallTimers :
    (idleAt 0).cool.lastTach = none ∧ { (idleAt 0).cool with lastTach := some 0 }.lastTach = some 0 ∧ 1999 - 0 < 2000
      ∧ 2000 ≤ 2000 - 0 ∧ { (idleAt 0).cool with stallDue := none }.stallDue = none
      ∧ (idleAt 0).cool.stallDue = some 1500000
      ∧ 30 ≤ { idleAt 0 with cool := { (idleAt 0).cool with th := some 350 } }.duty ∧ (idleAt 0).items.lampOnMin ≤ 100
      ∧ (idleAt 0).prot.active.fan = false ∧ (idleAt 0).prot.stack = []
      ∧ { State.reset.prot with active := ⟨false, false, true, false⟩ }.active.fan = true := by decide

theorem witness_FanDutyFollowsHeatAndLamp :
    (idleAt 0).items.fanStart < (idleAt 0).items.fanFull ∧ (idleAt 0).items.lampOnMin ≤ 100 ∧ State.reset.cool.th = none
      ∧ 349 < (idleAt 0).items.fanStart ∧ (idleAt 0).items.fanStart ≤ 350 ∧ 749 < (idleAt 0).items.fanFull
      ∧ (idleAt 0).items.fanFull ≤ 750 ∧ 2 ≤ (atPL 2 .fanStall (idleAt 0)).prot.pl
      ∧ (cooling 451).cool.power = .coolingDown ∧ (cooling 451).items.coolTemp < 451 ∧ (cooling 450).items.coolTemp = 450
      ∧ (idleAt 0).prot.pl < 2 ∧ (idleAt 0).cool.power ≠ .coolingDown ∧ 0 < (lampAt 1 (idleAt 0)).drive := by decide

theorem witness_StandbyEntersCoolingDown :
    (idleAt 0).takes own ∧ (idleAt 0).takes all ∧ (idleAt 0).prot.pl < 3 ∧ 2 ≤ (2#8).toNat ∧ (idleAt 0).cool.power = .run
      ∧ (cooling 300).cool.power = .coolingDown ∧ (cooling 300).takes own
      ∧ { (idleAt 0).cool with power := .off }.power = .off ∧ (idleAt 0).panel.keys.power.inert = false
      ∧ (deckIn .play (idleAt 0)).tape.state ≠ .noCassette ∧ 0 < (lampAt 1 (idleAt 0)).drive := by decide

/-- A reverse seek to 92 from 93. -/
def seeking : State :=
  { deckIn .seek (idleAt 0) with
    tape := { (deckIn .seek (idleAt 0)).tape with direction := .reverse, counter := 93, seekTarget := some 92 } }

theorem witness_TapeTachAndEndSensors :
    (idleAt 0).tape.state = .noCassette ∧ (deckIn .play (idleAt 0)).tape.state ≠ .noCassette
      ∧ (deckIn .play (idleAt 0)).tape.state ≠ .seek ∧ seeking.tape.seekTarget = some 92 ∧ seeking.tape.counter - 1 ≤ 92
      ∧ ¬(94 - 1 ≤ 92) ∧ (idleAt 0).tape.tachDue = none
      ∧ seeking.tape.state ∈ [TransportState.play, .fastFwd, .rewind, .seek] ∧ seeking.tape.tachDue = some 1000000 := by decide

theorem witness_TapeCommandsMoveTheTape :
    (idleAt 0).takes own ∧ (idleAt 0).takes all ∧ (idleAt 0).prot.pl < 3 ∧ 4 ≤ (4#8).toNat ∧ (3#8).toNat < 4
      ∧ ¬((idleAt 0).tape.state ≠ .noCassette) ∧ (deckIn .paused (idleAt 0)).tape.state ≠ .noCassette
      ∧ (cooling 300).cool.power = .coolingDown ∧ (deckIn .play (idleAt 0)).cool.power ≠ .coolingDown
      ∧ (idleAt 0).cool.warning = false ∧ (warned (idleAt 0)).cool.warning = true
      ∧ (mapOf [⟨5, .a, 0, none⟩] (idleAt 0)).cue.entries.length < (2#8).toNat
      ∧ (mapOf [⟨5, .a, 0, none⟩] (idleAt 0)).cue.entries[(1#8).toNat - 1]? = some ⟨5, .a, 0, none⟩
      ∧ (idleAt 0).tape.counter = 5 - (idleAt 0).items.preroll ∧ (idleAt 0).tape.counter ≠ 100 - (idleAt 0).items.preroll := by decide

/-- A CUE-LEVEL result of 40 with the low limit handed with it, in PLAY. -/
def levelled (low : Nat) : State :=
  let s := oneSlot { slotAfterReset { housing with role := .cueLevel } with result := some 40 } (deckIn .play (idleAt 0))
  { s with dec := { s.dec with levelLow := low } }

theorem witness_WindowTurnsTheTrackers :
    (idleAt 0).tape.state ∈ [TransportState.stopped, .ended, .noCassette]
      ∧ (deckIn .paused (idleAt 0)).tape.state ∈ [TransportState.play, .paused, .fastFwd, .rewind, .seek]
      ∧ (∀ c ∈ [46, 54], 1 * 46 ≤ c ∧ c ≤ 1 * 54) ∧ (∀ c ∈ [174, 210], 6 * 29 ≤ c ∧ c ≤ 6 * 35)
      ∧ idleTracker.state = .idle ∧ (⟨.running, 2, 40, 0, 0, false⟩ : Tracker).run + 1 ≥ 3
      ∧ (⟨.active, 0, 40, 0, 30, false⟩ : Tracker).length + 1 = 31 ∧ 1 ≤ (⟨.active, 0, 40, 1, 30, false⟩ : Tracker).misses
      ∧ (∀ low ∈ [40, 41], (levelled low).tape.state = .play ∧ (levelled low).dec.levelLow = low
        ∧ ((levelled low).scan.slots.find? (fun x => x.cfg.role == .cueLevel)).bind ScanSlot.result = some 40) := by decide

/-- A class A burst about to be recognised at 40, with a cue map and a CUE queue of n steps. -/
def bursting (st : TransportState) (entries : List CueEntry) (n debt : Nat) : State :=
  let s := trackerA ⟨.running, 2, 40, 0, 0, false⟩ (noSlots (deckIn st (mapOf entries (idleAt 20))))
  { queued .cue (List.replicate n owedStep) s with cue := { s.cue with debt := debt, queueLen := n, queueAsked := n == 4 } }

def recognises (count : Nat) (s : State) : Bool :=
  (s.dec.trackers.get .a).state == .running && ((run (.windowClose count) s).dec.trackers.get .a).state == .active

theorem witness_BurstIsLearnedAndDispatched :
    (∀ s ∈ [bursting .play [] 0 0, bursting .play [⟨28, .b, 0, none⟩] 3 0, bursting .paused [] 4 15],
        CueMapLaw s ∧ DebtLaw s ∧ recognises 50 s = true ∧ s.cool.power ≠ .coolingDown ∧ s.prot.pl < 2)
      ∧ (CueMapLaw (bursting .fastFwd [⟨52, .a, 0, none⟩] 0 0) ∧ recognises 300 (bursting .fastFwd [⟨52, .a, 0, none⟩] 0 0) = true)
      ∧ (40 - 28) + (28 - 40) ≤ (idleAt 0).items.tolerance ∧ (bursting .paused [] 4 15).arb.queues.cue.length = 4
      ∧ ¬((atPL 2 .fanStall (idleAt 0)).prot.pl < 2) := by decide

theorem witness_CueMapIsBoundAndEmptied :
    (idleAt 0).takes own ∧ (idleAt 0).takes all ∧ (idleAt 0).prot.pl < 3 ∧ (idleAt 0).cue.entries.length < (1#8).toNat
      ∧ (1#8).toNat ≤ (mapOf [⟨5, .a, 0, none⟩] (idleAt 0)).cue.entries.length ∧ (idleAt 0).items.traySize < (97#8).toNat
      ∧ (96#8).toNat ≤ (idleAt 0).items.traySize ∧ 97#8 ≠ 255#8 ∧ (deckIn .play (idleAt 0)).tape.cassette = true
      ∧ (idleAt 0).tape.cassette = false ∧ (idleAt 0).tape.state = .noCassette := by decide

/-- A second tick that fills the LAMP-MIN accumulator to its tenth minute. -/
def tenthMinute : State :=
  let s := lampAt 600 (idleAt 0)
  { s with usage := { s.usage with
      lampAcc := 59, femAcc := 59400
      counters := { s.usage.counters with lampMin := ⟨9, false⟩, lampFem := ⟨2999, false⟩ } } }

theorem witness_CountersAreKeptAndSaved :
    (0 < tenthMinute.drive ∧ 59 ≤ tenthMinute.usage.lampAcc
        ∧ (run .secondTick tenthMinute).usage.counters.lampMin.value % 10 = 0 ∧ tenthMinute.store.saving = none)
      ∧ (tenthMinute.usage.counters.lampFem.value < tenthMinute.items.lampLife
        ∧ tenthMinute.items.lampLife ≤ (run .secondTick tenthMinute).usage.counters.lampFem.value)
      ∧ ¬(0 < (idleAt 0).drive) ∧ (idleAt 0).takes own ∧ (idleAt 0).prot.pl < 3 ∧ 8 ≤ (8#8).toNat ∧ (7#8).toNat < 8
      ∧ (1#8).toNat < 2 ∧ (idleAt 0).usage.counters.all[(7#8).toNat]? = some ⟨0, false⟩
      ∧ (idleAt 0).store.saving = none ∧ (saving (idleAt 0)).store.saving = some unwrittenImage
      ∧ (saving (idleAt 0)).store.saveDue = some 30000 ∧ (saving (idleAt 0)).link.resetPins = none
      ∧ 4294967295 ≤ (⟨4294967295, true⟩ : Counter).value ∧ 59 ≤ tenthMinute.usage.lampAcc := by decide

def following : State := { idleAt 0 with link := { State.reset.link with following := true, partner := some 7 } }

theorem witness_PortDiscardsAndPartnerFrames :
    (run (.read ownReply [0#8, 0#8]) (idleAt 0)).link.reply ≠ [] ∧ (idleAt 0).link.reply = []
      ∧ ([0xD3#8, 0#8, 5#8, 0#8, 0#8][0]? = some 0xD3#8 ∧ [0xD3#8, 0#8, 5#8, 0#8, 0#8][3]? = some 0#8
        ∧ ((([0xD3#8, 0#8, 5#8, 0#8, 0#8].drop 1).map BitVec.toNat).sum) % 256 ≠ 0)
      ∧ (idleAt 0).link.following = false ∧ foreign.addr ≠ 31#5 ∧ foreign.addr ≠ following.link.strap
      ∧ following.link.following = true ∧ following.link.partner = some foreign.addr.toNat ∧ foreign.mirror = 1#2
      ∧ following.prot.pl < 3 ∧ (1#8).getLsbD 0 = true ∧ (idleAt 0).changer.state = .idle
      ∧ (idleAt 0).link.resetPins = none ∧ awaitingSave.store.saving.isSome = true := by decide

theorem witness_CommandsAreTestedInOrder :
    linkInstr 28 all [0#8, 0#8] = some (.read all [0#8, 0#8]) ∧ (idleAt 0).takes all ∧ (idleAt 0).takes own
      ∧ linkInstr 33 own [0#8] = some (.resetPart own [0#8]) ∧ linkInstr 1 own [] = some (.step own [])
      ∧ 3 ≤ (atPL 3 .trayJam (idleAt 0)).prot.pl ∧ (idleAt 0).prot.pl < 3 ∧ [0#8].length ≠ argLength 33
      ∧ (run (.read ownReply [0#8, 0#8]) (idleAt 0)).link.reply ≠ [] ∧ foreign.addr ≠ (idleAt 0).link.strap
      ∧ foreign.addr ≠ 31#5 ∧ 34 ≤ (34#6).toNat ∧ (33#6).toNat ≤ 33 := by decide

/-- A pending sequence. -/
def pendingSeq (q : PendingSeq) : State := { idleAt 0 with link := { State.reset.link with seq := some q } }

theorem witness_SequencesWriteLawAndSlots :
    (idleAt 0).takes own ∧ (idleAt 0).takes all ∧ (idleAt 0).prot.pl < 3 ∧ (List.replicate 6 0#8).length = 6
      ∧ (idleAt 0).link.seq = none
      ∧ (∀ q ∈ [(⟨.lawTable, false, [], 2, []⟩ : PendingSeq), ⟨.lawTable, false, [], 1, []⟩, ⟨.scanSlot, false, [], 1, []⟩],
          (pendingSeq q).takes own ∧ q.broadcast = decide (own.addr = 31#5))
      ∧ (∀ q ∈ [(⟨.scanSlot, true, [], 1, []⟩ : PendingSeq)], q.broadcast ≠ decide (own.addr = 31#5))
      ∧ (idleAt 0).scan.slots.length = 8 ∧ 3 ≤ (atPL 3 .trayJam (idleAt 0)).prot.pl := by decide

theorem witness_LinkRequestsJoinOrAreRefused :
    (idleAt 0).takes own ∧ (idleAt 0).takes all ∧ (idleAt 0).prot.pl < 3 ∧ (idleAt 0).arb.completions.length ≤ 8
      ∧ DebtLaw (idleAt 0) ∧ (idleAt 0).linkRefusal (some 96) = none ∧ (idleAt 0).linkRefusal (some 97) = some .badSlot := by decide

theorem witness_MarkHoldResumeAutoAndDwell :
    (idleAt 0).takes own ∧ (idleAt 0).takes all ∧ (idleAt 0).prot.pl < 3 ∧ 2 ≤ (2#8).toNat
      ∧ (run (.hold own []) (idleAt 0)).arb.hold = true ∧ (run (.hold own []) (idleAt 0)).takes own
      ∧ (run (.hold own []) (idleAt 0)).arb.shadow = some ⟨none, false⟩ ∧ (idleAt 0).arb.hold = false
      ∧ (idleAt 0).arb.dwellDue = none ∧ { (idleAt 0).arb with dwellDue := some 8000000 }.dwellDue = some 8000000 := by decide

theorem witness_LinkSettingsAreWritten :
    (idleAt 0).takes own ∧ (idleAt 0).takes all ∧ (idleAt 0).prot.pl < 3 ∧ (idleAt 0).link.silenceDue = none
      ∧ (run (.takeShow own []) (idleAt 0)).link.silenceDue = some 5000000 := by decide

/-- Two entries stacked. -/
def twoFaults (top : Cause) (active : LiveActivity) (s : State) : State :=
  { s with prot := { s.prot with pl := 2, stack := [⟨top, 2, 9⟩, ⟨.homeFail, 1, 5⟩], active := active } }

/-- JAMMED, with a fault that is no jam above the entries given. -/
def jammedUnder (top : FaultEntry) (below : List FaultEntry) (active : LiveActivity) : State :=
  let s := flying .jammed (some 14) goto15 (idleAt 12)
  { s with
    changer := { s.changer with record := none, stageDue := none }
    prot := { s.prot with pl := top.level, stack := top :: below, active := active } }

/-- The clear frees the changer; it does not with a TRAY-JAM stacked; it does not where a live cause stands at PL 3
again. -/
def jammedStates : List State :=
  [jammedUnder ⟨.homeFail, 1, 5⟩ [] ⟨false, false, false, false⟩,
    jammedUnder ⟨.fanStall, 2, 9⟩ [⟨.trayJam, 1, 5⟩] ⟨false, false, false, false⟩,
    jammedUnder ⟨.homeFail, 3, 9⟩ [⟨.gateJam, 2, 5⟩] ⟨false, false, true, false⟩]

theorem witness_ClearFaultPopsTheStack :
    (∀ s ∈ [idleAt 0, atPL 1 .trayJam (idleAt 0), twoFaults .fanStall ⟨false, false, false, false⟩ (idleAt 0),
        twoFaults .fanStall ⟨false, false, true, false⟩ (idleAt 0), twoFaults .gateJam ⟨true, false, false, false⟩ (idleAt 0),
        atPL 1 .trayJam lostState] ++ jammedStates,
        s.takes own ∧ FaultLaw s ∧ FaultLevelLaw s)
      ∧ (idleAt 0).prot.stack = [] ∧ (twoFaults .fanStall ⟨false, false, true, false⟩ (idleAt 0)).prot.active.get .fanStall = true
      ∧ (twoFaults .gateJam ⟨true, false, false, false⟩ (idleAt 0)).prot.active.get .gateJam = false
      ∧ (idleAt 0).changer.state = .idle ∧ lostState.changer.state = .lost
      ∧ (flying .rotate (some 12) goto15 (idleAt 12)).changer.state = .rotate
      ∧ (idleAt 0).panel.longDue = none ∧ (run .panelHoldPress (idleAt 0)).panel.longDue = some 2000000
      ∧ (run .panelHoldPress (idleAt 0)).panel.keys.hold = ⟨true, false⟩
      ∧ { (run .panelHoldPress (idleAt 0)).panel with keys := (idleAt 0).panel.keys }.keys.hold ≠ ⟨true, false⟩ := by decide

theorem witness_ClearFaultPopsTheStack_jammed :
    (∀ s ∈ jammedStates, s.changer.state = .jammed)
      ∧ jammedStates.map (fun s => (s.prot.stack.head?.map (fun e => s.prot.active.get e.cause)).getD true) = [false, false, false]
      ∧ jammedStates.map (fun s => decide (∃ x ∈ s.prot.stack.drop 1, x.cause = .trayJam)) = [false, true, false]
      ∧ jammedStates.map (fun s => (run (.clearFault own []) s).prot.pl) = [0, 1, 3] := by decide

theorem witness_SetWritesOneItem :
    (idleAt 0).takes own ∧ (idleAt 0).takes all ∧ (idleAt 0).prot.pl < 3 ∧ 34 ≤ (34#8).toNat ∧ (39#8).toNat < 40
      ∧ 43 ≤ (43#8).toNat ∧ (33#8).toNat < 34 ∧ (24 ≤ 24 ∧ 24 ≤ 128) ∧ ¬(24 ≤ 129 ∧ 129 ≤ 128)
      ∧ (idleAt 0).changer.state = .idle ∧ (idleAt 0).changer.position = some 0
      ∧ ((idleAt 5).changer.trayPresent = true ∧ (idleAt 5).changer.position ≠ some 0)
      ∧ 899 < (idleAt 0).items.derateEnd ∧ ¬(900 < (idleAt 0).items.derateEnd)
      ∧ (96#8).toNat ≤ (idleAt 0).items.traySize ∧ (idleAt 0).items.traySize < (97#8).toNat := by decide

theorem witness_ReadsAndRepliesReportTheState :
    (idleAt 0).preferred = none ∧ (idleAt 0).takesOwn own ∧ 9 ≤ (9#8).toNat ∧ (8#8).toNat ≤ 8 ∧ (idleAt 0).prot.pl < 3
      ∧ (idleAt 0).arb.completions = [] ∧ (run (.flush own []) (request .home none (idleAt 0))).arb.completions
        = [⟨9#8, .aborted, some 0⟩] := by decide

theorem witness_HandsetKeysPressAndAct :
    (run .remoteFwd (idleAt 0)).panel.held = some .fwd ∧ (idleAt 0).panel.held = none
      ∧ 3 ≤ (atPL 3 .trayJam (idleAt 0)).prot.pl ∧ (idleAt 0).panel.resetEnd = some 0
      ∧ (150000 ≤ 0 + 150000 ∧ ¬(150001 ≤ 0 + 150000)) ∧ (idleAt 0).prot.pl < 3
      ∧ (run (.hold own []) (idleAt 0)).arb.shadow = some ⟨none, false⟩ := by decide

theorem witness_HandsetTimersAndFrames :
    (idleAt 0).panel.presenceDue = none ∧ (idleAt 0).panel.releaseDue = none ∧ (idleAt 0).panel.focusDue = none
      ∧ (idleAt 0).panel.autoDue = none ∧ (run .remoteFwd { idleAt 0 with clock := 200000 }).panel.presenceDue = some 2200000
      ∧ (run .remoteFwd { idleAt 0 with clock := 200000 }).panel.releaseDue = some 450000
      ∧ (run .remoteFwd { idleAt 0 with clock := 200000 }).panel.autoDue = some 900000
      ∧ (run .remoteFwd { idleAt 0 with clock := 200000 }).panel.inert = false
      ∧ (run .remoteFwd { idleAt 0 with clock := 200000 }).panel.held = some .fwd
      ∧ (run .remoteFocusIn { idleAt 0 with clock := 200000 }).panel.focusDue = some 3200000 := by decide

theorem witness_PanelKeysPressAndRelease :
    (idleAt 0).panel.keys.fwd.inert = false ∧ (idleAt 0).panel.keys.hold.inert = false ∧ (idleAt 0).prot.pl < 3
      ∧ (run .panelFwd (atPL 3 .trayJam (idleAt 0))).panel.keys.fwd.inert = true ∧ ¬((atPL 3 .trayJam (idleAt 0)).prot.pl < 3)
      ∧ (PanelKey.fwd ≠ .hold) ∧ (run .panelHoldPress (idleAt 0)).panel.keys.hold = ⟨true, false⟩
      ∧ (run .panelHoldPress (idleAt 0)).panel.longDue ≠ none ∧ (run .panelHoldPress (idleAt 0)).arb.hold = false
      ∧ (idleAt 0).panel.keys.hold ≠ ⟨true, false⟩
      ∧ (run .panelHoldPress (run (.hold own []) (idleAt 0))).arb.hold = true := by decide

/-- A state for the laws: a GOTO under way, a burst owed, a fault stacked and a slide in the gate. -/
def busy : State :=
  let s := queued .cue (List.replicate 4 owedStep) (atPL 1 .homeFail (mapOf [⟨100, .a, 0, none⟩] (deckIn .paused slideAt15)))
  { s with
    cue := { s.cue with debt := 15, queueLen := 4, queueAsked := true }
    tape := { s.tape with pause := ⟨false, true, false, false⟩ }
    arb := { s.arb with stack := [96, 0], completions := [⟨9#8, .done, some 15⟩] }
    pending := [.guardTick] }

theorem witness_step : step busy = .next (run .guardTick { busy with pending := [] }) := rfl

theorem witness_StepKeepsTheArbiterLists : CompletionLaw busy ∧ busy.arb.stack ≠ [] ∧ busy.arb.queues.cue.length = 4 := by decide

theorem witness_StepKeepsTheArbiterLists_laws : QueueLaw busy ∧ StackLaw busy := by
  refine ⟨⟨fun src => by cases src <;> decide, by decide⟩, by decide, ?_, by decide⟩
  intro p h
  cases h
  decide

theorem busy_gate : ∀ i : Fin 96, (busy.changer.map[i.val]?).map TrayEntry.state = some .inGate →
    busy.changer.position = some (i.val + 1) ∧ busy.changer.state.gateEmpty = false := by decide

theorem witness_StepKeepsOneEntryInGate : GateLaw busy ∧ (busy.changer.map[14]?).map TrayEntry.state = some .inGate := by
  refine ⟨⟨fun i e h he => ?_, by decide, by decide⟩, by decide⟩
  have hi : i < 96 := (List.getElem?_eq_some_iff.mp h).1
  exact busy_gate ⟨i, hi⟩ (by rw [h, Option.map_some, he])

theorem witness_StepKeepsTheFaultStack : FaultLaw busy ∧ FaultLevelLaw busy ∧ busy.prot.stack ≠ [] := by decide

theorem witness_StepKeepsLevelsAndRoles :
    FadeLaw busy ∧ GuardLaw busy ∧ LampRangeLaw busy ∧ ScanLaw busy := by
  refine ⟨⟨⟨by decide, by decide, by decide, by decide, ?_, by decide, by decide⟩,
    ⟨by decide, by decide, by decide, by decide, ?_, by decide, by decide⟩, ?_, by decide, by decide, by decide, ?_⟩,
    by decide, ⟨by decide, by decide, ?_⟩, by decide, by decide, ?_⟩ <;> intro _ h <;> cases h

theorem witness_StepKeepsTheCueMapAndDebt : CueMapLaw busy ∧ DebtLaw busy ∧ PauseLaw busy ∧ 0 < busy.cue.debt := by decide

theorem witness_StepKeepsCooldownWithTheDrive :
    CooldownLaw (cooling 300) ∧ (cooling 300).cool.darkStart.isSome = true
      ∧ (0 < (lampAt 1 (idleAt 0)).drive ∧ (run (.lamp own [0#8]) (lampAt 1 (idleAt 0))).drive = 0)
      ∧ ((idleAt 0).drive = 0 ∧ 0 < (run (.lamp own [2#8]) (idleAt 0)).drive)
      ∧ (idleAt 0).link.resetPins = none ∧ 0 < (idleAt 0).items.cooldownTime
      ∧ (∀ s ∈ [{ scanned .lampCurrent (lampAt 200 (idleAt 0)) with items := { factoryItems with cooldownTime := 0 } }],
          0 < s.drive ∧ (run (.scanPass (rawAt 2 951#12)) s).drive = 0) := by decide

end Sys2Proof.Tests
end

section
/-! The lamp law (R54): the delay along the drive, and the zero-crossing that plans no pulse at drive 0. -/

namespace Sys2Proof.Machine

/-! ## The interpolated delay (R54) -/

/-- The entries of a non-increasing table; one beyond the table's end is 0, so the order needs no bound on the index. -/
theorem lawEntries_antitone {w : List Nat} (hw : w.Pairwise (fun a b => b ≤ a)) : Antitone (fun i => w.getD i 0) := by
  intro i j hij
  rcases Nat.lt_or_ge j w.length with hj | hj
  · rcases Nat.eq_or_lt_of_le hij with rfl | hlt
    · exact le_refl _
    · have h : w[j] ≤ w[i] := List.pairwise_iff_getElem.mp hw i j (by omega) hj hlt
      simpa [hj, hlt.trans hj] using h
  · simp [hj]

/-- The formula of R54 also gives W10 at drive 1000: there i is 10 and the remainder is 0. -/
theorem lawDelay_eq (w : List Nat) {x : Nat} (hx : x ≤ 1000) :
    lawDelay w x
      = w.getD (x / 100) 0 - (w.getD (x / 100) 0 - w.getD (x / 100 + 1) 0) * (x - 100 * (x / 100)) / 100 := by
  rcases Nat.eq_or_lt_of_le hx with rfl | hlt
  · simp [lawDelay]
  · simp [lawDelay, Nat.not_le.mpr hlt]

theorem lawDelay_at_entry (w : List Nat) {x : Nat} (hx : x ≤ 1000) (h : x % 100 = 0) :
    lawDelay w x = w.getD (x / 100) 0 := by
  have hr : x - 100 * (x / 100) = 0 := by omega
  simp [lawDelay_eq w hx, hr]

theorem lawDelay_le_entry (w : List Nat) {x : Nat} (hx : x ≤ 1000) : lawDelay w x ≤ w.getD (x / 100) 0 := by
  rw [lawDelay_eq w hx]
  exact Nat.sub_le _ _

/-- The remainder is below 100, so the part taken off is at most the whole difference of the two entries. -/
theorem next_entry_le_lawDelay {w : List Nat} (hw : w.Pairwise (fun a b => b ≤ a)) {x : Nat} (hx : x ≤ 1000) :
    w.getD (x / 100 + 1) 0 ≤ lawDelay w x := by
  have hentries : w.getD (x / 100 + 1) 0 ≤ w.getD (x / 100) 0 := lawEntries_antitone hw (Nat.le_succ _)
  have hoff : (w.getD (x / 100) 0 - w.getD (x / 100 + 1) 0) * (x - 100 * (x / 100)) / 100
      ≤ w.getD (x / 100) 0 - w.getD (x / 100 + 1) 0 := by
    have hrem : x - 100 * (x / 100) ≤ 100 := by omega
    exact Nat.div_le_of_le_mul ((Nat.mul_le_mul_left _ hrem).trans_eq (Nat.mul_comm _ _))
  rw [lawDelay_eq w hx]
  omega

/-- Within a segment the part taken off grows with the remainder; across a segment end an entry stands between. -/
theorem lawDelay_antitone {w : List Nat} (hw : w.Pairwise (fun a b => b ≤ a)) {x y : Nat} (hxy : x ≤ y)
    (hy : y ≤ 1000) : lawDelay w y ≤ lawDelay w x := by
  have hx : x ≤ 1000 := hxy.trans hy
  rcases Nat.eq_or_lt_of_le (Nat.div_le_div_right hxy : x / 100 ≤ y / 100) with hsame | hcross
  · rw [lawDelay_eq w hx, lawDelay_eq w hy, hsame]
    exact Nat.sub_le_sub_left (Nat.div_le_div_right (Nat.mul_le_mul_left _ (Nat.sub_le_sub_right hxy _))) _
  · calc lawDelay w y ≤ w.getD (y / 100) 0 := lawDelay_le_entry w hy
      _ ≤ w.getD (x / 100 + 1) 0 := lawEntries_antitone hw hcross
      _ ≤ lawDelay w x := next_entry_le_lawDelay hw hx

/-! ## The zero-crossing at drive 0 (R54, R56) -/

/-- What the tracker changes at a crossing is no term of the drive. -/
theorem LampDrive.crossing_drive_terms (now : Nat) (l : LampDrive) :
    (l.crossing now).switch = l.switch ∧ (l.crossing now).failed = l.failed
      ∧ (l.crossing now).guardEngaged = l.guardEngaged := by
  have hmeasure (h : Nat) : (l.measure h).switch = l.switch ∧ (l.measure h).failed = l.failed
      ∧ (l.measure h).guardEngaged = l.guardEngaged := by
    unfold LampDrive.measure
    split_ifs <;> exact ⟨rfl, rfl, rfl⟩
  unfold LampDrive.crossing
  cases l.lastCrossing with
  | none => exact ⟨rfl, rfl, rfl⟩
  | some t => exact hmeasure (now - t)

theorem State.drive_crossing (now : Nat) (s : State) :
    State.drive { s with lamp := s.lamp.crossing now } = s.drive := by
  obtain ⟨hswitch, hfailed, hguard⟩ := s.lamp.crossing_drive_terms now
  simp only [State.drive, State.effective, State.ceiling, State.switchCeiling, State.derateCeiling, State.filmCeiling,
    State.protectCeiling, State.failedCeiling, hswitch, hfailed, hguard]

theorem State.firingAt_of_drive_zero {s : State} (h : s.drive = 0) : s.firingAt = none := by
  unfold State.firingAt
  cases s.lamp.halfPeriod with
  | none => rfl
  | some _ => simp [h]

theorem exec_zeroCrossing_of_drive_zero (dt : Nat) {s : State} (h : s.drive = 0) :
    ∃ t, exec (.zeroCrossing dt) s = .next t ∧ t.lamp.firingDue = none :=
  ⟨_, rfl, State.firingAt_of_drive_zero ((State.drive_crossing _ (s.elapse dt)).trans h)⟩

theorem State.delayInForce_of_drive_zero {s : State} (h : s.drive = 0) : s.delayInForce = none := if_pos h

/-- Settles O27: the bounds are the law's order read at the two ends of the drive, 0 and 1000. -/
theorem lampLawInterpolates : Obligations.LampLawInterpolates := by
  unfold Obligations.LampLawInterpolates
  refine ⟨fun w x y _ hw hmax hmin _ hxy hy => ?_,
    fun dt s hdrive => ⟨State.delayInForce_of_drive_zero hdrive, exec_zeroCrossing_of_drive_zero dt hdrive⟩⟩
  have hx : x ≤ 1000 := hxy.trans hy
  have hend : lawDelay w 1000 = w.getD 10 0 := lawDelay_at_entry w (le_refl _) rfl
  have hstart : lawDelay w 0 = w.getD 0 0 := lawDelay_at_entry w (Nat.zero_le _) rfl
  have hlow : w.getD 10 0 ≤ lawDelay w x := hend ▸ lawDelay_antitone hw hx (le_refl _)
  have hhigh : lawDelay w x ≤ w.getD 0 0 := hstart ▸ lawDelay_antitone hw (Nat.zero_le _) hx
  exact ⟨fun _ => lawDelay_eq w hx, hend, lawDelay_at_entry w hx, lawDelay_antitone hw hxy hy, hlow, hhigh,
    hmin.trans hlow, hhigh.trans hmax⟩

end Sys2Proof.Machine
end

section
/-! The cue map (R116, R131 to R133, R140): a link command whose answer is known, the entry of an ordinal, and the four
commands that bind and empty the map. -/

namespace Sys2Proof.Machine

/-! ## Taking a link command with a known answer (R172) -/

section LinkAnswers

variable {code len : Nat} {h : Header} {args : List Byte} {body : State → Answer} {s : State}

/-- Tests 2 and 3 of R172 pass below PL 3 on a frame of the table's length. -/
theorem commandTests_framed (hpl : s.prot.pl < 3) (hlen : args.length = len) :
    commandTests code len args body s.framed = body s.framed := by
  have hpl' : ¬ 3 ≤ s.framed.prot.pl := Nat.not_le.mpr hpl
  simp [commandTests, hpl', hlen]

theorem linkCommand_accepts {u : State} (ht : s.takes h) (hpl : s.prot.pl < 3) (hlen : args.length = len)
    (hcode : givesUpState code = false) (hbody : body s.framed = .ok u) (hquiet : s.framed.settleFrom u = u) :
    linkCommand code len h args body s = .next (State.replied h .accepted [] u) := by
  have htests : commandTests code len args body s.framed = .ok u := (commandTests_framed hpl hlen).trans hbody
  rw [linkCommand_takes code len h args body s ht (.inr hcode), htests]
  exact congrArg (fun v => Host.Outcome.next (State.replied h .accepted [] v)) hquiet

/-- A refused command has no effect but its reply. -/
theorem linkCommand_testsRefuse {r : ResultCode} (ht : s.takes h) (hcode : givesUpState code = false)
    (htests : commandTests code len args body s.framed = .refuse r s.framed) :
    linkCommand code len h args body s = .next (s.framed.replied h r []) := by
  rw [linkCommand_takes code len h args body s ht (.inr hcode), htests]
  exact congrArg (fun v => Host.Outcome.next (State.replied h r [] v)) s.framed.settleFrom_self

theorem linkCommand_bodyRefuses {r : ResultCode} (ht : s.takes h) (hpl : s.prot.pl < 3) (hlen : args.length = len)
    (hcode : givesUpState code = false) (hbody : body s.framed = .refuse r s.framed) :
    linkCommand code len h args body s = .next (s.framed.replied h r []) :=
  linkCommand_testsRefuse ht hcode ((commandTests_framed hpl hlen).trans hbody)

theorem linkCommand_lockout (ht : s.takes h) (hpl : 3 ≤ s.prot.pl) (hcode : givesUpState code = false)
    (hlock : takenAtLockout code = false) :
    linkCommand code len h args body s = .next (s.framed.replied h .lockout []) :=
  linkCommand_testsRefuse ht hcode (if_pos ⟨hpl, hlock⟩)

end LinkAnswers

/-! ## The entry of an ordinal (R127, R133) -/

theorem State.entryOfOrdinal_eq_none {n : Nat} {s : State} (h : n = 0 ∨ s.cue.entries.length < n) :
    s.entryOfOrdinal n = none := by
  rcases h with rfl | hn
  · rfl
  · have hpos : n ≠ 0 := by omega
    rw [State.entryOfOrdinal, if_neg hpos]
    exact List.getElem?_eq_none (by omega)

theorem State.exists_entryOfOrdinal {n : Nat} {s : State} (hpos : n ≠ 0) (hn : n ≤ s.cue.entries.length) :
    ∃ e, s.entryOfOrdinal n = some e := by
  rw [State.entryOfOrdinal, if_neg hpos]
  exact ⟨_, List.getElem?_eq_getElem (by omega)⟩

/-- Ordinals count from 1: writing at index n - 1 writes the one entry whose ordinal is n. -/
theorem modify_ordinal_eq_mapIdx {α : Type} {n : Nat} (hpos : n ≠ 0) (f : α → α) (l : List α) :
    l.modify (n - 1) f = l.mapIdx (fun i e => if i + 1 = n then f e else e) := by
  have hindex (i : Nat) : n - 1 = i ↔ i + 1 = n := by omega
  refine List.ext_getElem? fun i => ?_
  rw [List.getElem?_modify, List.getElem?_mapIdx]
  simp only [hindex]
  split_ifs <;> simp

theorem State.bindEntry_eq {n : Nat} (hpos : n ≠ 0) (slot : Option Nat) (s : State) :
    s.bindEntry n slot = { s with cue := { s.cue with
      entries := s.cue.entries.mapIdx (fun i e => if i + 1 = n then { e with slot := slot } else e) } } := by
  rw [State.bindEntry, modify_ordinal_eq_mapIdx hpos]

/-! ## The cue map and its references are no term of the derived quantities -/

theorem State.settleFrom_bindEntry (n : Nat) (slot : Option Nat) (s : State) :
    s.settleFrom (s.bindEntry n slot) = s.bindEntry n slot :=
  s.settleFrom_quiet _ rfl rfl rfl rfl

theorem State.settleFrom_emptyMap (s : State) : s.settleFrom s.emptyMap = s.emptyMap :=
  s.settleFrom_quiet _ rfl rfl rfl rfl

/-! ## BIND-CUE (R133, R176) -/

section BindCue

variable {h : Header} {s : State} {n slot : Byte}

theorem execBindCue_unknownCue (ht : s.takes h) (hpl : s.prot.pl < 3)
    (hn : n = 0#8 ∨ s.cue.entries.length < n.toNat) :
    execBindCue h [n, slot] s = .next (s.framed.replied h .unknownCue []) := by
  have hnone : s.framed.entryOfOrdinal (arg [n, slot] 0) = none :=
    State.entryOfOrdinal_eq_none (hn.imp_left (congrArg BitVec.toNat))
  refine linkCommand_bodyRefuses ht hpl rfl rfl ?_
  rw [hnone]

variable (ht : s.takes h) (hpl : s.prot.pl < 3) (hpos : n.toNat ≠ 0) (hn : n.toNat ≤ s.cue.entries.length)
include ht hpl hpos hn

theorem execBindCue_badSlot (hslot : slot.toNat ≠ 255) (htray : s.items.traySize < slot.toNat) :
    execBindCue h [n, slot] s = .next (s.framed.replied h .badSlot []) := by
  obtain ⟨e, he⟩ : ∃ e, s.framed.entryOfOrdinal (arg [n, slot] 0) = some e := State.exists_entryOfOrdinal hpos hn
  refine linkCommand_bodyRefuses ht hpl rfl rfl ?_
  rw [he]
  exact (if_neg hslot).trans (if_pos htray)

theorem execBindCue_slot (hslot : slot.toNat ≠ 255) (htray : slot.toNat ≤ s.items.traySize) :
    execBindCue h [n, slot] s
      = .next (State.replied h .accepted [] (s.framed.bindEntry n.toNat (some slot.toNat))) := by
  obtain ⟨e, he⟩ : ∃ e, s.framed.entryOfOrdinal (arg [n, slot] 0) = some e := State.exists_entryOfOrdinal hpos hn
  refine linkCommand_accepts ht hpl rfl rfl ?_ (State.settleFrom_bindEntry _ _ _)
  rw [he]
  exact (if_neg hslot).trans (if_neg (Nat.not_lt.mpr htray))

theorem execBindCue_unbind (hslot : slot.toNat = 255) :
    execBindCue h [n, slot] s = .next (State.replied h .accepted [] (s.framed.bindEntry n.toNat none)) := by
  obtain ⟨e, he⟩ : ∃ e, s.framed.entryOfOrdinal (arg [n, slot] 0) = some e := State.exists_entryOfOrdinal hpos hn
  refine linkCommand_accepts ht hpl rfl rfl ?_ (State.settleFrom_bindEntry _ _ _)
  rw [he]
  exact if_pos hslot

end BindCue

/-! ## CLEAR-MAP and the cassette switch (R116, R131, R132, R140) -/

theorem execClearMap_accepted {h : Header} {s : State} (ht : s.takes h) (hpl : s.prot.pl < 3) :
    execClearMap h [] s = .next (State.replied h .accepted [] s.framed.emptyMap) :=
  linkCommand_accepts ht hpl rfl rfl rfl s.framed.settleFrom_emptyMap

/-- Every tracker is reset, whether or not the decoding mode changes. -/
theorem State.setTransport_resetTrackers_dec (st : TransportState) (s : State) :
    ((s.setTransport st).resetTrackers).dec = { s.dec with trackers := idleTrackers } := by
  simp only [State.resetTrackers, State.setTransport]
  split_ifs <;> rfl

theorem execCassetteRemoval_present {s : State} (hc : s.tape.cassette = true) :
    execCassetteRemoval s = .next (State.emptyMap { s with
      tape := { s.tape with
        state := .noCassette, cassette := false, counter := 0, pause := noPause, tachDue := none, seekTarget := none }
      dec := { s.dec with trackers := idleTrackers }, cue := { s.cue with debt := 0 } }) := by
  rw [execCassetteRemoval, if_pos hc, ← s.setTransport_resetTrackers_dec .noCassette]
  rfl

/-- No decoding mode changes where a cassette is put in, so the decoder stays as it is. -/
theorem execCassetteInsertion_absent {s : State} (hc : s.tape.cassette = false) (hstate : s.tape.state = .noCassette) :
    execCassetteInsertion s = .next { s with tape := { s.tape with
      state := .stopped, cassette := true, counter := 0, direction := .forward, pause := noPause
      tachDue := none, seekTarget := none } } := by
  have hmode : TransportState.stopped.mode = s.tape.state.mode := by rw [hstate]; rfl
  simp [execCassetteInsertion, hc, State.setTransport, hmode, TransportState.driven, TransportState.playing]

theorem idleTrackers_get (k : ToneClass) : idleTrackers.get k = idleTracker := by
  cases k <;> rfl

/-- Settles O40: each clause is the command's own rule, with its frame. -/
theorem cueMapIsBoundAndEmptied : Obligations.CueMapIsBoundAndEmptied := by
  unfold Obligations.CueMapIsBoundAndEmptied
  refine ⟨fun h s n slot ht hpl => ?bind, fun s => ⟨fun h ht hpl => execClearMap_accepted ht hpl,
    fun h ht hpl => linkCommand_lockout ht hpl rfl rfl, fun hc => ?removal, fun hc => if_neg (by simp [hc]),
    fun hc => if_pos hc, fun hc hstate => execCassetteInsertion_absent hc hstate⟩⟩
  case bind =>
    have hpos (h0 : n ≠ 0#8) : n.toNat ≠ 0 := fun hz => h0 (BitVec.eq_of_toNat_eq hz)
    have hslot (h1 : slot ≠ 255#8) : slot.toNat ≠ 255 := fun hz => h1 (BitVec.eq_of_toNat_eq hz)
    refine ⟨fun hn => execBindCue_unknownCue ht hpl hn,
      fun h0 hn h1 htray => execBindCue_badSlot ht hpl (hpos h0) hn (hslot h1) htray,
      fun h0 hn h1 htray => ?_, fun h0 hn h1 => ?_⟩
    · have hbind := execBindCue_slot ht hpl (hpos h0) hn (hslot h1) htray
      rw [State.bindEntry_eq (hpos h0)] at hbind
      exact hbind
    · have hbind := execBindCue_unbind ht hpl (hpos h0) hn (congrArg BitVec.toNat h1)
      rw [State.bindEntry_eq (hpos h0)] at hbind
      exact hbind
  case removal =>
    exact ⟨_, execCassetteRemoval_present hc, rfl, fun k => by simp [State.emptyMap, idleTrackers_get, idleTracker]⟩

end Sys2Proof.Machine
end

section
/-! The sound output (R59, R118) and the display (R168). -/

namespace Sys2Proof.Machine

/-! ## The attenuator and its two mutes (R59, R118) -/

theorem State.attenuation_le (s : State) : s.attenuation ≤ 96 := by
  unfold State.attenuation
  omega

/-- Within ten of full level the formula is below one half-decibel step, which truncation takes to 0. -/
theorem State.attenuation_of_top_levels {s : State} (h : 990 ≤ s.fade.audio.level) : s.attenuation = 0 := by
  unfold State.attenuation
  omega

/-- The greatest attenuation marks level 0: from level 1 on the formula gives at most 95. -/
theorem State.attenuation_lt_of_level_pos {s : State} (h : 0 < s.fade.audio.level) : s.attenuation < 96 := by
  unfold State.attenuation
  omega

theorem State.levelMute_iff (s : State) : s.levelMute = true ↔ s.fade.audio.level = 0 := beq_iff_eq

theorem State.transportMute_iff (s : State) : s.transportMute = true ↔ s.tape.state ≠ .play := bne_iff_ne

theorem State.muted_iff (s : State) : s.muted = true ↔ s.fade.audio.level = 0 ∨ s.tape.state ≠ .play :=
  (Bool.or_eq_true _ _).to_iff.trans (or_congr s.levelMute_iff s.transportMute_iff)

/-! ## The three cases of the display, in order (R168) -/

/-- PL is the level of the top entry, and 0 where there is none (R145). -/
theorem exists_topFault_of_pl_pos {s : State} (hlaw : FaultLaw s) (hpl : 0 < s.prot.pl) :
    ∃ e, s.prot.stack.head? = some e := by
  obtain ⟨-, -, -, htop⟩ := hlaw
  cases hstack : s.prot.stack.head? with
  | some e => exact ⟨e, rfl⟩
  | none =>
    rw [hstack] at htop
    exact absurd htop hpl.ne'

theorem State.display_fault {s : State} {e : FaultEntry} (hpl : 0 < s.prot.pl) (htop : s.prot.stack.head? = some e) :
    s.display = .fault e.cause.number := by
  rw [State.display, if_pos hpl, htop]
  rfl

theorem State.display_unknown {s : State} (hpl : s.prot.pl = 0) (hpos : s.changer.position = none) :
    s.display = .unknown := by
  simp [State.display, hpl, hpos]

theorem State.display_position {s : State} {p : Nat} (hpl : s.prot.pl = 0) (hpos : s.changer.position = some p) :
    s.display = .position p := by
  simp [State.display, hpl, hpos]

/-! ## The characters of a number (R168) -/

theorem digitChar_of_lt_ten {n : Nat} (h : n < 10) : digitChar n = n.digitChar := by
  interval_cases n <;> rfl

theorem digitChar_mod_ten (n : Nat) : digitChar (n % 10) = digitChar n := by
  rw [digitChar, Nat.mod_mod, ← digitChar]

/-- The last digit stands in the last place, after the digits of the tens. -/
theorem toDigits_append_digitChar {n : Nat} (h : 10 ≤ n) :
    Nat.toDigits 10 n = Nat.toDigits 10 (n / 10) ++ [digitChar n] := by
  rw [Nat.toDigits_of_base_le (by decide) h, ← digitChar_of_lt_ten (Nat.mod_lt n (by decide)), digitChar_mod_ten]

theorem toDigits_one_digit {n : Nat} (h : n < 10) : Nat.toDigits 10 n = [digitChar n] := by
  rw [Nat.toDigits_of_lt_base h, digitChar_of_lt_ten h]

theorem toDigits_two_digits {n : Nat} (hlow : 10 ≤ n) (h : n < 100) :
    Nat.toDigits 10 n = [digitChar (n / 10), digitChar n] := by
  rw [toDigits_append_digitChar hlow, toDigits_one_digit (by omega : n / 10 < 10)]
  rfl

theorem toDigits_three_digits {n : Nat} (hlow : 100 ≤ n) (h : n < 1000) :
    Nat.toDigits 10 n = [digitChar (n / 100), digitChar (n / 10), digitChar n] := by
  rw [toDigits_append_digitChar (by omega : 10 ≤ n),
    toDigits_two_digits (by omega : 10 ≤ n / 10) (by omega : n / 10 < 100), Nat.div_div_eq_div_mul]
  rfl

/-- Blanks fill the places before the decimal digits; the case split is on how many digits there are. -/
theorem Display.chars_position {n : Nat} (h : n < 1000) :
    (Display.position n).chars
      = List.replicate (3 - (Nat.toDigits 10 n).length) ' ' ++ Nat.toDigits 10 n := by
  rcases Nat.lt_or_ge n 10 with hones | htens
  · have hhundred : n < 100 := by omega
    simp [Display.chars, toDigits_one_digit hones, hones, hhundred, List.replicate]
  · rcases Nat.lt_or_ge n 100 with hhundred | hhundreds
    · simp [Display.chars, toDigits_two_digits htens hhundred, Nat.not_lt.mpr htens, hhundred]
    · simp [Display.chars, toDigits_three_digits hhundreds h, Nat.not_lt.mpr htens, Nat.not_lt.mpr hhundreds]

theorem Display.chars_fault (c : Cause) :
    (Display.fault c.number).chars = ['E', ' ', ['0', '1', '2', '3', '4', '5', '6', '7'].getD c.number '?'] := by
  cases c <;> rfl

/-- Settles O29: with PL above 0 the fault law gives the top entry that the display names. -/
theorem soundAndDisplayShowTheState : Obligations.SoundAndDisplayShowTheState := by
  unfold Obligations.SoundAndDisplayShowTheState
  refine fun s => ⟨rfl, s.attenuation_le, s.levelMute_iff, s.transportMute_iff, s.muted_iff,
    State.attenuation_of_top_levels, fun _ hatt => ?silence, fun hlaw hpl => ?fault, fun hpl hpos => ?unknown,
    fun hpl n hpos hn => ?position⟩
  case silence => exact Nat.eq_zero_of_not_pos fun hlevel => (State.attenuation_lt_of_level_pos hlevel).ne hatt
  case fault =>
    obtain ⟨e, htop⟩ := exists_topFault_of_pl_pos hlaw hpl
    exact ⟨e, htop, (congrArg Display.chars (State.display_fault hpl htop)).trans (Display.chars_fault e.cause)⟩
  case unknown => exact congrArg Display.chars (State.display_unknown hpl hpos)
  case position =>
    have hrange : n < 1000 := by omega
    exact (congrArg Display.chars (State.display_position hpl hpos)).trans (Display.chars_position hrange)

end Sys2Proof.Machine
end

section
/-! What a step keeps, said once: the laws of the state that a step leaves true, block by block. -/

namespace Sys2Proof.Machine

/-! ## The laws of the state and the blocks they read -/

/-- GateLaw speaks of the changer alone. -/
def Changer.GateOk (c : Changer) : Prop :=
  (∀ i e, c.map[i]? = some e → e.state = EntryState.inGate → c.position = some (i + 1) ∧ c.state.gateEmpty = false)
    ∧ (c.position = none → ∀ e ∈ c.map, e.state = EntryState.unseen)
    ∧ (c.state = .homing ∨ c.state = .lost → c.position = none)

theorem gateLaw_iff (s : State) : GateLaw s ↔ s.changer.GateOk := Iff.rfl

/-- The changer's part of StackLaw on a ring of t + 1 positions. -/
def Changer.PosOk (t : Nat) (c : Changer) : Prop :=
  (∀ p, c.position = some p → p ≤ t) ∧ (c.trayPresent = false → c.state = .lost ∧ c.position = none)

/-- The arbiter's part of StackLaw. -/
def StackOk (t : Nat) (stack : List Nat) : Prop := stack.length ≤ 6 ∧ ∀ p ∈ stack, p ≤ t

theorem stackLaw_iff (s : State) :
    StackLaw s ↔ StackOk s.items.traySize s.arb.stack ∧ s.changer.PosOk s.items.traySize := Iff.rfl

/-- t obeys every law of the state that s obeys, the commands that wait stay as they are, and the clock does not go
back. The law of cooldown is apart: it holds only once what follows from an effect has been settled. -/
structure Keeps (s t : State) : Prop where
  queue : QueueLaw s → QueueLaw t
  stack : StackLaw s → StackLaw t
  completion : CompletionLaw s → CompletionLaw t
  gate : GateLaw s → GateLaw t
  fault : FaultLaw s → FaultLaw t
  faultLevel : FaultLevelLaw s → FaultLevelLaw t
  fade : FadeLaw s → FadeLaw t
  guard : GuardLaw s → GuardLaw t
  lampRange : LampRangeLaw s → LampRangeLaw t
  scan : ScanLaw s → ScanLaw t
  cueMap : CueMapLaw s → CueMapLaw t
  debt : DebtLaw s → DebtLaw t
  pause : PauseLaw s → PauseLaw t
  pending : t.pending = s.pending
  clock : s.clock ≤ t.clock

theorem Keeps.refl (s : State) : Keeps s s :=
  ⟨id, id, id, id, id, id, id, id, id, id, id, id, id, rfl, le_rfl⟩

theorem Keeps.trans {s t u : State} (h : Keeps s t) (k : Keeps t u) : Keeps s u :=
  ⟨k.queue ∘ h.queue, k.stack ∘ h.stack, k.completion ∘ h.completion, k.gate ∘ h.gate, k.fault ∘ h.fault,
    k.faultLevel ∘ h.faultLevel, k.fade ∘ h.fade, k.guard ∘ h.guard, k.lampRange ∘ h.lampRange, k.scan ∘ h.scan,
    k.cueMap ∘ h.cueMap, k.debt ∘ h.debt, k.pause ∘ h.pause,
    k.pending.trans h.pending, h.clock.trans k.clock⟩

/-- A law that reads certain blocks is kept by a step that changes none of them: what is left to prove of a step is the
laws that read a block of its frame. -/
theorem Keeps.of_frame {bs : List Block} {s t : State} (h : s.onlyChanges bs t)
    (queue : Block.arb ∈ bs ∨ Block.prot ∈ bs → QueueLaw s → QueueLaw t)
    (stack : Block.arb ∈ bs ∨ Block.changer ∈ bs ∨ Block.items ∈ bs → StackLaw s → StackLaw t)
    (completion : Block.arb ∈ bs → CompletionLaw s → CompletionLaw t)
    (gate : Block.changer ∈ bs → GateLaw s → GateLaw t)
    (fault : Block.prot ∈ bs → FaultLaw s → FaultLaw t)
    (faultLevel : Block.prot ∈ bs → FaultLevelLaw s → FaultLevelLaw t)
    (fade : Block.fade ∈ bs ∨ Block.changer ∈ bs ∨ Block.items ∈ bs ∨ Block.store ∈ bs → FadeLaw s → FadeLaw t)
    (guard : Block.lamp ∈ bs ∨ Block.items ∈ bs → GuardLaw s → GuardLaw t)
    (lampRange : Block.items ∈ bs ∨ Block.store ∈ bs → LampRangeLaw s → LampRangeLaw t)
    (scan : Block.scan ∈ bs ∨ Block.store ∈ bs → ScanLaw s → ScanLaw t)
    (cueMap : Block.cue ∈ bs ∨ Block.items ∈ bs ∨ Block.tape ∈ bs → CueMapLaw s → CueMapLaw t)
    (debt : Block.cue ∈ bs ∨ Block.arb ∈ bs → DebtLaw s → DebtLaw t)
    (pause : Block.tape ∈ bs ∨ Block.prot ∈ bs → PauseLaw s → PauseLaw t)
    (pending : Block.pending ∉ bs) (clock : Block.clock ∈ bs → s.clock ≤ t.clock) : Keeps s t where
  queue := by
    by_cases hb : Block.arb ∈ bs ∨ Block.prot ∈ bs
    · exact queue hb
    · obtain ⟨ha, hp⟩ := not_or.mp hb
      have ea : t.arb = s.arb := h .arb ha
      have ep : t.prot = s.prot := h .prot hp
      simp only [QueueLaw, ea, ep]; exact id
  stack := by
    by_cases hb : Block.arb ∈ bs ∨ Block.changer ∈ bs ∨ Block.items ∈ bs
    · exact stack hb
    · obtain ⟨ha, hci⟩ := not_or.mp hb
      obtain ⟨hc, hi⟩ := not_or.mp hci
      have ea : t.arb = s.arb := h .arb ha
      have ec : t.changer = s.changer := h .changer hc
      have ei : t.items = s.items := h .items hi
      simp only [StackLaw, ea, ec, ei]; exact id
  completion := by
    by_cases hb : Block.arb ∈ bs
    · exact completion hb
    · have ea : t.arb = s.arb := h .arb hb
      simp only [CompletionLaw, ea]; exact id
  gate := by
    by_cases hb : Block.changer ∈ bs
    · exact gate hb
    · have ec : t.changer = s.changer := h .changer hb
      simp only [GateLaw, ec]; exact id
  fault := by
    by_cases hb : Block.prot ∈ bs
    · exact fault hb
    · have ep : t.prot = s.prot := h .prot hb
      simp only [FaultLaw, ep]; exact id
  faultLevel := by
    by_cases hb : Block.prot ∈ bs
    · exact faultLevel hb
    · have ep : t.prot = s.prot := h .prot hb
      simp only [FaultLevelLaw, ep]; exact id
  fade := by
    by_cases hb : Block.fade ∈ bs ∨ Block.changer ∈ bs ∨ Block.items ∈ bs ∨ Block.store ∈ bs
    · exact fade hb
    · simp only [not_or] at hb
      obtain ⟨hf, hc, hi, hs⟩ := hb
      have ef : t.fade = s.fade := h .fade hf
      have ec : t.changer = s.changer := h .changer hc
      have ei : t.items = s.items := h .items hi
      have es : t.store = s.store := h .store hs
      simp only [FadeLaw, LevelSources, ef, ec, ei, es]; exact id
  guard := by
    by_cases hb : Block.lamp ∈ bs ∨ Block.items ∈ bs
    · exact guard hb
    · obtain ⟨hl, hi⟩ := not_or.mp hb
      have el : t.lamp = s.lamp := h .lamp hl
      have ei : t.items = s.items := h .items hi
      simp only [GuardLaw, el, ei]; exact id
  lampRange := by
    by_cases hb : Block.items ∈ bs ∨ Block.store ∈ bs
    · exact lampRange hb
    · obtain ⟨hi, hs⟩ := not_or.mp hb
      have ei : t.items = s.items := h .items hi
      have es : t.store = s.store := h .store hs
      simp only [LampRangeLaw, ei, es]; exact id
  scan := by
    by_cases hb : Block.scan ∈ bs ∨ Block.store ∈ bs
    · exact scan hb
    · obtain ⟨hc, hs⟩ := not_or.mp hb
      have ec : t.scan = s.scan := h .scan hc
      have es : t.store = s.store := h .store hs
      simp only [ScanLaw, ec, es]; exact id
  cueMap := by
    by_cases hb : Block.cue ∈ bs ∨ Block.items ∈ bs ∨ Block.tape ∈ bs
    · exact cueMap hb
    · simp only [not_or] at hb
      obtain ⟨hc, hi, ht⟩ := hb
      have ec : t.cue = s.cue := h .cue hc
      have ei : t.items = s.items := h .items hi
      have et : t.tape = s.tape := h .tape ht
      simp only [CueMapLaw, ec, ei, et]; exact id
  debt := by
    by_cases hb : Block.cue ∈ bs ∨ Block.arb ∈ bs
    · exact debt hb
    · obtain ⟨hc, ha⟩ := not_or.mp hb
      have ec : t.cue = s.cue := h .cue hc
      have ea : t.arb = s.arb := h .arb ha
      simp only [DebtLaw, ec, ea]; exact id
  pause := by
    by_cases hb : Block.tape ∈ bs ∨ Block.prot ∈ bs
    · exact pause hb
    · obtain ⟨ht, hp⟩ := not_or.mp hb
      have et : t.tape = s.tape := h .tape ht
      have ep : t.prot = s.prot := h .prot hp
      simp only [PauseLaw, et, ep]; exact id
  pending := h .pending pending
  clock := by
    by_cases hb : Block.clock ∈ bs
    · exact clock hb
    · exact (h .clock hb : t.clock = s.clock).ge

/-- The blocks that no law reads, less the model's own clock and queue. -/
abbrev freeBlocks : List Block := [.cool, .dec, .link, .panel, .usage, .law, .freeCount]

theorem Keeps.of_free {s t : State} (h : s.onlyChanges freeBlocks t) : Keeps s t := by
  apply Keeps.of_frame h
  all_goals exact fun hb => absurd hb (by decide)

end Sys2Proof.Machine
end

section
/-! What the operations of the transport, the arbiter and the cue map do to the laws of the state. -/

namespace Sys2Proof.Machine

/-! ## The pause reasons as the tape takes them (R111, R112) -/

theorem TransportState.playing_iff (st : TransportState) : st.playing = true ↔ st = .play ∨ st = .paused := by
  cases st <;> simp [TransportState.playing]

theorem State.addReason_tape (r : PauseReason) (s : State) : (s.addReason r).tape = s.tape.adds r := by
  unfold State.addReason Tape.adds
  simp only [TransportState.playing_iff]
  split <;> rfl

theorem State.removeReason_tape (r : PauseReason) (s : State) :
    (s.removeReason r).tape = s.tape.drops r s.clock := by
  unfold State.removeReason Tape.drops
  simp only [TransportState.playing_iff]
  split
  · by_cases hleft : s.tape.pause.put r false = ⟨false, false, false, false⟩
    · rw [if_pos (by exact hleft), if_pos hleft]; rfl
    · rw [if_neg (by exact hleft), if_neg hleft]
  · rfl

theorem PauseSet.put_true_ne (p : PauseSet) (r : PauseReason) : p.put r true ≠ ⟨false, false, false, false⟩ := by
  cases r <;> simp [PauseSet.put]

/-! ## The laws that read the tape -/

/-- The set of pause reasons is empty exactly while the tape is not PAUSED (R111). -/
abbrev Tape.PauseOk (tp : Tape) : Prop := tp.pause = ⟨false, false, false, false⟩ ↔ tp.state ≠ .paused

/-- What a move of the tape keeps for the laws: the cassette as it is, NO-CASSETTE where it was, the set of pause
reasons lawful, and no play where the tape did not play. -/
structure Tape.Moves (a b : Tape) : Prop where
  cassette : b.cassette = a.cassette
  absent : b.state = .noCassette ↔ a.state = .noCassette
  pause : a.PauseOk → b.PauseOk
  still : a.state ≠ .play ∧ a.state ≠ .paused → b.state ≠ .play ∧ b.state ≠ .paused

theorem Tape.Moves.refl (a : Tape) : a.Moves a := ⟨rfl, Iff.rfl, id, id⟩

theorem Tape.Moves.trans {a b c : Tape} (h : a.Moves b) (k : b.Moves c) : a.Moves c :=
  ⟨k.cassette.trans h.cassette, k.absent.trans h.absent, k.pause ∘ h.pause, k.still ∘ h.still⟩

theorem Tape.Moves.pauseLaw {s t : State} (h : s.tape.Moves t.tape) (hpl : t.prot.pl = s.prot.pl) :
    PauseLaw s → PauseLaw t := by
  rintro ⟨hpause, hstill⟩
  exact ⟨h.pause hpause, fun h3 => h.still (hstill (hpl ▸ h3))⟩

theorem Tape.Moves.cueMapLaw {s t : State} (h : s.tape.Moves t.tape) (he : t.cue.entries = s.cue.entries)
    (hi : t.items = s.items) : CueMapLaw s → CueMapLaw t := by
  rintro ⟨hlen, hsorted, habsent⟩
  refine ⟨he ▸ hlen, by rw [he, hi]; exact hsorted, fun hc => ?_⟩
  rw [h.cassette] at hc
  exact ⟨he ▸ (habsent hc).1, h.absent.mpr (habsent hc).2⟩

theorem Keeps.of_tape {s t : State} (hf : s.onlyChanges [.tape, .dec] t) (h : s.tape.Moves t.tape) : Keeps s t := by
  apply Keeps.of_frame hf
  case cueMap => exact fun _ => h.cueMapLaw (congrArg CueMap.entries (hf .cue (by decide))) (hf .items (by decide))
  case pause => exact fun _ => h.pauseLaw (congrArg Protect.pl (hf .prot (by decide)))
  all_goals exact fun hb => absurd hb (by decide)

/-- A tape that enters a state in which it does not play holds no pause reason. -/
theorem State.setTransport_moves (st : TransportState) (s : State) (hst : st.playing = false) (hne : st ≠ .noCassette)
    (hs : s.tape.state ≠ .noCassette) : s.tape.Moves (s.setTransport st).tape where
  cassette := rfl
  absent := iff_of_false hne hs
  pause := fun _ => iff_of_true (if_neg (by simp [hst])) (by rintro rfl; cases hst)
  still := fun _ => by cases st <;> simp_all [State.setTransport, TransportState.playing]

theorem State.addReason_moves (r : PauseReason) (s : State) : s.tape.Moves (s.addReason r).tape := by
  rw [State.addReason_tape]
  unfold Tape.adds
  dsimp only
  split
  · next h =>
    refine ⟨rfl, ?_, fun _ => ?_, fun hn => ?_⟩
    · rcases h with h | h <;> simp [h]
    · simp [Tape.PauseOk, PauseSet.put_true_ne]
    · exact absurd h (not_or.mpr hn)
  · exact ⟨rfl, Iff.rfl, id, id⟩

theorem State.removeReason_moves (r : PauseReason) (s : State) : s.tape.Moves (s.removeReason r).tape := by
  rw [State.removeReason_tape]
  unfold Tape.drops
  dsimp only
  split
  · next h =>
    obtain ⟨h, hin⟩ := h
    have hne : s.tape.state ≠ .noCassette := by rcases h with h | h <;> simp [h]
    have hplay : ¬ (s.tape.state ≠ .play ∧ s.tape.state ≠ .paused) := fun hn => (not_or.mpr hn) h
    have hset : s.tape.pause ≠ ⟨false, false, false, false⟩ := by
      intro h0; rw [h0] at hin; cases r <;> cases hin
    split
    · next hleft => exact ⟨rfl, iff_of_false nofun hne, fun _ => by simp [Tape.PauseOk, hleft], fun hn => absurd hn hplay⟩
    · next hleft =>
      refine ⟨rfl, Iff.rfl, fun hok => iff_of_false hleft (not_not.mpr ?_), id⟩
      exact Decidable.not_not.mp fun hn => hset (hok.mpr hn)
  · exact ⟨rfl, Iff.rfl, id, id⟩

theorem State.stopTape_moves (c : StopCause) (s : State) : s.tape.Moves (s.stopTape c).tape := by
  unfold State.stopTape
  split
  · exact .refl _
  · exact ⟨rfl, Iff.rfl, id, id⟩
  · next hn _ =>
    have h := s.setTransport_moves .stopped rfl nofun hn
    exact ⟨h.cassette, h.absent, h.pause, h.still⟩

theorem State.addReason_keeps (r : PauseReason) (s : State) : Keeps s (s.addReason r) :=
  .of_tape (s.addReason_frame r) (s.addReason_moves r)

theorem State.removeReason_keeps (r : PauseReason) (s : State) : Keeps s (s.removeReason r) :=
  .of_tape (s.removeReason_frame r) (s.removeReason_moves r)

theorem State.stopTape_keeps (c : StopCause) (s : State) : Keeps s (s.stopTape c) :=
  .of_tape (s.stopTape_frame c) (s.stopTape_moves c)

theorem State.tapeEnds_keeps {st : TransportState} (c : StopCause) {s : State} (hst : st.playing = false)
    (hne : st ≠ .noCassette) (hs : s.tape.state ≠ .noCassette) : Keeps s (s.tapeEnds st c) := by
  have h := s.setTransport_moves st hst hne hs
  exact .of_tape (s.tapeEnds_frame st c) ⟨h.cassette, h.absent, h.pause, h.still⟩

theorem State.atLeader_keeps {s : State} (hs : s.tape.state ≠ .noCassette) : Keeps s s.atLeader :=
  .trans (t := { s with tape := { s.tape with counter := 0 } })
    (.of_tape (by intro b hb; cases b <;> first | rfl | simp at hb) ⟨rfl, Iff.rfl, id, id⟩)
    (State.tapeEnds_keeps _ rfl nofun hs)

theorem State.beginSeek_keeps {s : State} (n : Nat) (hs : s.tape.state ≠ .noCassette) : Keeps s (s.beginSeek n) := by
  have hstop := s.setTransport_moves .stopped rfl nofun hs
  have hseek (u : State) (hu : u.tape.state = s.tape.state) (hc : u.tape.cassette = s.tape.cassette) :
      s.tape.Moves (u.setTransport .seek).tape :=
    ⟨hc, iff_of_false nofun hs, fun _ => iff_of_true rfl nofun, fun _ => ⟨nofun, nofun⟩⟩
  refine .of_tape (s.beginSeek_frame n) ?_
  unfold State.beginSeek
  split
  · exact ⟨hstop.cassette, hstop.absent, hstop.pause, hstop.still⟩
  · exact hseek _ rfl rfl

/-- Entry to play builds the set from the standing reasons. It is taken below PL 3 only. -/
theorem State.enterPlay_keeps {s : State} (hs : s.tape.state ≠ .noCassette) (hpl : s.prot.pl < 3) :
    Keeps s s.enterPlay := by
  have hstate : s.enterPlay.tape.state = if s.tape.standing.toPause = noPause then .play else .paused := rfl
  have hset : s.enterPlay.tape.pause = s.tape.standing.toPause := rfl
  have hne : s.enterPlay.tape.state ≠ .noCassette := by rw [hstate]; split <;> nofun
  apply Keeps.of_frame s.enterPlay_frame
  case cueMap =>
    rintro _ ⟨hlen, hsorted, habsent⟩
    exact ⟨hlen, hsorted, fun hc => absurd (habsent hc).2 hs⟩
  case pause =>
    refine fun _ _ => ⟨?_, fun h3 => absurd (show 3 ≤ s.prot.pl from h3) (by omega)⟩
    rw [hset, hstate]
    split
    · next h => exact iff_of_true h nofun
    · next h => exact iff_of_false h (not_not.mpr rfl)
  all_goals exact fun hb => absurd hb (by decide)

theorem State.tapeOp_keeps {s : State} (op : TapeOp) (hpl : s.prot.pl < 3) : Keeps s (s.tapeOp op) := by
  unfold State.tapeOp
  cases op with
  | stop =>
    dsimp only
    split
    · exact .refl s
    · exact .refl s
    · exact s.stopTape_keeps _
  | play =>
    dsimp only
    split
    · exact .refl s
    split
    · exact .refl s
    · exact .refl s
    · exact s.removeReason_keeps _
    · next hn _ _ => exact State.enterPlay_keeps hn hpl
  | fastFwd =>
    dsimp only
    split
    · exact .refl s
    split
    · exact .refl s
    · exact .refl s
    · next hn _ => exact .of_tape (s.setTransport_frame _) (s.setTransport_moves _ rfl nofun hn)
  | rewind =>
    dsimp only
    split
    · exact .refl s
    split
    · exact .refl s
    · exact .refl s
    · next hn _ => exact .of_tape (s.setTransport_frame _) (s.setTransport_moves _ rfl nofun hn)

/-! ## Queues, stack and completion list -/

/-- The arbiter's fields that no law reads may change. -/
theorem Keeps.of_arb {s t : State} (h : s.onlyChanges [.arb] t) (hq : t.arb.queues = s.arb.queues)
    (hs : t.arb.stack = s.arb.stack) (hc : CompletionLaw s → CompletionLaw t) : Keeps s t :=
  have ep : t.prot = s.prot := h .prot (by decide)
  have ec : t.changer = s.changer := h .changer (by decide)
  have ei : t.items = s.items := h .items (by decide)
  have eq : t.cue = s.cue := h .cue (by decide)
  by
    apply Keeps.of_frame h
    case queue => exact fun _ => by simp only [QueueLaw, hq, ep]; exact id
    case stack => exact fun _ => by simp only [StackLaw, hs, ec, ei]; exact id
    case completion => exact fun _ => hc
    case debt => exact fun _ => by simp only [DebtLaw, hq, eq]; exact id
    all_goals exact fun hb => absurd hb (by decide)

theorem length_lastEight (l : List Completion) : (lastEight l).length ≤ 8 := by simp [lastEight]; omega

theorem State.addCompletion_keeps (c : Completion) (s : State) : Keeps s (s.addCompletion c) := by
  have h1 : Keeps s { s with arb := { s.arb with completions := lastEight (s.arb.completions ++ [c]) } } :=
    .of_arb (by intro b hb; cases b <;> first | rfl | simp at hb) rfl rfl (fun _ => length_lastEight _)
  exact h1.trans (.of_free ((State.raiseFlag_frame _ _).mono (by decide)))

theorem State.completeRequest_keeps (r : Request) (o : ChangeOutcome) (final : Option Nat) (s : State) :
    Keeps s (s.completeRequest r o final) := by
  unfold State.completeRequest
  split
  · exact s.addCompletion_keeps _
  · exact .refl s

theorem StackOk.sublist {t : Nat} {l l' : List Nat} (h : l'.Sublist l) : StackOk t l → StackOk t l' :=
  fun ⟨hlen, hle⟩ => ⟨h.length_le.trans hlen, fun p hp => hle p (h.subset hp)⟩

theorem StackOk.push {t : Nat} {l : List Nat} {p : Nat} (hp : p ≤ t) (h : StackOk t l) : StackOk t (pushPosition l p) := by
  refine ⟨List.length_take_le _ _, fun q hq => ?_⟩
  rcases List.mem_cons.mp (List.mem_of_mem_take hq) with rfl | hq
  · exact hp
  · exact h.2 q hq

theorem State.pushStack_keeps {s : State} {p : Nat} (hp : s.changer.position = some p) : Keeps s (s.pushStack p) := by
  apply Keeps.of_frame (bs := [.arb]) (by intro b hb; cases b <;> first | rfl | simp at hb)
  case queue => exact fun _ => id
  case completion => exact fun _ => id
  case debt => exact fun _ => id
  case stack => exact fun _ ⟨hstack, hpos⟩ => ⟨StackOk.push (hpos.1 p hp) hstack, hpos⟩
  all_goals exact fun hb => absurd hb (by decide)

theorem State.markPosition_keeps (s : State) : Keeps s s.markPosition := by
  unfold State.markPosition
  split
  · exact .refl s
  · next p hp => exact State.pushStack_keeps hp

theorem State.pushOrigin_keeps (q : Request) (s : State) : Keeps s (s.pushOrigin q) := by
  unfold State.pushOrigin
  split
  · exact .refl s
  · next p hp =>
    split
    · exact State.pushStack_keeps hp
    · exact .refl s

theorem State.cancelDwell_keeps (s : State) : Keeps s s.cancelDwell :=
  .of_arb (by intro b hb; cases b <;> first | rfl | simp at hb) rfl rfl id

theorem State.startDwell_keeps (s : State) : Keeps s s.startDwell := by
  unfold State.startDwell
  split
  · split <;> exact .of_arb (by intro b hb; cases b <;> first | rfl | simp at hb) rfl rfl id
  · exact .refl s

theorem State.takeHold_keeps (s : State) : Keeps s s.takeHold := by
  unfold State.takeHold
  split
  · exact .refl s
  · refine .trans ?_ (State.addReason_keeps _ _)
    exact .of_arb (by intro b hb; cases b <;> first | rfl | simp at hb) rfl rfl id

theorem State.takeResume_keeps (s : State) : Keeps s s.takeResume := by
  unfold State.takeResume
  split
  · refine .trans ?_ (State.removeReason_keeps _ _)
    exact .of_arb (by intro b hb; cases b <;> first | rfl | simp at hb) rfl rfl id
  · exact .refl s

theorem State.writeAuto_keeps (on : Bool) (s : State) : Keeps s (s.writeAuto on) := by
  unfold State.writeAuto
  dsimp only
  split
  · exact .of_arb (by intro b hb; cases b <;> first | rfl | simp at hb) rfl rfl id
  split
  · split
    · refine .trans ?_ (State.startDwell_keeps _)
      exact .of_arb (by intro b hb; cases b <;> first | rfl | simp at hb) rfl rfl id
    · exact .of_arb (by intro b hb; cases b <;> first | rfl | simp at hb) rfl rfl id
  · exact .of_arb (by intro b hb; cases b <;> first | rfl | simp at hb) rfl rfl id

end Sys2Proof.Machine
end

section
/-! What the queues, the cue debt and the Protect Unit do to the laws of the state. -/

namespace Sys2Proof.Machine

/-! ## Joining, reporting and flushing (R23, R25, R41, R137 to R139) -/

/-- Only the queues of the arbiter change. -/
theorem Keeps.of_queues {s t : State} (h : s.onlyChanges [.arb] t) (hs : t.arb.stack = s.arb.stack)
    (hc : t.arb.completions = s.arb.completions) (hq : QueueLaw s → QueueLaw t) (hd : DebtLaw s → DebtLaw t) :
    Keeps s t :=
  have ec : t.changer = s.changer := h .changer (by decide)
  have ei : t.items = s.items := h .items (by decide)
  by
    apply Keeps.of_frame h
    case queue => exact fun _ => hq
    case debt => exact fun _ => hd
    case stack => exact fun _ => by simp only [StackLaw, hs, ec, ei]; exact id
    case completion => exact fun _ => by simp only [CompletionLaw, hc]; exact id
    all_goals exact fun hb => absurd hb (by decide)

/-- A request that passes the tests of R25 finds room, below PL 2. -/
theorem State.refuses_eq_none {r : Request} {s : State} (h : s.refuses r = none) :
    s.prot.pl < 2 ∧ (s.arb.queues.get r.source).length < r.source.depth := by
  unfold State.refuses at h
  split at h
  · cases h
  split at h
  · cases h
  split at h
  · cases h
  split at h
  · cases h
  · omega

theorem State.join_keeps {r : Request} {s : State} (h : s.refuses r = none) : Keeps s (s.join r) := by
  obtain ⟨hpl, hroom⟩ := State.refuses_eq_none h
  refine .of_queues (s.join_frame r) rfl rfl ?_ ?_
  · rintro ⟨hlen, -⟩
    refine ⟨fun src => ?_, fun h2 => absurd (show 2 ≤ s.prot.pl from h2) (by omega)⟩
    by_cases hsrc : src = r.source
    · subst hsrc
      simp [State.join]
      omega
    · simpa [State.join, Queues.get_put_other _ _ _ _ hsrc] using hlen src
  · rintro ⟨hdebt, hcue, hfull⟩
    by_cases hsrc : r.source = .cue
    · have hroom' : s.arb.queues.cue.length < 4 := by rw [hsrc] at hroom; exact hroom
      have hzero : s.cue.debt = 0 := by
        by_contra hne
        exact absurd (hfull (Nat.pos_of_ne_zero hne)) (by omega)
      have hjoin : (s.join r).arb.queues.cue.length = s.arb.queues.cue.length + 1 := by
        simp [State.join, hsrc, Queues.put, Queues.get]
      refine ⟨hdebt, by omega, fun hpos => ?_⟩
      exact absurd (show 0 < s.cue.debt from hpos) (by omega)
    · have hsame : (s.join r).arb.queues.cue = s.arb.queues.cue :=
        Queues.get_put_other s.arb.queues r.source .cue _ (Ne.symm hsrc)
      refine ⟨hdebt, by rw [hsame]; exact hcue, fun hpos => by rw [hsame]; exact hfull hpos⟩

/-- Debt within its bound that falls keeps every law. -/
theorem State.owedPaid_keeps (s : State) : Keeps s { s with cue := { s.cue with debt := s.cue.debt - 1 } } := by
  apply Keeps.of_frame (bs := [.cue]) (by intro b hb; cases b <;> first | rfl | simp at hb)
  case cueMap => exact fun _ => id
  case debt => exact fun _ ⟨hdebt, hcue, hfull⟩ => ⟨(Nat.sub_le _ _).trans hdebt, hcue, fun hpos => hfull (by
      have : 0 < s.cue.debt - 1 := hpos
      omega)⟩
  all_goals exact fun hb => absurd hb (by decide)

theorem State.offerOwed_keeps (s : State) : Keeps s s.offerOwed := by
  unfold State.offerOwed
  dsimp only
  split
  · next h => exact (State.join_keeps h).trans (State.owedPaid_keeps _)
  · exact s.owedPaid_keeps

theorem State.convertDebt_keeps (n : Nat) (s : State) : Keeps s (State.convertDebt n s) := by
  induction n generalizing s with
  | zero => exact .refl s
  | succ n ih =>
    unfold State.convertDebt
    split
    · exact s.offerOwed_keeps.trans (ih _)
    · exact .refl s

theorem State.offerOwed_debt (s : State) : s.offerOwed.cue.debt = s.cue.debt - 1 := by
  unfold State.offerOwed
  dsimp only
  split <;> rfl

theorem State.offerOwed_cue_le {s : State} (h : s.arb.queues.cue.length < 4) : s.offerOwed.arb.queues.cue.length ≤ 4 := by
  have hjoin : (s.join owedStep).arb.queues.cue.length = s.arb.queues.cue.length + 1 := by
    simp [State.join, owedStep, plainRequest, Queues.put, Queues.get]
  unfold State.offerOwed
  dsimp only
  split
  · exact hjoin.trans_le h
  · exact h.le

/-- Conversion goes on until the queue holds four requests or no debt is left. -/
theorem State.convertDebt_debtLaw (n : Nat) (s : State) (hn : s.cue.debt ≤ n) (hd : s.cue.debt ≤ 15)
    (hc : s.arb.queues.cue.length ≤ 4) : DebtLaw (State.convertDebt n s) := by
  induction n generalizing s with
  | zero => exact ⟨hd, hc, fun hpos => absurd (show 0 < s.cue.debt from hpos) (by omega)⟩
  | succ n ih =>
    unfold State.convertDebt
    split
    · next h =>
      have hdebt := s.offerOwed_debt
      exact ih _ (by omega) (by omega) (State.offerOwed_cue_le h.1)
    · next h => exact ⟨hd, hc, fun hpos => by omega⟩

theorem State.judgeQueue_keeps (s : State) : Keeps s s.judgeQueue := by
  have hcue (n : Nat) (b : Bool) : Keeps s { s with cue := { s.cue with queueLen := n, queueAsked := b } } := by
    apply Keeps.of_frame (bs := [.cue]) (by intro b hb; cases b <;> first | rfl | simp at hb)
    case cueMap => exact fun _ => id
    case debt => exact fun _ => id
    all_goals exact fun hb => absurd hb (by decide)
  unfold State.judgeQueue
  dsimp only
  split
  · exact (hcue _ _).trans (State.addReason_keeps _ _)
  split
  · exact (hcue _ _).trans (State.removeReason_keeps _ _)
  · exact hcue _ _

theorem State.reportCue_keeps (s : State) : Keeps s s.reportCue :=
  (s.convertDebt_keeps _).trans (State.judgeQueue_keeps _)

/-- A report turns debt that stands beside a queue with room into requests. -/
theorem State.reportCue_debtLaw {s : State} (hd : s.cue.debt ≤ 15) (hc : s.arb.queues.cue.length ≤ 4) :
    DebtLaw s.reportCue :=
  (State.judgeQueue_keeps _).debt (State.convertDebt_debtLaw _ s le_rfl hd hc)

theorem State.offer_keeps (r : Request) (s : State) : Keeps s (s.offer r).1 := by
  unfold State.offer
  split
  · exact .refl s
  · next h =>
    dsimp only
    split
    · exact (State.join_keeps h).trans (State.reportCue_keeps _)
    · exact State.join_keeps h

theorem State.offered_keeps (r : Request) (s : State) : Keeps s (s.offered r) := s.offer_keeps r

/-- The requests of a flush are completed one after the other. -/
theorem State.completeAll_keeps (o : ChangeOutcome) (p : Option Nat) (l : List Request) (s : State) :
    Keeps s (l.foldl (fun t r => t.completeRequest r o p) s) := by
  induction l generalizing s with
  | nil => exact .refl s
  | cons r l ih => exact (s.completeRequest_keeps r o p).trans (ih _)

theorem State.completeAll_queues (o : ChangeOutcome) (p : Option Nat) (l : List Request) (s : State) :
    (l.foldl (fun t r => t.completeRequest r o p) s).arb.queues = s.arb.queues := by
  induction l generalizing s with
  | nil => rfl
  | cons r l ih =>
    refine (ih _).trans ?_
    dsimp only [State.completeRequest]
    split <;> rfl

theorem Queues.length_put_nil (q : Queues) (src other : Source) (n : Nat) (h : (q.get other).length ≤ n) :
    ((q.put src []).get other).length ≤ n := by
  by_cases ho : other = src
  · subst ho; simp
  · rwa [Queues.get_put_other _ _ _ _ ho]

theorem State.flushLink_keeps (s : State) : Keeps s s.flushLink := by
  refine (State.completeAll_keeps .aborted s.changer.position s.arb.queues.link s).trans ?_
  refine .of_queues (by intro b hb; cases b <;> first | rfl | simp at hb) rfl rfl ?_ id
  rintro ⟨hlen, hempty⟩
  exact ⟨fun src => Queues.length_put_nil _ _ _ _ (hlen src), fun h2 => congrArg (Queues.put · .link []) (hempty h2)⟩

theorem State.noQueues_queueLaw (s : State) : QueueLaw { s with arb := { s.arb with queues := noQueues } } :=
  ⟨fun src => by cases src <;> simp [noQueues, Queues.get], fun _ => rfl⟩

theorem State.flushAll_keeps (s : State) : Keeps s s.flushAll := by
  have hempty (u : State) (hd : DebtLaw u → DebtLaw { u with arb := { u.arb with queues := noQueues } }.reportCue) :
      Keeps u { u with arb := { u.arb with queues := noQueues } }.reportCue :=
    have hr := State.reportCue_keeps { u with arb := { u.arb with queues := noQueues } }
    by
      apply Keeps.of_frame (bs := [.arb, .cue, .tape, .dec]) (.andThen (as := [.arb]) (by intro b hb; cases b <;> first | rfl | simp at hb) (State.reportCue_frame _) (by decide)
        (by decide))
      case queue => exact fun _ _ => hr.queue (u.noQueues_queueLaw)
      case stack => exact fun _ => hr.stack
      case completion => exact fun _ => hr.completion
      case cueMap => exact fun _ => hr.cueMap
      case debt => exact fun _ => hd
      case pause => exact fun _ => hr.pause
      all_goals exact fun hb => absurd hb (by decide)
  exact s.flushLink_keeps.trans (hempty _ fun h => State.reportCue_debtLaw h.1 (Nat.zero_le _))

theorem State.judgeQueue_moves (s : State) : s.tape.Moves s.judgeQueue.tape := by
  unfold State.judgeQueue
  dsimp only
  split
  · refine Tape.Moves.trans ?_ (State.addReason_moves .queue _)
    exact .refl _
  split
  · refine Tape.Moves.trans ?_ (State.removeReason_moves .queue _)
    exact .refl _
  · exact .refl _

theorem State.reportCue_moves (s : State) : s.tape.Moves s.reportCue.tape := by
  have h := State.judgeQueue_moves (State.convertDebt s.cue.debt s)
  rwa [State.convertDebt_frame _ _ .tape (by decide)] at h

theorem State.flushAll_moves (s : State) : s.tape.Moves s.flushAll.tape := by
  have h := State.reportCue_moves { s.flushLink with arb := { s.flushLink.arb with queues := noQueues } }
  rwa [show State.tape { s.flushLink with arb := { s.flushLink.arb with queues := noQueues } } = s.tape from
    s.flushLink_frame .tape (by decide)] at h

theorem State.flushAll_queues {s : State} (h : s.cue.debt = 0) : s.flushAll.arb.queues = noQueues := by
  have hcue : s.flushLink.cue.debt = 0 := by rw [s.flushLink_frame .cue (by decide), h]
  unfold State.flushAll State.reportCue
  dsimp only
  rw [hcue]
  exact congrArg Arbiter.queues (State.judgeQueue_frame _ .arb (by decide))

/-! ## The head that leaves its queue (R28, R29, R35) -/

theorem State.takeHead_keeps {src : Source} {q : Request} {rest : List Request} {s : State}
    (hq : s.arb.queues.get src = q :: rest) :
    Keeps s (if src = .cue then (s.takeHead src q rest).reportCue else s.takeHead src q rest) := by
  have hqueue : QueueLaw s → QueueLaw (s.takeHead src q rest) := by
    rintro ⟨hlen, hempty⟩
    refine ⟨fun other => ?_, fun h2 => ?_⟩
    · by_cases ho : other = src
      · subst ho
        have := hlen other
        rw [hq, List.length_cons] at this
        simp only [State.takeHead, State.putQueue_arb, Queues.get_put_same]
        omega
      · simpa [State.takeHead, Queues.get_put_other _ _ _ _ ho] using hlen other
    · rw [hempty h2] at hq
      cases src <;> cases hq
  have hstack : StackLaw s → StackLaw (s.takeHead src q rest) := by
    rintro ⟨hst, hpos⟩
    refine ⟨StackOk.sublist ?_ hst, hpos⟩
    simp only [State.takeHead]
    split
    · exact List.tail_sublist _
    · exact List.Sublist.refl _
  have hr := State.reportCue_keeps (s.takeHead src q rest)
  have hframe := State.reportCue_frame (s.takeHead src q rest)
  split
  · next hcue =>
    subst hcue
    apply Keeps.of_frame
      ((s.takeHead_frame _ q rest).andThen hframe (cs := [.arb, .cue, .tape, .dec]) (by decide) (by decide))
    case queue => exact fun _ => hr.queue ∘ hqueue
    case stack => exact fun _ => hr.stack ∘ hstack
    case completion => exact fun _ => hr.completion
    case cueMap => exact fun _ => hr.cueMap
    case pause => exact fun _ => hr.pause
    case debt =>
      rintro _ ⟨hd, hc, -⟩
      have hc' : s.arb.queues.cue = q :: rest := hq
      rw [hc', List.length_cons] at hc
      exact State.reportCue_debtLaw hd (show rest.length ≤ 4 by omega)
    all_goals exact fun hb => absurd hb (by decide)
  · next hcue =>
    have hsame : (s.takeHead src q rest).arb.queues.cue = s.arb.queues.cue :=
      Queues.get_put_other s.arb.queues src .cue rest (Ne.symm hcue)
    apply Keeps.of_frame (s.takeHead_frame src q rest)
    case queue => exact fun _ => hqueue
    case stack => exact fun _ => hstack
    case completion => exact fun _ => id
    case debt =>
      rintro _ ⟨hd, hc, hfull⟩
      exact ⟨hd, by rw [hsame]; exact hc, by rw [hsame]; exact hfull⟩
    all_goals exact fun hb => absurd hb (by decide)

/-! ## The fault stack (R143, R145, R151, R152) -/

/-- Levels that rise strictly from 1 leave no more entries than the top level. -/
theorem faultStack_length_le (l : List FaultEntry) (hrise : l.Pairwise (fun a b => b.level < a.level))
    (hpos : ∀ e ∈ l, 1 ≤ e.level) : l.length ≤ (l.head?.map FaultEntry.level).getD 0 := by
  induction l with
  | nil => exact Nat.zero_le _
  | cons e rest ih =>
    obtain ⟨hlt, hrest⟩ := List.pairwise_cons.mp hrise
    have hle := ih hrest fun x hx => hpos x (List.mem_cons_of_mem _ hx)
    have he := hpos e List.mem_cons_self
    cases rest with
    | nil => exact he
    | cons x xs =>
      have hx := hlt x List.mem_cons_self
      simp only [List.head?_cons, Option.map_some, Option.getD_some, List.length_cons] at hle ⊢
      omega

/-- Every entry stands at or below the top one. -/
theorem faultStack_le_top {l : List FaultEntry} (hrise : l.Pairwise (fun a b => b.level < a.level)) {e : FaultEntry}
    (he : e ∈ l) : e.level ≤ (l.head?.map FaultEntry.level).getD 0 := by
  cases l with
  | nil => cases he
  | cons x xs =>
    rcases List.mem_cons.mp he with rfl | hx
    · exact le_rfl
    · exact ((List.pairwise_cons.mp hrise).1 e hx).le

theorem Cause.minLevel_le (c : Cause) : c.minLevel ≤ 2 := by cases c <;> decide

theorem Cause.minLevel_eq (c : Cause) :
    c.minLevel = if c = .fanStall ∨ c = .lampOvercurrent then 2 else 1 := by cases c <;> decide

theorem State.recordRaise_fault (c : Cause) (s : State) : FaultLaw s → FaultLaw (s.recordRaise c) := by
  rintro ⟨hlen, hrise, hrange, htop⟩
  obtain ⟨hpl, hstack, -, -⟩ := s.recordRaise_spec c
  unfold FaultLaw
  rw [hpl, hstack]
  split
  · next h3 =>
    have hcount := faultStack_length_le _ hrise fun e he => (hrange e he).1
    refine ⟨?_, List.pairwise_cons.mpr ⟨fun e he => ?_, hrise⟩, List.forall_mem_cons.mpr ⟨?_, hrange⟩, rfl⟩
    · rw [List.length_cons]; omega
    · have := faultStack_le_top hrise he
      dsimp only
      omega
    · dsimp only
      omega
  · exact ⟨hlen, hrise, hrange, htop⟩

theorem State.recordRaise_faultLevel (c : Cause) (s : State) :
    FaultLevelLaw s → FaultLevelLaw (s.recordRaise c) := by
  intro hlaw
  obtain ⟨-, hstack, -, -⟩ := s.recordRaise_spec c
  unfold FaultLevelLaw
  rw [hstack]
  split
  · refine List.forall_mem_cons.mpr ⟨?_, hlaw⟩
    have := c.minLevel_le
    rw [← c.minLevel_eq]
    dsimp only
    omega
  · exact hlaw

/-! ## PL handed on (R147 to R150) -/

theorem State.crossToSafe_keeps (s : State) : Keeps s s.crossToSafe := by
  have hdebt : Keeps s { s with cue := { s.cue with debt := 0 } } := by
    apply Keeps.of_frame (bs := [.cue]) (by intro b hb; cases b <;> first | rfl | simp at hb)
    case cueMap => exact fun _ => id
    case debt => exact fun _ h => ⟨Nat.zero_le _, h.2.1, fun hpos => absurd hpos (lt_irrefl 0)⟩
    all_goals exact fun hb => absurd hb (by decide)
  exact (hdebt.trans (State.flushAll_keeps _)).trans (State.addReason_keeps _ _)

theorem State.crossToSafe_queues (s : State) : s.crossToSafe.arb.queues = noQueues := by
  have h : (State.flushAll { s with cue := { s.cue with debt := 0 } }).arb.queues = noQueues := State.flushAll_queues rfl
  unfold State.crossToSafe
  rw [State.addReason_frame _ _ .arb (by decide), h]

theorem State.crossToLockout_keeps (s : State) : Keeps s s.crossToLockout :=
  (s.stopTape_keeps _).trans (.of_free (by intro b hb; cases b <;> first | rfl | simp at hb))

theorem State.stopTape_still (c : StopCause) (s : State) :
    (s.stopTape c).tape.state ≠ .play ∧ (s.stopTape c).tape.state ≠ .paused := by
  unfold State.stopTape
  split
  · next h => simp [h]
  · next h => simp [h]
  · exact ⟨nofun, nofun⟩

theorem State.handPL_keeps (old : Nat) (s : State) : Keeps s (s.handPL old) := by
  have h1 : Keeps s (if old < 2 ∧ 2 ≤ s.prot.pl then s.crossToSafe
      else if 2 ≤ old ∧ s.prot.pl < 2 then s.removeReason .safe else s) := by
    split
    · exact s.crossToSafe_keeps
    split
    · exact s.removeReason_keeps _
    · exact .refl s
  unfold State.handPL
  dsimp only
  split
  · exact h1.trans (State.crossToLockout_keeps _)
  · exact h1

/-- The queues are empty at PL 2 and 3 once PL has been handed on, by the flush of the crossing. -/
theorem State.handPL_queueLaw {old : Nat} {s : State} (hlen : ∀ src, (s.arb.queues.get src).length ≤ src.depth)
    (hempty : 2 ≤ old → s.arb.queues = noQueues) : QueueLaw (s.handPL old) := by
  have h1 : QueueLaw (if old < 2 ∧ 2 ≤ s.prot.pl then s.crossToSafe
      else if 2 ≤ old ∧ s.prot.pl < 2 then s.removeReason .safe else s) := by
    split
    · refine ⟨fun src => ?_, fun _ => s.crossToSafe_queues⟩
      rw [s.crossToSafe_queues]
      cases src <;> simp [noQueues, Queues.get]
    · next h =>
      have hs : QueueLaw s := ⟨hlen, fun h2 => hempty (by omega)⟩
      split
      · exact (s.removeReason_keeps _).queue hs
      · exact hs
  unfold State.handPL
  dsimp only
  split
  · exact (State.crossToLockout_keeps _).queue h1
  · exact h1

/-- The tape does not play at PL 3 once PL has been handed on, by the stop of the crossing. -/
theorem State.handPL_pauseLaw {old : Nat} {s : State} (hpause : s.tape.PauseOk)
    (hstill : 3 ≤ old → s.tape.state ≠ .play ∧ s.tape.state ≠ .paused) : PauseLaw (s.handPL old) := by
  have h1 : s.tape.Moves (if old < 2 ∧ 2 ≤ s.prot.pl then s.crossToSafe
      else if 2 ≤ old ∧ s.prot.pl < 2 then s.removeReason .safe else s).tape := by
    split
    · exact (State.flushAll_moves { s with cue := { s.cue with debt := 0 } }).trans (State.addReason_moves _ _)
    split
    · exact s.removeReason_moves _
    · exact .refl _
  refine ⟨?_, fun h3 => ?_⟩
  · unfold State.handPL
    dsimp only
    split
    · exact (State.stopTape_moves _ _).pause (h1.pause hpause)
    · exact h1.pause hpause
  · rw [State.handPL_prot] at h3
    unfold State.handPL
    dsimp only
    split
    · exact State.stopTape_still _ _
    · next h => exact h1.still (hstill (by omega))

end Sys2Proof.Machine
end

section
/-! What raises, clears, saves and the settling of a step do to the laws of the state. -/

namespace Sys2Proof.Machine

/-! ## Raises and activity (R142 to R144) -/

theorem State.raise_keeps (c : Cause) (s : State) : Keeps s (s.raise c) := by
  have hand := State.handPL_keeps s.prot.pl (s.recordRaise c)
  apply Keeps.of_frame (s.raise_frame c)
  case queue => exact fun _ ⟨hlen, hempty⟩ => State.handPL_queueLaw hlen hempty
  case stack => exact fun _ => hand.stack
  case completion => exact fun _ => hand.completion
  case fault => exact fun _ h => hand.fault (s.recordRaise_fault c h)
  case faultLevel => exact fun _ h => hand.faultLevel (s.recordRaise_faultLevel c h)
  case cueMap => exact fun _ => hand.cueMap
  case debt => exact fun _ => hand.debt
  case pause => exact fun _ ⟨hpause, hstill⟩ => State.handPL_pauseLaw hpause hstill
  all_goals exact fun hb => absurd hb (by decide)

/-- The activity of the live causes and the last-fault record are read by no law. -/
theorem Keeps.of_activity {s t : State} (h : s.onlyChanges [.prot] t) (hpl : t.prot.pl = s.prot.pl)
    (hstack : t.prot.stack = s.prot.stack) : Keeps s t :=
  have ea : t.arb = s.arb := h .arb (by decide)
  have et : t.tape = s.tape := h .tape (by decide)
  by
    apply Keeps.of_frame h
    case queue => exact fun _ => by simp only [QueueLaw, hpl, ea]; exact id
    case fault => exact fun _ => by simp only [FaultLaw, hpl, hstack]; exact id
    case faultLevel => exact fun _ => by simp only [FaultLevelLaw, hstack]; exact id
    case pause => exact fun _ => by simp only [PauseLaw, hpl, et]; exact id
    all_goals exact fun hb => absurd hb (by decide)

theorem State.liveInactive_keeps (c : Cause) (s : State) : Keeps s (s.liveInactive c) :=
  .of_activity (s.liveInactive_frame c) rfl rfl

theorem State.liveActive_keeps (c : Cause) (s : State) : Keeps s (s.liveActive c) := by
  have hact : Keeps s { s with prot := { s.prot with active := s.prot.active.put c true } } :=
    .of_activity (by intro b hb; cases b <;> first | rfl | simp at hb) rfl rfl
  unfold State.liveActive
  split
  · exact .refl s
  · dsimp only
    split
    · exact hact
    · exact hact.trans (State.raise_keeps _ _)

theorem State.liveChange_keeps (c : Cause) (old new : Bool) (s : State) : Keeps s (s.liveChange c old new) := by
  unfold State.liveChange
  split
  · exact .refl s
  split
  · exact s.liveActive_keeps c
  · exact s.liveInactive_keeps c

/-! ## Clearing (R151, R152) -/

/-- The live causes that are raised again after a pop are recorded one after the other. -/
theorem State.reraise_induct {P : State → Prop} (h : ∀ c u, P u → P (u.recordRaise c)) (s : State) (hs : P s) :
    P s.reraise := by
  have hfold (l : List Cause) (u : State) (hu : P u) : P (l.foldl (fun t c =>
      if t.prot.active.get c ∧ stacked c t.prot.stack = false then t.recordRaise c else t) u) := by
    induction l generalizing u with
    | nil => exact hu
    | cons c l ih =>
      refine ih _ ?_
      dsimp only
      split
      · exact h c u hu
      · exact hu
  exact hfold _ _ hs

theorem State.popFault_fault {e : FaultEntry} {rest : List FaultEntry} {s t : State} (hs : s.prot.stack = e :: rest)
    (ht : t.prot.stack = rest) (hpl : t.prot.pl = (rest.head?.map FaultEntry.level).getD 0) :
    FaultLaw s → FaultLaw t := by
  unfold FaultLaw
  rw [hs, ht]
  rintro ⟨hlen, hrise, hrange, -⟩
  exact ⟨(Nat.le_succ _).trans hlen, (List.pairwise_cons.mp hrise).2,
    fun x hx => hrange x (List.mem_cons_of_mem _ hx), hpl⟩

theorem State.popFault_faultLevel {e : FaultEntry} {rest : List FaultEntry} {s t : State}
    (hs : s.prot.stack = e :: rest) (ht : t.prot.stack = rest) : FaultLevelLaw s → FaultLevelLaw t := by
  unfold FaultLevelLaw
  rw [hs, ht]
  exact fun hlaw x hx => hlaw x (List.mem_cons_of_mem _ hx)

/-- The pop of the top entry, the raises that follow and the crossings, before the changer hears of it. -/
def State.popped (rest : List FaultEntry) (s : State) : State :=
  { s with prot := { s.prot with stack := rest, pl := (rest.head?.map FaultEntry.level).getD 0 } }.reraise.handPL s.prot.pl

theorem State.popped_frame (rest : List FaultEntry) (s : State) :
    s.onlyChanges [.prot, .arb, .link, .cue, .tape, .dec, .panel] (s.popped rest) := by
  unfold State.popped
  refine State.onlyChanges.andThen (as := [.prot, .link]) ?_ (State.handPL_frame _ _) (by decide) (by decide)
  refine State.onlyChanges.andThen (as := [.prot]) ?_ (State.reraise_frame _) (by decide) (by decide)
  intro b hb; cases b <;> first | rfl | simp at hb

theorem State.popped_keeps {e : FaultEntry} {rest : List FaultEntry} {s : State} (hs : s.prot.stack = e :: rest) :
    Keeps s (s.popped rest) := by
  set s1 : State := { s with prot := { s.prot with stack := rest, pl := (rest.head?.map FaultEntry.level).getD 0 } }
    with hs1
  have hand := State.handPL_keeps s.prot.pl s1.reraise
  have hframe := s1.reraise_frame
  have ea : s1.reraise.arb = s.arb := hframe .arb (by decide)
  have et : s1.reraise.tape = s.tape := hframe .tape (by decide)
  have ec : s1.reraise.cue = s.cue := hframe .cue (by decide)
  have ei : s1.reraise.items = s.items := hframe .items (by decide)
  have eg : s1.reraise.changer = s.changer := hframe .changer (by decide)
  apply Keeps.of_frame (s.popped_frame rest)
  case queue => exact fun _ ⟨hlen, hempty⟩ => State.handPL_queueLaw (by rw [ea]; exact hlen) (by rw [ea]; exact hempty)
  case stack => exact fun _ h => hand.stack (by simp only [StackLaw, ea, ei, eg]; exact h)
  case completion => exact fun _ h => hand.completion (by simp only [CompletionLaw, ea]; exact h)
  case fault => exact fun _ h => hand.fault (State.reraise_induct (fun c u => u.recordRaise_fault c) s1
      (State.popFault_fault hs rfl rfl h))
  case faultLevel => exact fun _ h => hand.faultLevel (State.reraise_induct (fun c u => u.recordRaise_faultLevel c) s1
      (State.popFault_faultLevel hs rfl h))
  case cueMap => exact fun _ h => hand.cueMap (by simp only [CueMapLaw, ec, ei, et]; exact h)
  case debt => exact fun _ h => hand.debt (by simp only [DebtLaw, ec, ea]; exact h)
  case pause => exact fun _ ⟨hpause, hstill⟩ => State.handPL_pauseLaw (by rw [et]; exact hpause) (by rw [et]; exact hstill)
  all_goals exact fun hb => absurd hb (by decide)

/-! ## Saves and what follows at once (R185, log 29) -/

/-- The lamp drive's fields other than the film guard are read by no law. -/
theorem Keeps.of_lamp {s t : State} (h : s.onlyChanges [.lamp] t)
    (hg : s.lamp.guardAcc ≤ s.items.guardLimit → t.lamp.guardAcc ≤ s.items.guardLimit) : Keeps s t := by
  apply Keeps.of_frame h
  case guard => exact fun _ hs => by rw [GuardLaw, h .items (by decide)]; exact hg hs
  all_goals exact fun hb => absurd hb (by decide)

/-- A save writes the configuration in force, or the one that the store's image holds. -/
def State.SavesLawful (s : State) (st : Store) : Prop :=
  (st.image.config = s.store.image.config ∨ ∃ i, s.store.saving = some i ∧ st.image.config = i.config)
    ∧ ∀ i, st.saving = some i → i.config = s.store.image.config ∨ i.config = s.runningConfig
        ∨ ∃ j, s.store.saving = some j ∧ i.config = j.config

theorem Keeps.of_store {s t : State} (h : s.onlyChanges [.store] t) (hst : s.SavesLawful t.store) : Keeps s t := by
  obtain ⟨himage, hsaving⟩ := hst
  have ei : t.items = s.items := h .items (by decide)
  have ef : t.fade = s.fade := h .fade (by decide)
  have ec : t.changer = s.changer := h .changer (by decide)
  have esc : t.scan = s.scan := h .scan (by decide)
  have stored {P : StoredConfig → Prop} (hrun : P s.runningConfig) (himg : P s.store.image.config)
      (hsav : ∀ i, s.store.saving = some i → P i.config) :
      P t.store.image.config ∧ ∀ i, t.store.saving = some i → P i.config := by
    refine ⟨?_, fun i hi => ?_⟩
    · rcases himage with e | ⟨i, hi, e⟩
      · rw [e]; exact himg
      · rw [e]; exact hsav i hi
    · rcases hsaving i hi with e | e | ⟨j, hj, e⟩
      · rw [e]; exact himg
      · rw [e]; exact hrun
      · rw [e]; exact hsav j hj
  apply Keeps.of_frame h
  case fade =>
    rintro _ ⟨hlamp, haudio, hwatch, hmap, hsound, himg, hsav⟩
    obtain ⟨h1, h2⟩ := stored (P := fun c => c.items.soundAtStart ≤ 1000) hsound himg hsav
    refine ⟨ef ▸ hlamp, ef ▸ haudio, ?_, ec ▸ hmap, ei ▸ hsound, h1, h2⟩
    rw [ef]; exact hwatch
  case lampRange =>
    rintro _ ⟨hitems, himg, hsav⟩
    exact ⟨ei ▸ hitems, stored (P := fun c => LampItemsLaw c.items) hitems himg hsav⟩
  case scan =>
    rintro _ ⟨hslots, himg, hsav⟩
    exact ⟨esc ▸ hslots, stored (P := fun c => RoleLaw c.slots) hslots himg hsav⟩
  all_goals exact fun hb => absurd hb (by decide)

theorem State.startSave_keeps {image : Image} {s : State}
    (h : image.config = s.store.image.config ∨ image.config = s.runningConfig) : Keeps s (s.startSave image) :=
  .of_store (by intro b hb; cases b <;> first | rfl | simp at hb)
    ⟨.inl rfl, fun i hi => by cases hi; exact h.imp_right .inl⟩

theorem State.requestCounterSave_keeps (s : State) : Keeps s s.requestCounterSave := by
  unfold State.requestCounterSave
  split
  · exact .of_store (by intro b hb; cases b <;> first | rfl | simp at hb)
      ⟨.inl rfl, fun i hi => .inr (.inr ⟨i, hi, rfl⟩)⟩
  · exact State.startSave_keeps (.inl rfl)

theorem State.driveChanged_keeps (d : Nat) (s : State) : Keeps s (s.driveChanged d) := by
  unfold State.driveChanged
  split
  · refine .trans ?_ (State.requestCounterSave_keeps _)
    apply Keeps.of_frame (bs := [.cool, .lamp]) (by intro b hb; cases b <;> first | rfl | simp at hb)
    case guard => exact fun _ => id
    all_goals exact fun hb => absurd hb (by decide)
  split
  · exact .of_free (by intro b hb; cases b <;> first | rfl | simp at hb)
  · exact .refl s

theorem State.dutyChanged_keeps (d : Nat) (s : State) : Keeps s (s.dutyChanged d) := by
  unfold State.dutyChanged
  split
  · exact .refl s
  split
  · exact .of_free (by intro b hb; cases b <;> first | rfl | simp at hb)
  split
  · refine .trans ?_ (State.liveInactive_keeps _ _)
    exact .of_free (by intro b hb; cases b <;> first | rfl | simp at hb)
  · exact .refl s

theorem State.settleFrom_keeps (before after : State) : Keeps after (before.settleFrom after) := by
  unfold State.settleFrom State.lifeChanged
  refine .trans ?_ (.of_free ((State.raiseFlagIf_frame _ _ _).mono (by decide)))
  refine .trans ?_ (State.dutyChanged_keeps _ _)
  exact (State.driveChanged_keeps _ _).trans (.of_free ((State.offChanged_frame _ _).mono (by decide)))

theorem State.writeSwitch_keeps (v : LampSwitch) (s : State) : Keeps s (s.writeSwitch v) :=
  .of_lamp (by intro b hb; cases b <;> first | rfl | simp at hb) id

theorem State.clearFailed_keeps (s : State) : Keeps s s.clearFailed := by
  unfold State.clearFailed
  split
  · exact .of_lamp (by intro b hb; cases b <;> first | rfl | simp at hb) id
  · exact .refl s

/-! ## Standby (R85, R86) -/

theorem State.powerAsked_keeps (on : Option Bool) (s : State) : Keeps s (s.powerAsked on) := by
  have henter : Keeps s s.enterStandby := by
    unfold State.enterStandby
    have hcool : Keeps s { s with cool := { s.cool with power := .coolingDown } } :=
      .of_free (by intro b hb; cases b <;> first | rfl | simp at hb)
    have hstop := (hcool.trans (State.writeSwitch_keeps .off _)).trans (State.stopTape_keeps .standby _)
    dsimp only
    split
    · exact hstop.trans (State.offered_keeps _ _)
    · exact hstop
  unfold State.powerAsked
  split
  · split
    · exact .refl s
    · exact henter
  · split
    · exact .refl s
    · exact .of_free (by intro b hb; cases b <;> first | rfl | simp at hb)
  · exact .refl s

end Sys2Proof.Machine
end

section
/-! What fades, dips and restores do to the laws of the state: the levels stay in their range (R42 to R44, R62 to R72). -/

namespace Sys2Proof.Machine

/-! ## The level of a ramp (R44) -/

/-- An upward ramp: truncation rounds down. -/
theorem rampLevel_up {l0 l1 : Nat} (h : l0 ≤ l1) (k n : Nat) : rampLevel l0 l1 k n = l0 + (l1 - l0) * k / n := by
  have hd : ((l1 : Int) - (l0 : Int)) * (k : Int) = (((l1 - l0) * k : Nat) : Int) := by push_cast [h]; ring
  unfold rampLevel
  rw [hd, ← Int.ofNat_tdiv]
  generalize (l1 - l0) * k / n = x
  omega

/-- A downward ramp: truncation is toward 0, so the part taken off rounds down. -/
theorem rampLevel_down {l0 l1 : Nat} (h : l1 ≤ l0) (k n : Nat) : rampLevel l0 l1 k n = l0 - (l0 - l1) * k / n := by
  have hd : ((l1 : Int) - (l0 : Int)) * (k : Int) = -(((l0 - l1) * k : Nat) : Int) := by push_cast [h]; ring
  unfold rampLevel
  rw [hd, Int.neg_tdiv, ← Int.ofNat_tdiv]
  generalize (l0 - l1) * k / n = x
  omega

theorem ramp_part_le {d k n : Nat} (hk : k ≤ n) : d * k / n ≤ d :=
  Nat.div_le_of_le_mul ((Nat.mul_le_mul_left d hk).trans_eq (Nat.mul_comm d n))

theorem rampLevel_between {l0 l1 k n : Nat} (hk : k ≤ n) :
    min l0 l1 ≤ rampLevel l0 l1 k n ∧ rampLevel l0 l1 k n ≤ max l0 l1 := by
  rcases Nat.le_total l0 l1 with h | h
  · have hpart := ramp_part_le (d := l1 - l0) hk
    rw [rampLevel_up h, Nat.min_eq_left h, Nat.max_eq_right h]
    generalize (l1 - l0) * k / n = x at hpart ⊢
    omega
  · have hpart := ramp_part_le (d := l0 - l1) hk
    rw [rampLevel_down h, Nat.min_eq_right h, Nat.max_eq_left h]
    generalize (l0 - l1) * k / n = x at hpart ⊢
    omega

theorem rampLevel_land {l0 l1 n : Nat} (hn : 0 < n) : rampLevel l0 l1 n n = l1 := by
  rcases Nat.le_total l0 l1 with h | h
  · rw [rampLevel_up h, Nat.mul_div_cancel _ hn]; omega
  · rw [rampLevel_down h, Nat.mul_div_cancel _ hn]; omega

/-! ## Channels -/

theorem clampLevel_le (l : Nat) : clampLevel l ≤ 1000 := min_le_right _ _

theorem ChannelLaw.rampTo {c : FadeChannel} (h : ChannelLaw c) {l : Nat} (now t : Nat) (hl : l ≤ 1000) :
    ChannelLaw (c.rampTo now l t) := by
  obtain ⟨hlevel, -, -, -, hpending, -, -⟩ := h
  unfold FadeChannel.rampTo
  split
  · exact ⟨hl, hl, hlevel, le_rfl, hpending, fun _ => rfl, nofun⟩
  · next h0 => exact ⟨hlevel, hl, hlevel, Nat.zero_le _, hpending, nofun, fun _ => Nat.pos_of_ne_zero h0⟩

theorem ChannelLaw.dropPending {c : FadeChannel} (h : ChannelLaw c) : ChannelLaw { c with pending := none } := by
  obtain ⟨hlevel, htarget, hstart, hcount, -, hsteady, hramping⟩ := h
  exact ⟨hlevel, htarget, hstart, hcount, nofun, hsteady, hramping⟩

/-- PENDING and DIPPED ask nothing of level and count. -/
theorem ChannelLaw.waiting {c : FadeChannel} {st : FadeState} (h : ChannelLaw c) (hs : st ≠ .steady) (hr : st ≠ .ramping) :
    ChannelLaw { c with state := st } := by
  obtain ⟨hlevel, htarget, hstart, hcount, hpending, -, -⟩ := h
  exact ⟨hlevel, htarget, hstart, hcount, hpending, fun e => absurd e hs, fun e => absurd e hr⟩

theorem ChannelLaw.putPending {c : FadeChannel} {f : Fade} (h : ChannelLaw c) (hf : f.level ≤ 1000) :
    ChannelLaw { c with pending := some f } := by
  obtain ⟨hlevel, htarget, hstart, hcount, -, hsteady, hramping⟩ := h
  exact ⟨hlevel, htarget, hstart, hcount, by rintro g ⟨⟩; exact hf, hsteady, hramping⟩

theorem ChannelLaw.stepRamp {c : FadeChannel} (h : ChannelLaw c) (now : Nat) (hrun : c.running = true) :
    ChannelLaw (c.stepRamp now) := by
  obtain ⟨hlevel, htarget, hstart, hcount, hpending, -, -⟩ := h
  have hne : c.count < c.steps ∧ c.state ≠ .steady := by simpa [FadeChannel.running] using hrun
  obtain ⟨hlt, hsteady⟩ := hne
  have hb := rampLevel_between (l0 := c.start) (l1 := c.target) (k := c.count + 1) (n := c.steps) hlt
  refine ⟨hb.2.trans (max_le hstart htarget), htarget, hstart, hlt, hpending, fun e => ?_, fun e => ?_⟩
  · by_cases hend : c.steps ≤ c.count + 1
    · have hk : c.count + 1 = c.steps := le_antisymm hlt hend
      simp only [FadeChannel.stepRamp, hk]
      exact rampLevel_land (by omega)
    · simp only [FadeChannel.stepRamp, ge_iff_le, hend, false_and, if_false] at e
      exact absurd e hsteady
  · by_cases hend : c.steps ≤ c.count + 1
    · simp only [FadeChannel.stepRamp, ge_iff_le, hend, true_and] at e
      split at e
      · cases e
      · next hne => exact absurd e hne
    · exact Nat.lt_of_not_le hend

/-! ## The Fade Engine -/

/-- The Fade Engine's own part of FadeLaw. -/
def FadeEngine.Ok (f : FadeEngine) : Prop :=
  ChannelLaw f.lamp ∧ ChannelLaw f.audio
    ∧ ∀ w, f.watch = some w → (∀ l, w.savedTarget = some l → l ≤ 1000) ∧ (∀ g, w.override = some g → g.level ≤ 1000)

/-- The changer's part: no preset above 1000. -/
def Changer.PresetsOk (c : Changer) : Prop := ∀ e ∈ c.map, ∀ l, e.lampPreset = some l → l ≤ 1000

theorem Keeps.of_fade {s t : State} (h : s.onlyChanges [.fade] t)
    (hf : s.changer.PresetsOk → s.fade.Ok → t.fade.Ok) : Keeps s t := by
  have ec : t.changer = s.changer := h .changer (by decide)
  have ei : t.items = s.items := h .items (by decide)
  have es : t.store = s.store := h .store (by decide)
  apply Keeps.of_frame h
  case fade =>
    rintro _ ⟨hlamp, haudio, hwatch, hmap, hstored⟩
    obtain ⟨hlamp', haudio', hwatch'⟩ := hf hmap ⟨hlamp, haudio, hwatch⟩
    exact ⟨hlamp', haudio', hwatch', ec ▸ hmap, by rw [ei, es]; exact hstored⟩
  all_goals exact fun hb => absurd hb (by decide)

theorem FadeEngine.Ok.channel {f : FadeEngine} (h : f.Ok) (ch : Channel) : ChannelLaw (f.channel ch) := by
  cases ch
  · exact h.1
  · exact h.2.1

theorem FadeEngine.Ok.putChannel {f : FadeEngine} (h : f.Ok) (ch : Channel) {c : FadeChannel} (hc : ChannelLaw c) :
    (f.putChannel ch c).Ok := by
  obtain ⟨hlamp, haudio, hwatch⟩ := h
  cases ch
  · exact ⟨hc, haudio, hwatch⟩
  · exact ⟨hlamp, hc, hwatch⟩

theorem State.plainFade_keeps (ch : Channel) {l : Nat} (t : Nat) (s : State) (hl : l ≤ 1000) :
    Keeps s (s.plainFade ch l t) := by
  refine .of_fade (s.plainFade_frame ch l t) fun _ h => ?_
  have hc : ChannelLaw (if (s.fade.channel ch).state = .dipped then { s.fade.channel ch with pending := none }
      else { (s.fade.channel ch).rampTo s.clock l t with pending := none }) := by
    split
    · exact (h.channel ch).dropPending
    · exact ((h.channel ch).rampTo s.clock t hl |>.dropPending)
  obtain ⟨hlamp, haudio, hwatch⟩ := h.putChannel ch hc
  unfold State.plainFade
  cases ch with
  | audio => exact ⟨hlamp, haudio, hwatch⟩
  | lamp =>
    refine ⟨hlamp, haudio, fun w hw => ?_⟩
    obtain ⟨w0, hw0, rfl⟩ := Option.map_eq_some_iff.mp hw
    exact ⟨(hwatch w0 hw0).1, by rintro g ⟨⟩; exact hl⟩

theorem State.takeFade_keeps (ch : Channel) (l t : Nat) (wait : Bool) (s : State) : Keeps s (s.takeFade ch l t wait) := by
  have hclamp := clampLevel_le l
  unfold State.takeFade State.waitFade
  split
  · split
    · exact s.plainFade_keeps ch t hclamp
    · refine .of_fade (by intro b hb; cases b <;> first | rfl | simp at hb) fun _ h => h.putChannel ch ?_
      split
      · exact ((h.channel ch).putPending hclamp).waiting nofun nofun
      · exact ((h.channel ch).putPending hclamp).waiting nofun nofun
  · exact s.plainFade_keeps ch t hclamp

theorem State.takePending_keeps (ch : Channel) (s : State) : Keeps s (s.takePending ch) := by
  refine .of_fade (s.takePending_frame ch) fun _ h => ?_
  unfold State.takePending
  dsimp only
  split
  · exact h
  · next f hf =>
    obtain ⟨-, -, -, -, hpending, -, -⟩ := h.channel ch
    exact h.putChannel ch ((h.channel ch).rampTo _ _ (hpending f hf)).dropPending

theorem State.takePendings_keeps (s : State) : Keeps s s.takePendings :=
  (s.takePending_keeps .lamp).trans (State.takePending_keeps .audio _)

theorem State.presetAt_le {s : State} {final : Option Nat} {found : Bool} {l : Nat} (h : s.changer.PresetsOk)
    (hl : s.presetAt final found = some l) : l ≤ 1000 := by
  unfold State.presetAt at hl
  split at hl
  · obtain ⟨e, he, hpreset⟩ := Option.bind_eq_some_iff.mp hl
    obtain ⟨p, -, hentry⟩ := Option.bind_eq_some_iff.mp he
    unfold State.entryAt at hentry
    split at hentry
    · cases hentry
    · exact h e (List.mem_of_getElem? hentry) l hpreset
  · cases hl

theorem State.restoreLamp_keeps {s : State} {w : Watch} (final : Option Nat) (found : Bool)
    (hw : s.fade.watch = some w) : Keeps s (s.restoreLamp w final found) := by
  refine .of_fade (s.restoreLamp_frame w final found) fun hmap h => ?_
  obtain ⟨hsaved, hover⟩ := h.2.2 w hw
  have hlamp := h.1
  unfold State.restoreLamp
  dsimp only
  split
  · have hlevel : (s.restoreChoice w final found).level ≤ 1000 := by
      unfold State.restoreChoice
      split
      · next f hf => exact hover f hf
      · cases hp : s.presetAt final found with
        | some l => exact State.presetAt_le hmap hp
        | none =>
          cases ht : w.savedTarget with
          | some l => exact hsaved l ht
          | none => exact hlamp.2.1
    have hramp := hlamp.rampTo s.clock (s.restoreChoice w final found).time hlevel
    refine h.putChannel .lamp ?_
    split
    · exact hramp.waiting nofun nofun
    · exact hramp
  split
  · exact h
  split
  · exact h
  · next p hp => exact h.putChannel .lamp (hlamp.rampTo _ _ (State.presetAt_le hmap hp))

theorem State.fadeChangeEnd_keeps (final : Option Nat) (found free : Bool) (s : State) :
    Keeps s (s.fadeChangeEnd final found free) := by
  have h1 : Keeps s (if free = true ∧ s.fade.lamp.pending.isSome = true then s.takePending .lamp
      else match s.fade.watch with
        | none => s
        | some w => s.restoreLamp w final found) := by
    split
    · exact s.takePending_keeps .lamp
    split
    · exact .refl s
    · next w hw => exact State.restoreLamp_keeps final found hw
  have hclose (u : State) : Keeps u { u with fade := { u.fade with watch := none } } :=
    .of_fade u.closeWatch_frame fun _ h => ⟨h.1, h.2.1, nofun⟩
  unfold State.fadeChangeEnd
  dsimp only
  split
  · exact (h1.trans (hclose _)).trans (State.takePending_keeps _ _)
  · exact h1.trans (hclose _)

theorem State.openWatch_keeps (s : State) : Keeps s s.openWatch :=
  .of_fade (by intro b hb; cases b <;> first | rfl | simp at hb)
    fun _ h => ⟨h.1, h.2.1, by rintro w ⟨⟩; exact ⟨nofun, nofun⟩⟩

theorem State.takeDip_keeps (s : State) : Keeps s s.takeDip := by
  refine .of_fade (by intro b hb; cases b <;> first | rfl | simp at hb) fun _ ⟨hlamp, haudio, hwatch⟩ => ?_
  refine ⟨(hlamp.rampTo _ _ (Nat.zero_le _)).waiting nofun nofun, haudio, fun w hw => ?_⟩
  obtain ⟨w0, hw0, rfl⟩ := Option.map_eq_some_iff.mp hw
  exact ⟨by rintro l ⟨⟩; exact hlamp.2.1, (hwatch w0 hw0).2⟩

theorem steadyChannel_law {l : Nat} (hl : l ≤ 1000) : ChannelLaw (steadyChannel l) :=
  ⟨hl, hl, hl, le_rfl, nofun, fun _ => rfl, nofun⟩

theorem State.restartFade_keeps (s : State) : Keeps s s.restartFade :=
  .of_fade (by intro b hb; cases b <;> first | rfl | simp at hb)
    fun _ h => ⟨steadyChannel_law (Nat.zero_le _), h.2.1, nofun⟩

theorem State.stepRamp_keeps {s : State} {ch : Channel} (now : Nat) (hrun : (s.fade.channel ch).running = true) :
    Keeps s (s.putChannel ch ((s.fade.channel ch).stepRamp now)) :=
  .of_fade (by intro b hb; cases b <;> first | rfl | simp at hb)
    fun _ h => h.putChannel ch ((h.channel ch).stepRamp now hrun)

end Sys2Proof.Machine
end

section
/-! What the changer's stages, ends and homings do to the laws of the state (R4, R9 to R20). -/

namespace Sys2Proof.Machine

/-! ## Entries and positions -/

/-- No entry of the map is IN-GATE. -/
def Changer.Clear (c : Changer) : Prop := ∀ (i : Nat) (e : TrayEntry), c.map[i]? = some e → e.state ≠ EntryState.inGate

theorem Changer.GateOk.clear_of_gateEmpty {c : Changer} (h : c.GateOk) (hst : c.state.gateEmpty = true) : c.Clear :=
  fun i e he hin => by simp [(h.1 i e he hin).2] at hst

theorem Changer.GateOk.clear_of_unknown {c : Changer} (h : c.GateOk) (hp : c.position = none) : c.Clear :=
  fun i e he hin => by simpa [hp] using (h.1 i e he hin).1

theorem Changer.GateOk.clear_of_gap {c : Changer} (h : c.GateOk) (hp : c.position = some 0) : c.Clear :=
  fun i e he hin => by simpa [hp] using (h.1 i e he hin).1

theorem getElem?_putEntryState (p : Nat) (st : EntryState) (map : List TrayEntry) (i : Nat) :
    (putEntryState p st map)[i]? = (map[i]?).map (fun e => if p = i + 1 then { e with state := st } else e) := by
  unfold putEntryState
  split
  · next h =>
    have hne : ¬ p = i + 1 := by omega
    simp [hne]
  · have hiff : p - 1 = i ↔ p = i + 1 := by omega
    rw [List.getElem?_modify]
    simp only [hiff]
    split_ifs <;> simp

/-- Entries that take another state, each at its own place, keep their presets. -/
theorem Changer.presetsOk_of_map {c d : Changer} (h : c.PresetsOk)
    (hm : ∀ (i : Nat) (e : TrayEntry), d.map[i]? = some e → ∃ e0, c.map[i]? = some e0 ∧ e.lampPreset = e0.lampPreset) : d.PresetsOk := by
  intro e he l hl
  obtain ⟨i, hi⟩ := List.getElem?_of_mem he
  obtain ⟨e0, he0, hpre⟩ := hm i e hi
  exact h e0 (List.mem_of_getElem? he0) l (hpre ▸ hl)

/-! ## Steps of the changer -/

theorem Keeps.of_changer {s t : State} (h : s.onlyChanges (.changer :: freeBlocks) t)
    (hg : s.changer.GateOk → t.changer.GateOk)
    (hp : s.changer.PosOk s.items.traySize → t.changer.PosOk s.items.traySize)
    (hm : s.changer.PresetsOk → t.changer.PresetsOk) : Keeps s t := by
  have ea : t.arb = s.arb := h .arb (by decide)
  have ei : t.items = s.items := h .items (by decide)
  have ef : t.fade = s.fade := h .fade (by decide)
  have es : t.store = s.store := h .store (by decide)
  apply Keeps.of_frame h
  case gate => exact fun _ => hg
  case stack =>
    rintro _ ⟨hstack, hpos⟩
    exact ⟨by rw [ea, ei]; exact hstack, by rw [ei]; exact hp hpos⟩
  case fade =>
    rintro _ ⟨hlamp, haudio, hwatch, hmap, hstored⟩
    exact ⟨ef ▸ hlamp, ef ▸ haudio, by rw [ef]; exact hwatch, hm hmap, by rw [ei, es]; exact hstored⟩
  all_goals exact fun hb => absurd hb (by decide)

/-- The record, the timers and the outputs are read by no law. -/
theorem Keeps.of_outputs {s t : State} (h : s.onlyChanges (.changer :: freeBlocks) t)
    (hst : t.changer.state = s.changer.state) (hp : t.changer.position = s.changer.position)
    (hm : t.changer.map = s.changer.map) (ht : t.changer.trayPresent = s.changer.trayPresent) : Keeps s t :=
  .of_changer h (by simp only [Changer.GateOk, hst, hp, hm]; exact id)
    (by simp only [Changer.PosOk, hst, hp, ht]; exact id) (by simp only [Changer.PresetsOk, hm]; exact id)

/-- A tray stands in the changer: it is seen, or the changer is not LOST. -/
abbrev Changer.HasTray (c : Changer) : Prop := c.trayPresent = true ∨ c.state ≠ .lost

theorem Changer.HasTray.present {c : Changer} {n : Nat} (h : c.HasTray) (hp : c.PosOk n) : c.trayPresent = true := by
  rcases h with h | h
  · exact h
  · by_contra hne
    exact h (hp.2 (by simpa using hne)).1

theorem Changer.HasTray.posOk {c d : Changer} {n : Nat} (h : c.HasTray) (hp : d.position = c.position)
    (ht : d.trayPresent = c.trayPresent) (hpos : c.PosOk n) : d.PosOk n := by
  refine ⟨by rw [hp]; exact hpos.1, fun hno => ?_⟩
  rw [ht, h.present hpos] at hno
  cases hno

/-- A changer with a tray enters a stage in which it knows its position as before. -/
theorem Keeps.of_stage {s t : State} (h : s.onlyChanges (.changer :: freeBlocks) t) (htray : s.changer.HasTray)
    (hst : t.changer.state ≠ .homing ∧ t.changer.state ≠ .lost) (hp : t.changer.position = s.changer.position)
    (hm : t.changer.map = s.changer.map) (ht : t.changer.trayPresent = s.changer.trayPresent)
    (hc : t.changer.state.gateEmpty = true → s.changer.GateOk → s.changer.Clear) : Keeps s t := by
  refine .of_changer h (fun hg => ?_) (fun hpos => htray.posOk hp ht hpos)
    (by simp only [Changer.PresetsOk, hm]; exact id)
  refine ⟨fun i e he hin => ?_, by rw [hp, hm]; exact hg.2.1, fun hs => absurd hs (not_or.mpr hst)⟩
  rw [hm] at he
  refine ⟨hp.trans (hg.1 i e he hin).1, ?_⟩
  by_contra hempty
  exact hc (by simpa using hempty) hg i e he hin

/-- A changer with a tray enters a stage with no entry IN-GATE. -/
theorem Keeps.of_clearStage {s t : State} (h : s.onlyChanges (.changer :: freeBlocks) t) (htray : s.changer.HasTray)
    (hst : t.changer.state ≠ .homing ∧ t.changer.state ≠ .lost) (hp : t.changer.position = s.changer.position)
    (hm : s.changer.PresetsOk → t.changer.PresetsOk) (ht : t.changer.trayPresent = s.changer.trayPresent)
    (hc : s.changer.GateOk → t.changer.Clear)
    (hu : s.changer.GateOk → t.changer.position = none → ∀ e ∈ t.changer.map, e.state = EntryState.unseen) : Keeps s t :=
  .of_changer h (fun hg => ⟨fun i e he hin => absurd hin (hc hg i e he), hu hg, fun hs => absurd hs (not_or.mpr hst)⟩)
    (fun hpos => htray.posOk hp ht hpos) hm

theorem State.putChanger_frame' (c : Changer) (s : State) : s.onlyChanges (.changer :: freeBlocks) (s.putChanger c) :=
  (s.putChanger_frame c).mono (by decide)

theorem State.putRecord_keeps (r : ChangeRecord) (s : State) : Keeps s (s.putRecord r) :=
  .of_outputs (s.putChanger_frame' _) rfl rfl rfl rfl

theorem State.enterSettle_keeps {s : State} (o : ChangeOutcome) (ht : s.changer.HasTray) : Keeps s (s.enterSettle o) :=
  .of_stage (s.putChanger_frame' _) ht ⟨nofun, nofun⟩ rfl rfl rfl nofun

theorem State.arrive_keeps {s : State} (o : ChangeOutcome) (ht : s.changer.HasTray)
    (hc : s.changer.GateOk → s.changer.Clear) : Keeps s (s.arrive o) := by
  unfold State.arrive
  split
  · exact State.enterSettle_keeps o ht
  · exact .of_stage (s.putChanger_frame' _) ht ⟨nofun, nofun⟩ rfl rfl rfl fun _ => hc

/-- The end of LIFT goes to SETTLE or ROTATE, with position, map and tray as they are. -/
theorem State.liftDone_changer (s : State) :
    s.liftDone.changer.position = s.changer.position ∧ s.liftDone.changer.map = s.changer.map
      ∧ s.liftDone.changer.trayPresent = s.changer.trayPresent
      ∧ (s.liftDone.changer.state = .settle ∨ s.liftDone.changer.state = .rotate
        ∨ s.liftDone.changer.state = s.changer.state) := by
  unfold State.liftDone
  split
  · split
    · split
      · exact ⟨rfl, rfl, rfl, .inl rfl⟩
      · exact ⟨rfl, rfl, rfl, .inr (.inl rfl)⟩
    · exact ⟨rfl, rfl, rfl, .inl rfl⟩
  · exact ⟨rfl, rfl, rfl, .inr (.inr rfl)⟩

/-- A change whose slide has been lifted goes on from u, which has the entries of s but for their states. -/
theorem State.liftDone_keeps {s u : State} (h : s.onlyChanges (.changer :: freeBlocks) u) (htray : s.changer.HasTray)
    (hst : u.changer.state = .lift) (hp : u.changer.position = s.changer.position)
    (hm : s.changer.PresetsOk → u.changer.PresetsOk) (ht : u.changer.trayPresent = s.changer.trayPresent)
    (hc : s.changer.GateOk → u.changer.Clear)
    (hu : s.changer.GateOk → u.changer.position = none → ∀ e ∈ u.changer.map, e.state = EntryState.unseen) :
    Keeps s u.liftDone := by
  obtain ⟨ep, em, et, estate⟩ := u.liftDone_changer
  refine .of_clearStage (h.trans (u.liftDone_frame.mono (by decide))) htray ?_ (ep.trans hp) ?_ (et.trans ht) ?_ ?_
  · rcases estate with e | e | e <;> rw [e]
    · exact ⟨nofun, nofun⟩
    · exact ⟨nofun, nofun⟩
    · rw [hst]; exact ⟨nofun, nofun⟩
  · simp only [Changer.PresetsOk, em]; exact hm
  · simp only [Changer.Clear, em]; exact hc
  · rw [ep, em]; exact hu

/-! ## The entry at the position (R4, R9, R14) -/

theorem State.markEntry_changer (st : EntryState) (s : State) : (s.markEntry st).changer = { s.changer with
    map := match s.changer.position with
      | none => s.changer.map
      | some p => putEntryState p st s.changer.map } := by
  unfold State.markEntry
  cases h : s.changer.position with
  | none => rfl
  | some p => rfl

theorem State.markEntry_position (st : EntryState) (s : State) :
    (s.markEntry st).changer.position = s.changer.position := by rw [State.markEntry_changer]

theorem State.markEntry_tray (st : EntryState) (s : State) :
    (s.markEntry st).changer.trayPresent = s.changer.trayPresent := by rw [State.markEntry_changer]

theorem State.markEntry_getElem? (st : EntryState) (s : State) (i : Nat) : (s.markEntry st).changer.map[i]? =
    (s.changer.map[i]?).map (fun e => if s.changer.position = some (i + 1) then { e with state := st } else e) := by
  rw [State.markEntry_changer]
  cases s.changer.position with
  | none => simp
  | some p => simpa using getElem?_putEntryState p st s.changer.map i

theorem State.markEntry_presets (st : EntryState) (s : State) (h : s.changer.PresetsOk) :
    (s.markEntry st).changer.PresetsOk := by
  refine Changer.presetsOk_of_map h fun i e he => ?_
  rw [State.markEntry_getElem?] at he
  obtain ⟨e0, he0, rfl⟩ := Option.map_eq_some_iff.mp he
  exact ⟨e0, he0, by split <;> rfl⟩

theorem State.markEntry_clear {st : EntryState} {s : State} (hst : st ≠ .inGate) (h : s.changer.GateOk) :
    (s.markEntry st).changer.Clear := by
  intro i e he
  rw [State.markEntry_getElem?] at he
  obtain ⟨e0, he0, rfl⟩ := Option.map_eq_some_iff.mp he
  split
  · exact hst
  · next hp => exact fun hin => hp (h.1 i e0 he0 hin).1

theorem State.markEntry_unseen {st : EntryState} {s : State} (h : s.changer.GateOk)
    (hp : (s.markEntry st).changer.position = none) : ∀ e ∈ (s.markEntry st).changer.map, e.state = .unseen := by
  rw [State.markEntry_changer] at hp ⊢
  rw [show s.changer.position = none from hp]
  exact h.2.1 hp

theorem State.startLift_keeps {s : State} (ht : s.changer.HasTray) : Keeps s s.startLift := by
  unfold State.startLift
  split
  · exact .of_stage (s.putChanger_frame' _) ht ⟨nofun, nofun⟩ rfl rfl rfl nofun
  · have hmarked : Keeps s (State.liftDone { s.markEntry .empty with
        changer := { (s.markEntry .empty).changer with state := .lift } }) := by
      refine State.liftDone_keeps (((s.markEntry_frame .empty).trans (State.putChanger_frame _ _)).mono (by decide)) ht rfl
        (s.markEntry_position .empty) (s.markEntry_presets .empty) (s.markEntry_tray .empty) (State.markEntry_clear nofun)
        State.markEntry_unseen
    have hleft (hno : s.changer.GateOk → s.changer.Clear) :
        Keeps s (State.liftDone { s with changer := { s.changer with state := .lift } }) :=
      State.liftDone_keeps (s.putChanger_frame' _) ht rfl rfl id rfl hno fun hg => hg.2.1
    -- the entry at the position is the only one that may be IN-GATE
    have hentry (hg : s.changer.GateOk) (i : Nat) (e : TrayEntry) (he : s.changer.map[i]? = some e)
        (hin : e.state = .inGate) : s.changer.position.bind (fun p => s.entryAt p) = some e := by
      rw [(hg.1 i e he hin).1]
      simpa [State.entryAt] using he
    dsimp only
    split
    · next e he =>
      split
      · exact hmarked
      · next hne =>
        refine hleft fun hg i e' he' hin => hne ?_
        rw [hentry hg i e' he' hin] at he
        cases he
        exact hin
    · next he =>
      refine hleft fun hg i e' he' hin => ?_
      rw [hentry hg i e' he' hin] at he
      cases he

theorem State.startReturn_keeps {s : State} (r : ChangeRecord) (hst : s.changer.state = .rotate) :
    Keeps s (s.startReturn r) := by
  have htray : s.changer.HasTray := .inr (by rw [hst]; nofun)
  have hclear (hg : s.changer.GateOk) : s.changer.Clear := hg.clear_of_gateEmpty (by rw [hst]; rfl)
  unfold State.startReturn
  dsimp only
  split
  · refine .trans (t := s.putChanger _) ?_ (State.arrive_keeps _ (.inr nofun) fun hg => hg.clear_of_gateEmpty rfl)
    exact .of_stage (s.putChanger_frame' _) htray ⟨nofun, nofun⟩ rfl rfl rfl fun _ => hclear
  · exact .of_stage (s.putChanger_frame' _) htray ⟨nofun, nofun⟩ rfl rfl rfl fun _ => hclear

/-! ## Counted steps (R12, R13) -/

/-- A counted step to a position of the ring, in a stage with no entry IN-GATE. -/
theorem State.countedStep_keeps {s : State} {p : Nat} {c : Changer} (d : Direction)
    (hempty : s.changer.state.gateEmpty = true) (hne : s.changer.state ≠ .lost) (hpos : s.changer.position = some p)
    (hst : c.state = s.changer.state) (hp : c.position = some (ringStep d s.items.traySize p))
    (hm : c.map = s.changer.map) (ht : c.trayPresent = s.changer.trayPresent) : Keeps s (s.putChanger c) := by
  refine .of_changer (s.putChanger_frame' c) (fun hg => ?_) (fun hok => ?_) ?_
  · refine ⟨fun i e he hin => absurd hin (hg.clear_of_gateEmpty hempty i e (hm ▸ he)), fun hn => ?_, fun hs => ?_⟩
    · rw [State.putChanger_changer, hp] at hn; cases hn
    · rw [State.putChanger_changer, hst] at hs
      rcases hs with hs | hs <;> rw [hs] at hempty <;> cases hempty
  · refine ⟨fun q hq => ?_, fun hno => ?_⟩
    · rw [State.putChanger_changer, hp] at hq
      cases hq
      exact ringStep_le d _ p (hok.1 p hpos)
    · rw [State.putChanger_changer, ht, Changer.HasTray.present (.inr hne) hok] at hno
      cases hno
  · simp only [Changer.PresetsOk, State.putChanger_changer, hm]; exact id

theorem State.rotateStep_keeps {s : State} {p : Nat} (r : ChangeRecord) (hst : s.changer.state = .rotate)
    (hp : s.changer.position = some p) : Keeps s (s.rotateStep r p) := by
  have hempty : s.changer.state.gateEmpty = true := by rw [hst]; rfl
  have hne : s.changer.state ≠ .lost := by rw [hst]; nofun
  unfold State.rotateStep
  dsimp only
  split
  · refine .trans ?_ (State.arrive_keeps _ (.inr hne) fun hg => hg.clear_of_gateEmpty hempty)
    exact State.countedStep_keeps _ hempty hne hp rfl rfl rfl rfl
  · exact State.countedStep_keeps _ hempty hne hp rfl rfl rfl rfl

theorem State.returnStep_keeps {s : State} {p : Nat} (r : ChangeRecord) (hst : s.changer.state = .returning)
    (hp : s.changer.position = some p) : Keeps s (s.returnStep r p) := by
  have hempty : s.changer.state.gateEmpty = true := by rw [hst]; rfl
  have hne : s.changer.state ≠ .lost := by rw [hst]; nofun
  unfold State.returnStep
  dsimp only
  split
  · refine .trans ?_ (State.arrive_keeps _ (.inr hne) fun hg => hg.clear_of_gateEmpty hempty)
    exact State.countedStep_keeps _ hempty hne hp rfl rfl rfl rfl
  · exact State.countedStep_keeps _ hempty hne hp rfl rfl rfl rfl

/-! ## Ends (R14 to R19) -/

theorem Changer.gateOk_of_unseen {c : Changer} (hp : c.position = none) (hm : ∀ e ∈ c.map, e.state = EntryState.unseen) :
    c.GateOk :=
  ⟨fun _ e he hin => absurd ((hm e (List.mem_of_getElem? he)).symm.trans hin) nofun, fun _ => hm, fun _ => hp⟩

theorem unseenMap_unseen (map : List TrayEntry) : ∀ e ∈ unseenMap map, e.state = EntryState.unseen := by
  intro e he
  obtain ⟨e0, -, rfl⟩ := List.mem_map.mp he
  rfl

/-- LOST obeys the laws of the changer from any state. -/
theorem State.enterLost_keeps {s u : State} (h : s.onlyChanges (.changer :: freeBlocks) u)
    (hm : u.changer.map = s.changer.map) : Keeps s u.enterLost := by
  have hlost : Keeps s (u.putChanger { u.changer.stopIn .lost with
      position := none, map := unseenMap u.changer.map }) := by
    refine .of_changer (h.trans (u.putChanger_frame' _)) (fun _ => ?_) (fun _ => ⟨nofun, fun _ => ⟨rfl, rfl⟩⟩) fun hpre => ?_
    · exact Changer.gateOk_of_unseen rfl (unseenMap_unseen _)
    · intro e he
      obtain ⟨e0, he0, rfl⟩ := List.mem_map.mp he
      exact hpre e0 (hm ▸ he0)
  exact hlost.trans (State.cancelDwell_keeps _)

theorem State.lostByHand_keeps (s : State) : Keeps s s.enterLost.takePendings :=
  (State.enterLost_keeps (.refl _ s) rfl).trans (State.takePendings_keeps _)

/-- The end of what is in flight in u: the changer rests in a state that is lawful after s, or is LOST. -/
theorem State.endChange_keeps {s u : State} {o : ChangeOutcome} {after : ChangerState} {count : Bool}
    (h : s.onlyChanges (.changer :: freeBlocks) u) (hm : u.changer.map = s.changer.map)
    (hr : u.changer.record ≠ none)
    (hrest : after = .lost ∨ (s.changer.GateOk → (u.changer.stopIn after).GateOk)
      ∧ (s.changer.PosOk s.items.traySize → (u.changer.stopIn after).PosOk s.items.traySize)) :
    Keeps s (u.endChange o after count) := by
  unfold State.endChange
  split
  · next hnone => exact absurd hnone hr
  · next r _ =>
    dsimp only
    refine .trans ?_ (State.fadeChangeEnd_keeps _ _ _ _)
    set u1 := if count = true ∧ r.request.isSome = true then u.countChange o r else u with hu1
    have hcount : u.onlyChanges [.usage, .link] u1 := by
      rw [hu1]
      split
      · exact u.countChange_frame o r
      · exact .refl _ u
    have hframe : s.onlyChanges (.changer :: freeBlocks) u1 := h.trans (hcount.mono (by decide))
    have ec : u1.changer = u.changer := hcount .changer (by decide)
    have hrest2 : Keeps s (if after = .lost ∨ after = .idle ∧ u.changer.jamClear = true then u1.enterLost
        else u1.putChanger (u1.changer.stopIn after)) := by
      split
      · exact State.enterLost_keeps hframe ((congrArg Changer.map ec).trans hm)
      · next hne =>
        obtain ⟨hg, hp⟩ := hrest.resolve_left fun e => hne (.inl e)
        refine .of_changer (hframe.trans (State.putChanger_frame' _ _)) ?_ ?_ ?_
        · rw [State.putChanger_changer, ec]; exact hg
        · rw [State.putChanger_changer, ec]; exact hp
        · rw [State.putChanger_changer, ec]
          simp only [Changer.PresetsOk, Changer.stopIn, hm]; exact id
    split
    · exact hrest2
    · exact hrest2.trans (State.completeRequest_keeps _ _ _ _)

/-- The end of a change in flight that keeps its position, in a changer with a tray. -/
theorem State.endChange_keeps_of_tray {s : State} {o : ChangeOutcome} {after : ChangerState} {count : Bool}
    (htray : s.changer.HasTray) (hst : after ≠ .homing ∧ after ≠ .lost)
    (hc : after.gateEmpty = true → s.changer.GateOk → s.changer.Clear) : Keeps s (s.endChange o after count) := by
  by_cases hr : s.changer.record = none
  · unfold State.endChange
    rw [hr]
    exact .refl s
  · have hk : Keeps s (s.putChanger (s.changer.stopIn after)) :=
      .of_stage (s.putChanger_frame' _) htray hst rfl rfl rfl hc
    refine State.endChange_keeps (.refl _ s) rfl hr (.inr ⟨hk.gate, fun hpos => ?_⟩)
    exact htray.posOk (c := s.changer) rfl rfl hpos

theorem State.endChange_lost_keeps (o : ChangeOutcome) (count : Bool) (s : State) : Keeps s (s.endChange o .lost count) := by
  by_cases hr : s.changer.record = none
  · unfold State.endChange
    rw [hr]
    exact .refl s
  · exact State.endChange_keeps (.refl _ s) rfl hr (.inl rfl)

theorem State.abortToLost_keeps {s u : State} (count : Bool) (h : s.onlyChanges (.changer :: freeBlocks) u)
    (hm : u.changer.map = s.changer.map) : Keeps s (u.abortToLost count) := by
  unfold State.abortToLost
  split
  · exact (State.enterLost_keeps h hm).trans (State.takePendings_keeps _)
  · next r hr => exact State.endChange_keeps h hm (by rw [hr]; nofun) (.inl rfl)

theorem State.jamCleared_keeps (s : State) : Keeps s s.jamCleared := by
  unfold State.jamCleared
  split
  · exact s.lostByHand_keeps
  · exact s.lostByHand_keeps
  · exact .refl s
  · exact .of_outputs (s.putChanger_frame' _) rfl rfl rfl rfl

theorem State.tellJamCleared_keeps (c : Cause) (s : State) : Keeps s (s.tellJamCleared c) := by
  have h1 : Keeps s (if c = .trayJam ∨ c = .gateJam then s.jamCleared else s) := by
    split
    · exact s.jamCleared_keeps
    · exact .refl s
  unfold State.tellJamCleared
  dsimp only
  generalize (if c = .trayJam ∨ c = .gateJam then s.jamCleared else s) = u at h1 ⊢
  split
  · exact h1.trans (State.lostByHand_keeps _)
  · exact h1

theorem State.clearFault_keeps (s : State) : Keeps s s.clearFault.1 := by
  unfold State.clearFault
  split
  · exact .refl s
  · next e rest hs =>
    split
    · exact .refl s
    · exact (State.popped_keeps hs).trans (State.tellJamCleared_keeps _ _)

theorem State.failHoming_keeps (c : Cause) (s : State) : Keeps s (s.failHoming c) :=
  (s.endChange_lost_keeps _ _).trans (State.raise_keeps _ _)

/-- The drop of a slide: no entry was IN-GATE before, and the one at the position is the only one after. -/
theorem State.endDrop_keeps {s : State} (slide : Bool) (hst : s.changer.state = .drop) : Keeps s (s.endDrop slide) := by
  have htray : s.changer.HasTray := .inr (by rw [hst]; nofun)
  have hsettle (st : EntryState) (r : ChangeRecord) (o : ChangeOutcome) :
      Keeps s (((s.markEntry st).putRecord r).enterSettle o) := by
    have eg : (((s.markEntry st).putRecord r).enterSettle o).changer.map = (s.markEntry st).changer.map := rfl
    have ep : (((s.markEntry st).putRecord r).enterSettle o).changer.position = s.changer.position :=
      s.markEntry_position st
    have et : (((s.markEntry st).putRecord r).enterSettle o).changer.trayPresent = s.changer.trayPresent :=
      s.markEntry_tray st
    refine .of_changer ?_ (fun hg => ⟨fun i e he hin => ⟨?_, rfl⟩, ?_, nofun⟩) (fun hpos => htray.posOk ep et hpos)
      (s.markEntry_presets st)
    · exact (((s.markEntry_frame st).trans (State.putChanger_frame _ _)).trans (State.putChanger_frame _ _)).mono (by decide)
    · rw [eg, State.markEntry_getElem?] at he
      obtain ⟨e0, he0, rfl⟩ := Option.map_eq_some_iff.mp he
      rw [ep]
      by_contra hp
      rw [if_neg hp] at hin
      exact hg.clear_of_gateEmpty (by rw [hst]; rfl) i e0 he0 hin
    · rw [eg, ep]
      intro hn
      exact State.markEntry_unseen hg ((s.markEntry_position st).trans hn)
  unfold State.endDrop
  split
  · exact .refl s
  · next r _ =>
    cases slide with
    | true =>
      refine (hsettle .inGate { r with found := true } (if r.restoring then .restored else .done)).trans
        (.of_lamp (t := State.enterSettle _ (State.zeroGuard _)) ?_ fun _ => Nat.zero_le _)
      intro b hb; cases b <;> first | rfl | simp at hb
    | false => exact hsettle .empty { r with found := false } _

/-! ## Homing (R18) -/

theorem State.homingSuccess_keeps {s : State} (hst : s.changer.state = .homing) : Keeps s s.homingSuccess := by
  have htray : s.changer.HasTray := .inr (by rw [hst]; nofun)
  have hclear (hg : s.changer.GateOk) : s.changer.Clear := hg.clear_of_unknown (hg.2.2 (.inl hst))
  have hpos0 {c : Changer} (hp : c.position = some 0) (ht : c.trayPresent = s.changer.trayPresent)
      (hok : s.changer.PosOk s.items.traySize) : c.PosOk s.items.traySize := by
    refine ⟨fun p h0 => ?_, fun hno => ?_⟩
    · rw [hp] at h0; cases h0; exact Nat.zero_le _
    · rw [ht, htray.present hok] at hno; cases hno
  unfold State.homingSuccess
  split
  · exact .refl s
  · next r hr =>
    dsimp only
    split
    · refine State.endChange_keeps (s.putChanger_frame' _) rfl (by rw [State.putChanger_changer, hr]; nofun) (.inr ⟨?_, ?_⟩)
      · exact fun hg => ⟨fun i e he hin => absurd hin (hclear hg i e he), nofun, nofun⟩
      · exact fun hok => hpos0 rfl rfl hok
    · next q _ =>
      set s1 := s.putChanger { s.changer with
        position := some 0, drive := none, lift := false, homingLift := false, stageDue := none } with hs1
      have hfix := s1.fixTarget_frame q r.popped 0
      have hlift : ∀ u : State, s1.onlyChanges [.usage, .link] u → ∀ r', Keeps s
          (u.putChanger { u.changer with state := .lift, record := some r' }) := by
        intro u hu r'
        have ec : u.changer = s1.changer := hu .changer (by decide)
        refine .of_changer (((s.putChanger_frame' _).trans (hu.mono (by decide))).trans (State.putChanger_frame' _ _))
          (fun hg => ⟨fun i e he hin => ?_, ?_, nofun⟩) (fun hok => hpos0 ?_ ?_ hok) ?_
        · rw [State.putChanger_changer, ec] at he
          exact absurd hin (hclear hg i e he)
        · rw [State.putChanger_changer, ec]; nofun
        · rw [State.putChanger_changer, ec]; rfl
        · rw [State.putChanger_changer, ec]; rfl
        · rw [State.putChanger_changer, ec]; exact id
      refine (hlift _ hfix _).trans (State.liftDone_keeps (.refl _ _) (.inr nofun) rfl rfl id rfl (fun hg => ?_) fun hg => hg.2.1)
      refine hg.clear_of_gap ?_
      rw [State.putChanger_changer, hfix .changer (by decide)]; rfl

theorem State.homingSearch_keeps {s : State} (hst : s.changer.state = .homing) : Keeps s s.homingSearch := by
  unfold State.homingSearch
  split
  · exact State.homingSuccess_keeps hst
  · exact .of_outputs (s.putChanger_frame' _) rfl rfl rfl rfl

/-- A homing starts with the position unknown. -/
theorem State.startHoming_keeps {s : State} (htray : s.changer.HasTray)
    (hn : s.changer.GateOk → s.changer.position = none) : Keeps s s.startHoming := by
  have h1 : Keeps s (s.putChanger { s.changer with state := .homing, position := none }) := by
    refine .of_changer (s.putChanger_frame' _) (fun hg => ?_) (fun hok => ⟨nofun, fun hno => ?_⟩) id
    · exact Changer.gateOk_of_unseen rfl (hg.2.1 (hn hg))
    · rw [State.putChanger_changer, htray.present hok] at hno; cases hno
  unfold State.startHoming
  dsimp only
  split
  · exact h1.trans (.of_outputs (State.putChanger_frame' _ _) rfl rfl rfl rfl)
  · exact h1.trans (State.homingSearch_keeps rfl)

theorem State.homeWithoutRequest_keeps {s : State} (ht : s.changer.trayPresent = true)
    (hn : s.changer.GateOk → s.changer.position = none) : Keeps s s.homeWithoutRequest := by
  have h1 : Keeps s { s with changer := { s.changer with record := some (newRecord none none none none) } } :=
    .of_outputs (s.putChanger_frame' _) rfl rfl rfl rfl
  exact (h1.trans (State.cancelDwell_keeps _)).trans (State.startHoming_keeps (.inl ht) hn)

theorem State.homingStep_keeps {s : State} (r : ChangeRecord) (hst : s.changer.state = .homing) :
    Keeps s (s.homingStep r) := by
  unfold State.homingStep
  dsimp only
  split
  · refine .trans ?_ (State.homingSuccess_keeps hst)
    exact .of_outputs (s.putChanger_frame' _) rfl rfl rfl rfl
  · exact .of_outputs (s.putChanger_frame' _) rfl rfl rfl rfl

/-! ## The grant (R7, R8, R28) -/

theorem State.leaveDipping_keeps {s : State} (htray : s.changer.HasTray) : Keeps s s.leaveDipping := by
  unfold State.leaveDipping
  split
  · next hp => exact State.startHoming_keeps htray fun _ => hp
  · exact State.startLift_keeps htray

theorem State.firstStage_keeps {s : State} (q : Request) (ht : s.changer.trayPresent = true) : Keeps s (s.firstStage q) := by
  unfold State.firstStage
  dsimp only
  split
  · have hdip : Keeps s { s.openWatch.takeDip with changer := { s.openWatch.changer with state := .dipping } } :=
      (s.openWatch_keeps.trans (State.takeDip_keeps _)).trans
        (.of_stage (t := State.putChanger { s.openWatch.changer with state := .dipping } _) (State.putChanger_frame' _ _)
          (.inl ht) ⟨nofun, nofun⟩ rfl rfl rfl nofun)
    split
    · exact hdip.trans (State.leaveDipping_keeps (.inl ht))
    · exact hdip
  · exact s.openWatch_keeps.trans (State.leaveDipping_keeps (.inl ht))

theorem State.endAtGrant_keeps (q : Request) (o : ChangeOutcome) (s : State) : Keeps s (s.endAtGrant q o) :=
  s.completeRequest_keeps q o _

theorem State.decideGrant_keeps (q : Request) (popped : Option Nat) (s : State) : Keeps s (s.decideGrant q popped) := by
  unfold State.decideGrant
  split
  · exact (s.pushOrigin_keeps q).trans (State.endAtGrant_keeps _ _ _)
  next hrun =>
  have ht : s.changer.trayPresent = true := by simpa using fun e => hrun (.inl e)
  split
  · exact State.endAtGrant_keeps _ _ _
  split
  · exact State.endAtGrant_keeps _ _ _
  split
  · exact (s.putRecord_keeps _).trans (State.firstStage_keeps q ht)
  · next p _ =>
    have hfix := s.fixTarget_frame q popped p
    have hkfix : Keeps s (s.fixTarget q popped p).1 := .of_free (hfix.mono (by decide))
    dsimp only
    split
    · exact hkfix.trans (State.endAtGrant_keeps _ _ _)
    · refine ((hkfix.trans (State.pushOrigin_keeps _ _)).trans (State.putRecord_keeps _ _)).trans
        (State.firstStage_keeps _ ?_)
      rw [State.putRecord_changer]
      exact (congrArg Changer.trayPresent ((hfix .changer (by decide)).trans
        (State.pushOrigin_frame _ _ .changer (by decide)))).trans ht

theorem State.grantHead_keeps {src : Source} {q : Request} {rest : List Request} {s : State}
    (hq : s.arb.queues.get src = q :: rest) : Keeps s (s.grantHead src q rest) :=
  (State.takeHead_keeps hq).trans (State.decideGrant_keeps _ _ _)

theorem State.grantOnce_keeps {s t : State} (h : s.grantOnce = some t) : Keeps s t := by
  unfold State.grantOnce at h
  split at h
  · cases h
  split at h
  · cases h
  · next hq =>
    cases h
    exact (State.grantHead_keeps hq).trans (State.settleFrom_keeps _ _)

end Sys2Proof.Machine
end

section
/-! What the settings, the cue map, the scan and the resets do to the laws of the state. -/

namespace Sys2Proof.Machine

/-! ## The clock -/

theorem State.reachAt_keeps (d : Nat) (s : State) : Keeps s (s.reachAt d) := by
  apply Keeps.of_frame (bs := [.clock]) (by intro b hb; cases b <;> first | rfl | simp at hb)
  case clock => exact fun _ => le_max_left _ _
  all_goals exact fun hb => absurd hb (by decide)

theorem State.reach_keeps (d : Option Nat) (s : State) : Keeps s (s.reach d) := by
  cases d with
  | none => exact .refl s
  | some d => exact s.reachAt_keeps d

theorem State.elapse_keeps (d : Nat) (s : State) : Keeps s (s.elapse d) := by
  apply Keeps.of_frame (bs := [.clock]) (by intro b hb; cases b <;> first | rfl | simp at hb)
  case clock => exact fun _ => Nat.le_add_right _ _
  all_goals exact fun hb => absurd hb (by decide)

/-! ## SET (R177, section 12.4) -/

section ItemsWrite

variable (i v : Nat) (it : Items)

theorem Items.write_traySize : (it.write i v).traySize = if i = 0 then v else it.traySize := by
  unfold Items.write; split <;> first | rfl | simp_all

theorem Items.write_ecoCeiling : (it.write i v).ecoCeiling = if i = 10 then v else it.ecoCeiling := by
  unfold Items.write; split <;> first | rfl | simp_all

theorem Items.write_derateFloor : (it.write i v).derateFloor = if i = 13 then v else it.derateFloor := by
  unfold Items.write; split <;> first | rfl | simp_all

theorem Items.write_guardLimit : (it.write i v).guardLimit = if i = 14 then v else it.guardLimit := by
  unfold Items.write; split <;> first | rfl | simp_all

theorem Items.write_filmCeiling : (it.write i v).filmCeiling = if i = 15 then v else it.filmCeiling := by
  unfold Items.write; split <;> first | rfl | simp_all

theorem Items.write_protectGuard : (it.write i v).protectGuard = if i = 16 then v else it.protectGuard := by
  unfold Items.write; split <;> first | rfl | simp_all

theorem Items.write_preheat : (it.write i v).preheat = if i = 17 then v else it.preheat := by
  unfold Items.write; split <;> first | rfl | simp_all

theorem Items.write_soundAtStart : (it.write i v).soundAtStart = if i = 18 then v else it.soundAtStart := by
  unfold Items.write; split <;> first | rfl | simp_all

theorem Items.write_tolerance : (it.write i v).tolerance = if i = 28 then v else it.tolerance := by
  unfold Items.write; split <;> first | rfl | simp_all

end ItemsWrite

/-- The range of an item that has one, but for the partner address. -/
theorem itemValueOk_range {i v lo hi : Nat} (h : itemValueOk i v = true) (hr : itemRanges[i]? = some (lo, hi))
    (hi19 : i ≠ 19) : lo ≤ v ∧ v ≤ hi := by
  unfold itemValueOk at h
  rw [hr] at h
  simpa [hi19] using h

theorem Items.write_lampItems {i v : Nat} {it : Items} (hv : itemValueOk i v = true) (h : LampItemsLaw it) :
    LampItemsLaw (it.write i v) := by
  obtain ⟨heco, hfloor, hfloor', hfilm, hguard, hpreheat⟩ := h
  simp only [LampItemsLaw, Items.write_ecoCeiling, Items.write_derateFloor, Items.write_filmCeiling,
    Items.write_protectGuard, Items.write_preheat]
  refine ⟨?_, ?_, ?_, ?_, ?_, ?_⟩ <;> split
  · next e => subst e; exact (itemValueOk_range hv rfl nofun).1
  · exact heco
  · next e => subst e; exact (itemValueOk_range hv rfl nofun).1
  · exact hfloor
  · next e => subst e; exact (itemValueOk_range hv rfl nofun).2
  · exact hfloor'
  · next e => subst e; exact (itemValueOk_range hv rfl nofun).1
  · exact hfilm
  · next e => subst e; exact (itemValueOk_range hv rfl nofun).1
  · exact hguard
  · next e => subst e; exact (itemValueOk_range hv rfl nofun).2
  · exact hpreheat

/-- Adjacent spacing is the spacing of every two entries. -/
theorem spacedBy_iff {tol : Nat} {l : List CueEntry} :
    spacedBy tol l = true ↔ l.Pairwise (fun a b => a.position + tol < b.position) := by
  induction l with
  | nil => simp [spacedBy]
  | cons a rest ih =>
    cases rest with
    | nil => simp [spacedBy]
    | cons b rest =>
      rw [spacedBy, Bool.and_eq_true, decide_eq_true_iff, ih]
      refine ⟨fun ⟨hab, hrest⟩ => List.pairwise_cons.mpr ⟨fun x hx => ?_, hrest⟩, fun h => ?_⟩
      · rcases List.mem_cons.mp hx with rfl | hx
        · exact hab
        · have := (List.pairwise_cons.mp hrest).1 x hx
          omega
      · obtain ⟨ha, hrest⟩ := List.pairwise_cons.mp h
        exact ⟨ha b List.mem_cons_self, hrest⟩

/-- What a write of an item does beyond the item. -/
theorem State.itemActs_cases (i v : Nat) (s : State) :
    (i = 0 ∧ s.itemActs i v = { s with changer := { s.changer with map := freshMap v }, arb := { s.arb with stack := [] } })
      ∨ (i = 14 ∧ s.itemActs i v = s.putGuard (min s.lamp.guardAcc v))
      ∨ (i ≠ 0 ∧ i ≠ 14 ∧ s.itemActs i v = s) := by
  unfold State.itemActs
  split
  · exact .inl ⟨rfl, rfl⟩
  · exact .inr (.inl ⟨rfl, rfl⟩)
  · next h0 h14 => exact .inr (.inr ⟨h0, h14, rfl⟩)

theorem freshMap_entry (n : Nat) : ∀ e ∈ freshMap n, e = freshEntry := fun _ he => List.eq_of_mem_replicate he

theorem freshMap_state (n : Nat) : ∀ e ∈ freshMap n, e.state = EntryState.unseen :=
  fun e he => (congrArg TrayEntry.state (freshMap_entry n e he) : _)

/-- A fresh map obeys the laws of the changer where the position is the gap or unknown. -/
theorem Changer.GateOk.freshMap {c : Changer} {n : Nat} (h : c.GateOk) : { c with map := freshMap n }.GateOk :=
  ⟨fun _ e he hin => absurd ((freshMap_state n e (List.mem_of_getElem? he)).symm.trans hin) nofun,
    fun _ => freshMap_state n, h.2.2⟩

theorem State.sizeWritable_pos {s : State} {n : Nat} (h : s.sizeWritable = true) (hp : s.changer.PosOk s.items.traySize) :
    s.changer.PosOk n := by
  refine ⟨fun p hpos => ?_, hp.2⟩
  unfold State.sizeWritable at h
  rcases Bool.or_eq_true_iff.mp h with hno | hhome
  · rw [(hp.2 (by simpa using hno)).2] at hpos
    cases hpos
  · have h0 : s.changer.position = some 0 := by simpa using (Bool.and_eq_true_iff.mp hhome).2
    rw [h0] at hpos
    cases hpos
    exact Nat.zero_le _

theorem State.setItem_keeps (i index v : Nat) (s : State) : Keeps s (s.setItem i index v).st := by
  unfold State.setItem
  split
  · exact .refl s
  split
  · exact .refl s
  next hok =>
  have hvalue : itemValueOk i v = true := by simpa using fun e => hok (.inl e)
  have hpair : s.itemPairOk i v = true := by simpa using fun e => hok (.inr e)
  split
  · exact .refl s
  next hsize =>
  have hsound (h : s.items.soundAtStart ≤ 1000) : (s.items.write i v).soundAtStart ≤ 1000 := by
    rw [Items.write_soundAtStart]
    split
    · next e => subst e; exact (itemValueOk_range hvalue rfl nofun).2
    · exact h
  have hcue (h : CueMapLaw s) : CueMapLaw { s with items := s.items.write i v } := by
    obtain ⟨hlen, hsorted, habsent⟩ := h
    refine ⟨hlen, ?_, habsent⟩
    simp only [Items.write_tolerance]
    split
    · next e => subst e; exact spacedBy_iff.mp hpair
    · exact hsorted
  change Keeps s (State.itemActs i v { s with items := s.items.write i v })
  rcases State.itemActs_cases i v { s with items := s.items.write i v } with ⟨h0, e⟩ | ⟨h14, e⟩ | ⟨h0, h14, e⟩
  · subst h0
    have hw : s.sizeWritable = true := by simpa using fun e => hsize ⟨rfl, e⟩
    rw [e]
    apply Keeps.of_frame (bs := [.items, .changer, .arb]) (by intro b hb; cases b <;> first | rfl | simp at hb)
    case queue => exact fun _ => id
    case completion => exact fun _ => id
    case debt => exact fun _ => id
    case stack => exact fun _ h => ⟨⟨Nat.zero_le _, nofun⟩, State.sizeWritable_pos (s := s) (n := v) hw h.2⟩
    case gate => exact fun _ => Changer.GateOk.freshMap
    case fade =>
      rintro _ ⟨hl, ha, hwat, hmap, hs, hst⟩
      refine ⟨hl, ha, hwat, fun x hx l hl => ?_, hsound hs, hst⟩
      rw [freshMap_entry v x hx] at hl
      cases hl
    case guard => exact fun _ => id
    case lampRange => exact fun _ h => ⟨Items.write_lampItems hvalue h.1, h.2⟩
    case cueMap => exact fun _ => hcue
    all_goals exact fun hb => absurd hb (by decide)
  · subst h14
    rw [e]
    apply Keeps.of_frame (bs := [.items, .lamp]) (by intro b hb; cases b <;> first | rfl | simp at hb)
    case stack => exact fun _ => id
    case fade => exact fun _ ⟨hl, ha, hwat, hmap, hs, hst⟩ => ⟨hl, ha, hwat, hmap, hsound hs, hst⟩
    case guard => exact fun _ _ => min_le_right _ _
    case lampRange => exact fun _ h => ⟨Items.write_lampItems hvalue h.1, h.2⟩
    case cueMap => exact fun _ => hcue
    all_goals exact fun hb => absurd hb (by decide)
  · have hsz : (s.items.write i v).traySize = s.items.traySize := by rw [Items.write_traySize, if_neg h0]
    have hgl : (s.items.write i v).guardLimit = s.items.guardLimit := by rw [Items.write_guardLimit, if_neg h14]
    rw [e]
    apply Keeps.of_frame (bs := [.items]) (by intro b hb; cases b <;> first | rfl | simp at hb)
    case stack => exact fun _ => by simp only [StackLaw, hsz]; exact id
    case fade => exact fun _ ⟨hl, ha, hwat, hmap, hs, hst⟩ => ⟨hl, ha, hwat, hmap, hsound hs, hst⟩
    case guard => exact fun _ => by simp only [GuardLaw, hgl]; exact id
    case lampRange => exact fun _ h => ⟨Items.write_lampItems hvalue h.1, h.2⟩
    case cueMap => exact fun _ => hcue
    all_goals exact fun hb => absurd hb (by decide)

theorem TrayEntry.write_state (i v : Nat) (e : TrayEntry) : (e.write i v).state = e.state := by
  unfold TrayEntry.write; split <;> rfl

theorem optOfValue_le {v n l : Nat} (h : v ≤ n ∨ v = absent4) (hl : optOfValue v = some l) : l ≤ n := by
  unfold optOfValue at hl
  split at hl
  · cases hl
  · next hne =>
    cases hl
    exact h.resolve_right hne

theorem TrayEntry.write_lampPreset {i v : Nat} {e : TrayEntry} (hv : slotValueOk i v = true)
    (h : ∀ l, e.lampPreset = some l → l ≤ 1000) : ∀ l, (e.write i v).lampPreset = some l → l ≤ 1000 := by
  unfold TrayEntry.write
  split
  · exact h
  · exact fun l => optOfValue_le (by simpa [slotValueOk] using hv)
  · exact h

/-- Each entry of a map with one written entry is as before or the written one. -/
theorem getElem?_modify_write (j i v : Nat) (map : List TrayEntry) (k : Nat) (e : TrayEntry)
    (h : (map.modify j (TrayEntry.write i v))[k]? = some e) : ∃ e0, map[k]? = some e0 ∧ (e = e0 ∨ e = e0.write i v) := by
  rw [List.getElem?_modify] at h
  obtain ⟨e0, he0, rfl⟩ := Option.map_eq_some_iff.mp h
  exact ⟨e0, he0, by split <;> simp⟩

theorem State.setSlotItem_keeps (i index v : Nat) (s : State) : Keeps s (s.setSlotItem i index v).st := by
  unfold State.setSlotItem
  split
  · exact .refl s
  split
  · exact .refl s
  next hv =>
  have hvalue : slotValueOk i v = true := by simpa using hv
  have hstate {k : Nat} {e : TrayEntry} (h : (s.changer.map.modify (index - 1) (TrayEntry.write i v))[k]? = some e) :
      ∃ e0, s.changer.map[k]? = some e0 ∧ e.state = e0.state := by
    obtain ⟨e0, he0, rfl | rfl⟩ := getElem?_modify_write _ _ _ _ _ _ h
    · exact ⟨_, he0, rfl⟩
    · exact ⟨e0, he0, TrayEntry.write_state _ _ _⟩
  refine .of_changer (s.putChanger_frame' _) (fun hg => ⟨fun k e he hin => ?_, fun hn e he => ?_, hg.2.2⟩) id fun hpre e he => ?_
  · obtain ⟨e0, he0, hst⟩ := hstate he
    exact hg.1 k e0 he0 (hst ▸ hin)
  · obtain ⟨k, hk⟩ := List.getElem?_of_mem he
    obtain ⟨e0, he0, hst⟩ := hstate hk
    exact hst.trans (hg.2.1 hn e0 (List.mem_of_getElem? he0))
  · obtain ⟨k, hk⟩ := List.getElem?_of_mem he
    obtain ⟨e0, he0, rfl | rfl⟩ := getElem?_modify_write _ _ _ _ _ _ hk
    · exact hpre _ (List.mem_of_getElem? he0)
    · exact TrayEntry.write_lampPreset hvalue (hpre e0 (List.mem_of_getElem? he0))

/-! ## The cue map (R126 to R133) -/

/-- Entries that stay at their positions keep the map's law. -/
theorem Keeps.of_entries {s : State} {es : List CueEntry}
    (h : es.map CueEntry.position = s.cue.entries.map CueEntry.position) :
    Keeps s { s with cue := { s.cue with entries := es } } := by
  have hl : es.length = s.cue.entries.length := by simpa using congrArg List.length h
  apply Keeps.of_frame (bs := [.cue]) (by intro b hb; cases b <;> first | rfl | simp at hb)
  case debt => exact fun _ => id
  case cueMap =>
    rintro _ ⟨hlen, hsorted, habsent⟩
    refine ⟨hl ▸ hlen, ?_, fun hc => ⟨?_, (habsent hc).2⟩⟩
    · rw [← List.pairwise_map (f := CueEntry.position) (R := fun a b => a + s.items.tolerance < b)] at hsorted ⊢
      rw [h]
      exact hsorted
    · rw [(habsent hc).1, List.map_nil, List.map_eq_nil_iff] at h
      exact h
  all_goals exact fun hb => absurd hb (by decide)

theorem State.confirmEntry_keeps (e : CueEntry) (cls : ToneClass) (s : State) : Keeps s (s.confirmEntry e cls) := by
  unfold State.confirmEntry
  refine .trans (.of_entries ?_) (.of_free ((State.raiseFlagIf_frame _ _ _).mono (by decide)))
  rw [List.map_map]
  refine List.map_congr_left fun x _ => ?_
  rw [Function.comp_apply]
  split <;> rfl

theorem State.bindEntry_keeps (n : Nat) (slot : Option Nat) (s : State) : Keeps s (s.bindEntry n slot) := by
  refine .of_entries (List.ext_getElem? fun i => ?_)
  rw [List.getElem?_map, List.getElem?_map, List.getElem?_modify, Option.map_eq_map, Option.map_map]
  refine congrArg (fun f => Option.map f s.cue.entries[i]?) (funext fun x => ?_)
  rw [Function.comp_apply]
  split <;> rfl

theorem nearestEntry_none {tol p : Nat} {l : List CueEntry} (h : nearestEntry tol p l = none) :
    ∀ e ∈ l, tol < tapeDistance p e.position := by
  induction l with
  | nil => nofun
  | cons e rest ih =>
    unfold nearestEntry at h
    split at h
    · next hrest =>
      split at h
      · cases h
      · next hfar => exact List.forall_mem_cons.mpr ⟨Nat.lt_of_not_le hfar, ih hrest⟩
    · split at h <;> cases h

/-- A position farther than the tolerance from every entry is a new entry's. -/
theorem insertEntry_pairwise {tol p : Nat} {l : List CueEntry} {e : CueEntry} (hp : e.position = p)
    (hl : l.Pairwise (fun a b => a.position + tol < b.position)) (hfar : ∀ x ∈ l, tol < tapeDistance p x.position) :
    (insertEntry e l).Pairwise (fun a b => a.position + tol < b.position) := by
  have hbelow : ∀ x ∈ l.filter (fun x => x.position < e.position), x.position + tol < p := by
    intro x hx
    obtain ⟨hmem, hlt⟩ := List.mem_filter.mp hx
    have hd := hfar x hmem
    have hlt' : x.position < p := by simpa [hp] using hlt
    unfold tapeDistance at hd
    omega
  have habove : ∀ x ∈ l.filter (fun x => !(x.position < e.position)), p + tol < x.position := by
    intro x hx
    obtain ⟨hmem, hge⟩ := List.mem_filter.mp hx
    have hd := hfar x hmem
    have hge' : p ≤ x.position := by simpa [hp] using hge
    unfold tapeDistance at hd
    omega
  refine List.pairwise_append.mpr ⟨hl.filter _, List.pairwise_cons.mpr ⟨fun x hx => ?_, hl.filter _⟩, fun x hx y hy => ?_⟩
  · rw [hp]; exact habove x hx
  · have hxp := hbelow x hx
    rcases List.mem_cons.mp hy with rfl | hy
    · rw [hp]; exact hxp
    · have := habove y hy
      omega

theorem length_insertEntry (e : CueEntry) (l : List CueEntry) : (insertEntry e l).length = l.length + 1 := by
  have h := List.length_eq_length_filter_add (l := l) (fun x => decide (x.position < e.position))
  simp only [insertEntry, List.length_append, List.length_cons]
  omega

theorem State.learnCue_keeps {s : State} (p : Nat) (cls : ToneClass) (hs : s.tape.state ≠ .noCassette) :
    Keeps s (s.learnCue p cls).1 := by
  unfold State.learnCue
  split
  · exact s.confirmEntry_keeps _ _
  next hnone =>
  split
  · next hroom =>
    apply Keeps.of_frame (bs := [.cue]) (by intro b hb; cases b <;> first | rfl | simp at hb)
    case debt => exact fun _ => id
    case cueMap =>
      rintro _ ⟨-, hsorted, habsent⟩
      exact ⟨(length_insertEntry _ _).trans_le hroom, insertEntry_pairwise rfl hsorted (nearestEntry_none hnone),
        fun hc => absurd (habsent hc).2 hs⟩
    all_goals exact fun hb => absurd hb (by decide)
  · exact .of_free ((s.raiseFlag_frame _).mono (by decide))

/-- A step answered FULL has changed nothing, and its queue is full. -/
theorem State.offer_full {r : Request} {s : State} (h : (s.offer r).2 = .full) :
    (s.offer r).1 = s ∧ r.source.depth ≤ (s.arb.queues.get r.source).length := by
  unfold State.offer at h ⊢
  split at h
  · next code hcode =>
    obtain rfl : code = .full := h
    refine ⟨rfl, ?_⟩
    unfold State.refuses at hcode
    split at hcode
    · cases hcode
    split at hcode
    · cases hcode
    split at hcode
    · cases hcode
    split at hcode
    · next hd => exact hd
    · cases hcode
  · cases h

theorem State.oweStep_keeps {s : State} (hfull : 4 ≤ s.arb.queues.cue.length) : Keeps s s.oweStep := by
  unfold State.oweStep
  split
  · next hd =>
    apply Keeps.of_frame (bs := [.cue]) (by intro b hb; cases b <;> first | rfl | simp at hb)
    case cueMap => exact fun _ => id
    case debt => exact fun _ ⟨_, hc, _⟩ => ⟨hd, hc, fun _ => le_antisymm hc hfull⟩
    all_goals exact fun hb => absurd hb (by decide)
  · exact .of_free ((s.raiseFlag_frame _).mono (by decide))

theorem State.actClass_keeps (cls : ToneClass) (ref : Option Nat) (s : State) : Keeps s (s.actClass cls ref) := by
  cases cls with
  | a =>
    dsimp only [State.actClass]
    split
    · next h =>
      obtain ⟨e, hfull⟩ := State.offer_full h
      rw [e]
      exact State.oweStep_keeps hfull
    · exact s.offer_keeps _
  | b =>
    dsimp only [State.actClass]
    split
    · exact (s.offer_keeps _).trans (.of_free ((State.raiseFlag_frame _ _).mono (by decide)))
    · exact s.offer_keeps _
  | c => exact s.addReason_keeps _
  | d => exact .refl s

theorem State.offer_moves (r : Request) (s : State) : s.tape.Moves (s.offer r).1.tape := by
  unfold State.offer
  split
  · exact .refl _
  · dsimp only
    split
    · refine Tape.Moves.trans ?_ (State.reportCue_moves _)
      exact .refl _
    · exact .refl _

theorem State.dispatchBurst_moves (mode : DecodingMode) (p : Nat) (cls : ToneClass) (s : State) :
    s.tape.Moves (s.dispatchBurst mode p cls).tape := by
  have hconfirm (e : CueEntry) (u : State) : (u.confirmEntry e cls).tape = u.tape :=
    State.raiseFlagIf_frame _ _ _ .tape (by decide)
  have hlearn (u : State) : (u.learnCue p cls).1.tape = u.tape := by
    unfold State.learnCue
    split
    · exact hconfirm _ u
    · split <;> rfl
  have hact (ref : Option Nat) (u : State) : u.tape.Moves (u.actClass cls ref).tape := by
    cases cls with
    | a =>
      dsimp only [State.actClass]
      split
      · rw [show (State.oweStep _).tape = _ from by unfold State.oweStep; split <;> rfl]
        exact State.offer_moves _ _
      · exact State.offer_moves _ _
    | b =>
      dsimp only [State.actClass]
      split <;> exact State.offer_moves _ _
    | c => exact State.addReason_moves _ _
    | d => exact .refl _
  cases mode with
  | playSpeed =>
    have h := hact ((s.gainCounter .cues).learnCue p cls).2 ((s.gainCounter .cues).learnCue p cls).1
    rwa [hlearn, State.gainCounter_frame _ _ .tape (by decide)] at h
  | search =>
    dsimp only [State.dispatchBurst, State.searchCue]
    split
    · rw [hconfirm]; exact .refl _
    · exact .refl _
  | off => exact .refl _

theorem State.dispatchBurst_keeps {s : State} (mode : DecodingMode) (p : Nat) (cls : ToneClass)
    (hs : s.tape.state ≠ .noCassette) : Keeps s (s.dispatchBurst mode p cls) := by
  cases mode with
  | playSpeed =>
    have hgain : Keeps s (s.gainCounter .cues) := .of_free ((s.gainCounter_frame _).mono (by decide))
    have htape : (s.gainCounter .cues).tape = s.tape := s.gainCounter_frame _ .tape (by decide)
    exact (hgain.trans (State.learnCue_keeps p cls (by rw [htape]; exact hs))).trans (State.actClass_keeps _ _ _)
  | search =>
    dsimp only [State.dispatchBurst, State.searchCue]
    split
    · exact s.confirmEntry_keeps _ _
    · exact .refl s
  | off => exact .refl s

theorem State.closeClass_keeps {s : State} (mode : DecodingMode) (before after : Trackers) (k : ToneClass)
    (hs : s.tape.state ≠ .noCassette) :
    Keeps s (s.closeClass mode before after k) ∧ (s.closeClass mode before after k).tape.state ≠ .noCassette := by
  have h1 : Keeps s (if (before.get k).recognised (after.get k) then s.dispatchBurst mode (after.get k).first k else s)
      ∧ s.tape.Moves
        (if (before.get k).recognised (after.get k) then s.dispatchBurst mode (after.get k).first k else s).tape := by
    split
    · exact ⟨State.dispatchBurst_keeps _ _ _ hs, State.dispatchBurst_moves _ _ _ _⟩
    · exact ⟨.refl s, .refl _⟩
  refine ⟨h1.1.trans (.of_free ((State.raiseFlagIf_frame _ _ _).mono (by decide))), ?_⟩
  have ht : (s.closeClass mode before after k).tape = _ := State.raiseFlagIf_frame _ _ _ .tape (by decide)
  rw [ht]
  exact fun e => hs (h1.2.absent.mp e)

theorem State.closeWindow_keeps (count : Nat) (s : State) : Keeps s (s.closeWindow count) := by
  have hfold (mode : DecodingMode) (before after : Trackers) (l : List ToneClass) (u : State)
      (hu : u.tape.state ≠ .noCassette) : Keeps u (l.foldl (State.closeClass mode before after) u) := by
    induction l generalizing u with
    | nil => exact .refl u
    | cons k l ih =>
      obtain ⟨hk, hne⟩ := State.closeClass_keeps mode before after k hu
      exact hk.trans (ih _ hne)
  unfold State.closeWindow
  dsimp only
  split
  · exact .refl s
  · next hmode =>
    refine .trans ?_ (hfold _ _ _ _ _ fun e => hmode ?_)
    · exact .of_free (by intro b hb; cases b <;> first | rfl | simp at hb)
    · exact congrArg TransportState.mode (show s.tape.state = .noCassette from e)

theorem State.unlinkCue_queueLaw {s t : State} (hpl : t.prot.pl = s.prot.pl) (hq : t.arb.queues =
    { s.arb.queues with cue := s.arb.queues.cue.map Request.unlink }) : QueueLaw s → QueueLaw t := by
  rintro ⟨hlen, hempty⟩
  refine ⟨fun src => ?_, fun h2 => ?_⟩
  · rw [hq]
    cases src with
    | cue => simpa [Queues.get] using hlen .cue
    | link => exact hlen .link
    | remote => exact hlen .remote
    | panel => exact hlen .panel
    | dwell => exact hlen .dwell
  · rw [hq, hempty (hpl ▸ h2)]; rfl

theorem State.emptyMap_keeps (s : State) : Keeps s s.emptyMap := by
  apply Keeps.of_frame (bs := [.cue, .arb, .changer]) (by intro b hb; cases b <;> first | rfl | simp at hb)
  case queue => exact fun _ => State.unlinkCue_queueLaw rfl rfl
  case stack => exact fun _ => id
  case completion => exact fun _ => id
  case gate => exact fun _ => id
  case fade => exact fun _ => id
  case cueMap => exact fun _ h => ⟨Nat.zero_le _, .nil, fun hc => ⟨rfl, (h.2.2 hc).2⟩⟩
  case debt =>
    rintro _ ⟨hd, hc, hfull⟩
    exact ⟨hd, by simpa [State.emptyMap] using hc, by simpa [State.emptyMap] using hfull⟩
  all_goals exact fun hb => absurd hb (by decide)

/-! ## The scan (R91, R100, R101) -/

/-- Limit states and results are read by no law. -/
theorem Keeps.of_slots {s t : State} (h : s.onlyChanges [.scan] t)
    (hcfg : t.scan.slots.map ScanSlot.cfg = s.scan.slots.map ScanSlot.cfg) : Keeps s t :=
  have es : t.store = s.store := h .store (by decide)
  by
    apply Keeps.of_frame h
    case scan => exact fun _ => by simp only [ScanLaw, hcfg, es]; exact id
    all_goals exact fun hb => absurd hb (by decide)

theorem ScanSlot.written_cfg (cfg : SlotConfig) (sl : ScanSlot) : (sl.written cfg).cfg = cfg := by
  unfold ScanSlot.written
  split
  · next e => exact e.symm
  split <;> rfl

theorem ScanSlot.loseRole_cfg (role : Role) (sl : ScanSlot) : (sl.loseRole role).cfg =
    if role ≠ .none ∧ sl.cfg.role = role then { sl.cfg with role := .none } else sl.cfg := by
  unfold ScanSlot.loseRole
  split <;> rfl

/-- The configurations of the slots once one is written. -/
def writtenConfigs (n : Nat) (cfg : SlotConfig) (l : List SlotConfig) : List SlotConfig :=
  l.mapIdx (fun i c => if i = n then cfg else if cfg.role ≠ .none ∧ c.role = cfg.role then { c with role := .none } else c)

theorem writtenConfigs_getElem? (n : Nat) (cfg : SlotConfig) (l : List SlotConfig) (i : Nat) (c : SlotConfig)
    (h : (writtenConfigs n cfg l)[i]? = some c) : ∃ c0, l[i]? = some c0 ∧ ((i = n ∧ c = cfg)
      ∨ (i ≠ n ∧ c.enable = c0.enable ∧ (c.role = .none ∨ (c = c0 ∧ c.role ≠ cfg.role)))) := by
  unfold writtenConfigs at h
  rw [List.getElem?_mapIdx] at h
  obtain ⟨c0, hc0, rfl⟩ := Option.map_eq_some_iff.mp h
  refine ⟨c0, hc0, ?_⟩
  by_cases hi : i = n
  · exact .inl ⟨hi, if_pos hi⟩
  · right
    rw [if_neg hi]
    by_cases hrole : cfg.role ≠ .none ∧ c0.role = cfg.role
    · rw [if_pos hrole]
      exact ⟨hi, rfl, .inl rfl⟩
    · rw [if_neg hrole]
      refine ⟨hi, rfl, ?_⟩
      by_cases hnone : c0.role = .none
      · exact .inl hnone
      · exact .inr ⟨rfl, fun e => hrole ⟨e ▸ hnone, e⟩⟩

theorem RoleLaw.write {l : List SlotConfig} {n : Nat} {old cfg : SlotConfig} (h : RoleLaw l) (hn : l[n]? = some old)
    (henable : cfg.role ≠ .none → cfg.enable = true) (hhousing : old.role = .housing → cfg.role = .housing) :
    RoleLaw (writtenConfigs n cfg l) := by
  obtain ⟨hlen, hone, hon, c, hc, hrole⟩ := h
  refine ⟨by simpa [writtenConfigs] using hlen, List.pairwise_iff_getElem.mpr fun i j hi hj hij => ?_, fun c' hc' hne => ?_, ?_⟩
  · obtain ⟨a0, ha0, ha⟩ := writtenConfigs_getElem? n cfg l i _ (List.getElem?_eq_getElem hi)
    obtain ⟨b0, hb0, hb⟩ := writtenConfigs_getElem? n cfg l j _ (List.getElem?_eq_getElem hj)
    obtain ⟨hi', rfl⟩ := List.getElem?_eq_some_iff.mp ha0
    obtain ⟨hj', rfl⟩ := List.getElem?_eq_some_iff.mp hb0
    rcases ha with ⟨ei, ea⟩ | ⟨-, -, ea | ⟨ea, hra⟩⟩
    · rcases hb with ⟨ej, -⟩ | ⟨-, -, eb | ⟨-, hrb⟩⟩
      · omega
      · rw [ea, eb]
        by_cases hnone : cfg.role = .none
        · exact .inl hnone
        · exact .inr hnone
      · rw [ea]; exact .inr (Ne.symm hrb)
    · exact .inl ea
    · rcases hb with ⟨-, eb⟩ | ⟨-, -, eb | ⟨eb, -⟩⟩
      · rw [eb]; exact .inr hra
      · rw [eb]
        by_cases hnone : (writtenConfigs n cfg l)[i].role = .none
        · exact .inl hnone
        · exact .inr hnone
      · rw [ea, eb]
        exact List.pairwise_iff_getElem.mp hone i j hi' hj' hij
  · obtain ⟨i, hi⟩ := List.getElem?_of_mem hc'
    obtain ⟨c0, hc0, ⟨-, rfl⟩ | ⟨-, -, e | ⟨rfl, -⟩⟩⟩ := writtenConfigs_getElem? n cfg l i c' hi
    · exact henable hne
    · exact absurd e hne
    · exact hon _ (List.mem_of_getElem? hc0) hne
  · have hat (i : Nat) (c0 : SlotConfig) (hi : l[i]? = some c0) (x : SlotConfig)
        (hx : (if i = n then cfg else if cfg.role ≠ .none ∧ c0.role = cfg.role then { c0 with role := .none } else c0) = x) :
        x ∈ writtenConfigs n cfg l := by
      refine List.mem_of_getElem? (i := i) ?_
      rw [writtenConfigs, List.getElem?_mapIdx, hi, Option.map_some, hx]
    obtain ⟨i, hi⟩ := List.getElem?_of_mem hc
    by_cases hcfg : cfg.role = .housing
    · exact ⟨cfg, hat n old hn cfg (if_pos rfl), hcfg⟩
    · refine ⟨c, hat i c hi c ?_, hrole⟩
      have hin : i ≠ n := by
        rintro rfl
        rw [hi] at hn
        cases hn
        exact hcfg (hhousing hrole)
      rw [if_neg hin, if_neg fun e => hcfg (e.2.symm.trans hrole)]

theorem State.tellInactive_keeps (before after : ScanSlot) (s : State) : Keeps s (s.tellInactive before after) := by
  unfold State.tellInactive
  split
  · exact .refl s
  split
  · exact s.liveInactive_keeps _
  · exact .refl s

theorem State.writeSlot_keeps {s : State} {n : Nat} {sl : ScanSlot} {cfg : SlotConfig} (hn : s.scan.slots[n]? = some sl)
    (henable : cfg.role ≠ .none → cfg.enable = true) (hhousing : sl.cfg.role = .housing → cfg.role = .housing) :
    Keeps s (s.writeSlot n cfg) := by
  have hfold (l : List (ScanSlot × ScanSlot)) (u : State) :
      Keeps u (l.foldl (fun t p => t.tellInactive p.1 p.2) u) := by
    induction l generalizing u with
    | nil => exact .refl u
    | cons p l ih => exact (u.tellInactive_keeps p.1 p.2).trans (ih _)
  refine .trans ?_ (hfold _ _)
  have hcfg : (s.scan.slots.mapIdx (fun i x => if i = n then x.written cfg else x.loseRole cfg.role)).map ScanSlot.cfg
      = writtenConfigs n cfg (s.scan.slots.map ScanSlot.cfg) := by
    refine List.ext_getElem? fun i => ?_
    simp only [writtenConfigs, List.getElem?_map, List.getElem?_mapIdx, Option.map_map]
    refine congrArg (fun f => Option.map f s.scan.slots[i]?) (funext fun x => ?_)
    simp only [Function.comp_apply]
    split
    · exact x.written_cfg cfg
    · exact x.loseRole_cfg cfg.role
  apply Keeps.of_frame (bs := [.scan]) (by intro b hb; cases b <;> first | rfl | simp at hb)
  case scan =>
    refine fun _ h => ⟨?_, h.2⟩
    show RoleLaw ((s.scan.slots.mapIdx _).map ScanSlot.cfg)
    rw [hcfg]
    exact h.1.write (by rw [List.getElem?_map, hn]; rfl) henable hhousing
  all_goals exact fun hb => absurd hb (by decide)

theorem State.applySequence_keeps (cmd : SeqCommand) (bytes : List Byte) (s : State) :
    Keeps s (s.applySequence cmd bytes).st := by
  unfold State.applySequence
  split
  · exact .refl s
  cases cmd with
  | lawTable =>
    dsimp only [State.applyLaw]
    split
    · exact .of_free (by intro b hb; cases b <;> first | rfl | simp at hb)
    · exact .refl s
  | scanSlot =>
    dsimp only [State.applySlot]
    split
    · next sl role hsl hrole =>
      split
      · next h =>
        obtain ⟨-, -, hok⟩ := h
        simp only [slotWriteOk, Bool.and_eq_true, Bool.not_eq_true', Bool.and_eq_false_imp, bne_iff_ne, beq_iff_eq,
          Bool.not_eq_false', bne_eq_false_iff_eq] at hok
        obtain ⟨⟨⟨-, henable⟩, hhousing⟩, -⟩ := hok
        exact State.writeSlot_keeps hsl henable hhousing
      · exact .refl s
    · exact .refl s

theorem ScanSlot.read_cfg (r : Nat) (sl : ScanSlot) : (sl.read r).cfg = sl.cfg := rfl

theorem State.readSlot_keeps (i : Nat) (raw : BitVec 12) (s : State) : Keeps s (s.readSlot i raw) := by
  have hdeliver (role : Role) (r low : Nat) (u : State) : Keeps u (u.deliverResult role r low) := by
    have hhousing : Keeps u (u.takeHousing r) := by
      unfold State.takeHousing State.testCooldownEnd
      split
      · split <;> exact .of_free (by intro b hb; cases b <;> first | rfl | simp at hb)
      · exact .of_free (by intro b hb; cases b <;> first | rfl | simp at hb)
    have hfail : Keeps u (u.failureTest r low) := by
      unfold State.failureTest
      split
      · exact .refl u
      split
      · split
        · refine .trans ?_ (.of_free ((State.raiseFlag_frame _ _).mono (by decide)))
          exact .of_lamp (by intro b hb; cases b <;> first | rfl | simp at hb) id
        · exact .of_lamp (by intro b hb; cases b <;> first | rfl | simp at hb) id
      · exact .of_lamp (by intro b hb; cases b <;> first | rfl | simp at hb) id
    cases role with
    | housing => exact hhousing
    | lampCurrent => exact hfail
    | cueLevel => exact .of_free (by intro b hb; cases b <;> first | rfl | simp at hb)
    | none => exact .refl u
    | gate => exact .refl u
    | supply => exact .refl u
  have hhigh (role : Role) (old new : Bool) (u : State) : Keeps u (u.deliverHigh role old new) := by
    unfold State.deliverHigh
    split
    · exact .refl u
    · exact u.liveChange_keeps _ _ _
  unfold State.readSlot
  split
  · exact .refl s
  · next sl hsl =>
    split
    · refine .trans ?_ (State.settleFrom_keeps _ _)
      refine .trans ?_ (hhigh _ _ _ _)
      refine .trans ?_ (hdeliver _ _ _ _)
      refine .trans ?_ (.of_free ((State.raiseFlagIf_frame _ _ _).mono (by decide)))
      refine .of_slots (by intro b hb; cases b <;> first | rfl | simp at hb) ?_
      obtain ⟨hi, rfl⟩ := List.getElem?_eq_some_iff.mp hsl
      rw [List.map_set, ScanSlot.read_cfg, ← List.getElem_map ScanSlot.cfg (h := by simpa using hi), List.set_getElem_self]
    · exact .refl s

theorem State.readSlotsFrom_keeps (i : Nat) (raws : List (BitVec 12)) (s : State) :
    Keeps s (State.readSlotsFrom i raws s) := by
  induction raws generalizing i s with
  | nil => exact .refl s
  | cons raw rest ih => exact (s.readSlot_keeps i raw).trans (ih _ _)

/-! ## Resets (R155, R186) -/

/-- Every law holds of the blocks at their reset values, where the image loaded came from a store that obeys them. -/
theorem State.afterReset_keeps {s : State} (pins : Pins) (strap : BitVec 5) (cooling warning : Bool) {image : Image}
    (good : Bool)
    (himage : image.config = s.store.image.config ∨ ∃ i, s.store.saving = some i ∧ image.config = i.config) :
    Keeps s (s.afterReset pins strap cooling warning image good) := by
  have loaded {P : StoredConfig → Prop} (hf : P factoryConfig) (hs : P s.store.image.config)
      (hi : ∀ i, s.store.saving = some i → P i.config) : P (loadedConfig image good) ∧ P image.config := by
    have himg : P image.config := by
      rcases himage with e | ⟨i, hsav, e⟩
      · rw [e]; exact hs
      · rw [e]; exact hi i hsav
    unfold loadedConfig
    split
    · exact ⟨himg, himg⟩
    · exact ⟨hf, himg⟩
  constructor
  case queue => exact fun _ => ⟨fun src => by cases src <;> exact Nat.zero_le _, fun _ => rfl⟩
  case stack => exact fun _ => ⟨⟨Nat.zero_le _, by rintro p ⟨⟩⟩, by rintro p ⟨⟩, fun _ => ⟨rfl, rfl⟩⟩
  case completion => exact fun _ => Nat.zero_le _
  case gate => exact fun _ => Changer.gateOk_of_unseen rfl (freshMap_state _)
  case fault => exact fun _ => ⟨Nat.zero_le _, .nil, by rintro e ⟨⟩, rfl⟩
  case faultLevel => exact fun _ => by rintro e ⟨⟩
  case guard => exact fun _ => Nat.zero_le _
  case debt => exact fun _ => ⟨Nat.zero_le _, Nat.zero_le _, fun hpos => absurd hpos (lt_irrefl 0)⟩
  case pending => rfl
  case clock => exact le_rfl
  case cueMap =>
    refine fun _ => ⟨Nat.zero_le _, .nil, fun hc => ⟨rfl, ?_⟩⟩
    exact if_neg (by rw [show pins.cassettePresent = false from hc]; decide)
  case pause =>
    refine fun _ => ⟨iff_of_true rfl ?_, fun h3 => absurd (show 3 ≤ 0 from h3) (by decide)⟩
    show (if pins.cassettePresent then TransportState.stopped else .noCassette) ≠ .paused
    split <;> nofun
  case fade =>
    rintro ⟨-, -, -, -, -, hs, hi⟩
    obtain ⟨hcfg, himg⟩ := loaded (P := fun c => c.items.soundAtStart ≤ 1000) (by decide) hs hi
    refine ⟨steadyChannel_law (Nat.zero_le _), steadyChannel_law hcfg, by rintro w ⟨⟩, fun e he l hl => ?_, hcfg, himg,
      by rintro i ⟨⟩⟩
    rw [freshMap_entry _ e he] at hl
    cases hl
  case lampRange =>
    rintro ⟨-, hs, hi⟩
    obtain ⟨hcfg, himg⟩ := loaded (P := fun c => LampItemsLaw c.items) (by decide) hs hi
    exact ⟨hcfg, himg, by rintro i ⟨⟩⟩
  case scan =>
    rintro ⟨-, hs, hi⟩
    obtain ⟨hcfg, himg⟩ := loaded (P := fun c => RoleLaw c.slots) (by decide) hs hi
    refine ⟨?_, himg, by rintro i ⟨⟩⟩
    show RoleLaw (((loadedConfig image good).slots.map slotAfterReset).map ScanSlot.cfg)
    rw [List.map_map]
    exact (List.map_id _).symm ▸ hcfg

theorem State.autoHome_keeps {s : State} (hn : s.changer.position = none) : Keeps s s.autoHome := by
  unfold State.autoHome
  split
  · next h => exact State.homeWithoutRequest_keeps h.2 fun _ => hn
  · exact .refl s

theorem State.powerOn_keeps (pins : Pins) (s : State) : Keeps s (s.powerOn pins) := by
  have himage : (s.imageAtPowerOn pins.supplyLost).1.config = s.store.image.config
      ∨ ∃ i, s.store.saving = some i ∧ (s.imageAtPowerOn pins.supplyLost).1.config = i.config := by
    unfold State.imageAtPowerOn
    split
    · exact .inl rfl
    · next new hnew =>
      split
      · exact .inr ⟨new, hnew, rfl⟩
      · unfold tornImage
        split
        · exact .inr ⟨new, hnew, rfl⟩
        · exact .inl rfl
  have h1 := State.afterReset_keeps pins pins.strap false false (s.imageAtPowerOn pins.supplyLost).2 himage
  unfold State.powerOn
  dsimp only
  split
  · exact (h1.trans (.of_free (by intro b hb; cases b <;> first | rfl | simp at hb))).trans (State.autoHome_keeps rfl)
  · exact h1.trans (State.autoHome_keeps rfl)

theorem State.linkReset_keeps (pins : Pins) (s : State) : Keeps s (s.linkReset pins) :=
  (State.afterReset_keeps _ _ _ _ _ (.inl rfl)).trans (State.autoHome_keeps rfl)

theorem State.makeDueReset_keeps (s : State) : Keeps s s.makeDueReset := by
  rcases s.makeDueReset_cases with ⟨e, -⟩ | ⟨pins, -, -, e⟩
  · rw [e]; exact .refl s
  · rw [e]; exact s.linkReset_keeps pins

theorem State.beginReset_keeps (pins : Pins) (s : State) : Keeps s (s.beginReset pins) := by
  refine .trans ?_ (State.makeDueReset_keeps _)
  exact .of_free (by intro b hb; cases b <;> first | rfl | simp at hb)

/-- The changer at the end of what was in flight. -/
theorem State.endChange_changer {s : State} {r : ChangeRecord} (hr : s.changer.record = some r) (o : ChangeOutcome)
    (after : ChangerState) (count : Bool) : (s.endChange o after count).changer =
      if after = .lost ∨ (after = .idle ∧ s.changer.jamClear = true) then s.changer.lost else s.changer.restsIn after := by
  have hcount (b : Bool) : (if count = true ∧ b = true then s.countChange o r else s).changer = s.changer := by
    split
    · exact s.countChange_frame o r .changer (by decide)
    · rfl
  have hrest (u : State) (hu : u.changer = s.changer) :
      (if after = .lost ∨ (after = .idle ∧ s.changer.jamClear = true) then u.enterLost
        else u.putChanger (u.changer.stopIn after)).changer
      = if after = .lost ∨ (after = .idle ∧ s.changer.jamClear = true) then s.changer.lost
        else s.changer.restsIn after := by
    split
    · exact congrArg Changer.lost hu
    · exact congrArg (Changer.restsIn after) hu
  unfold State.endChange
  rw [hr]
  dsimp only
  rw [State.fadeChangeEnd_frame _ _ _ _ .changer (by decide)]
  cases r.request with
  | none => exact hrest _ (hcount _)
  | some q =>
    dsimp only
    rw [State.completeRequest_frame _ _ _ _ .changer (by decide)]
    exact hrest _ (hcount _)

/-- From any state the changer is LOST once what was in flight has been aborted. -/
theorem State.abortToLost_changer (count : Bool) (s : State) : (s.abortToLost count).changer = s.changer.lost := by
  unfold State.abortToLost
  split
  · exact State.takePendings_frame _ .changer (by decide)
  · next r hr => rw [State.endChange_changer hr, if_pos (Or.inl rfl)]

/-- The blocks of a mechanism restart, for a part at PL 3 with its queues flushed. -/
theorem State.restartBlocks_keeps {s : State} (pins : Pins) (hpl : s.prot.pl = 3) : Keeps s (s.restartBlocks pins) := by
  have hframe : s.onlyChanges [.arb, .lamp, .cool, .scan, .tape, .dec, .cue, .prot, .panel, .changer, .link]
      (s.restartBlocks pins) := by intro b hb; cases b <;> first | rfl | simp at hb
  apply Keeps.of_frame hframe
  case queue => exact fun _ h => ⟨h.1, fun h2 => absurd (show 2 ≤ 0 from h2) (by decide)⟩
  case stack => exact fun _ h => ⟨⟨Nat.zero_le _, nofun⟩, h.2⟩
  case completion => exact fun _ => id
  case gate => exact fun _ => id
  case fault => exact fun _ _ => ⟨Nat.zero_le _, .nil, nofun, rfl⟩
  case faultLevel => exact fun _ _ => nofun
  case fade => exact fun _ => id
  case guard => exact fun _ _ => Nat.zero_le _
  case scan =>
    refine fun _ h => ⟨?_, h.2⟩
    show RoleLaw ((s.scan.slots.map fun sl => { sl with result := none }).map ScanSlot.cfg)
    rw [List.map_map]
    exact h.1
  case cueMap => exact fun _ => id
  case debt => exact fun _ h => ⟨Nat.zero_le _, h.2.1, nofun⟩
  case pause =>
    exact fun _ h => ⟨iff_of_true rfl (h.2 hpl.ge).2, fun h3 => absurd (show 3 ≤ 0 from h3) (by decide)⟩
  all_goals exact fun hb => absurd hb (by decide)

theorem State.restart_keeps {s : State} (pins : Pins) (hpl : s.prot.pl = 3) : Keeps s (s.restart pins) := by
  set s1 := s.restartFade.abortToLost false with hs1
  set s2 := (State.flushAll { s1 with cue := { s1.cue with debt := 0 } }) with hs2
  have h1 : Keeps s s1 := s.restartFade_keeps.trans (State.abortToLost_keeps false (.refl _ _) rfl)
  have h2 : Keeps s1 s2 := by
    refine .trans ?_ (State.flushAll_keeps _)
    apply Keeps.of_frame (bs := [.cue]) (by intro b hb; cases b <;> first | rfl | simp at hb)
    case cueMap => exact fun _ => id
    case debt => exact fun _ h => ⟨Nat.zero_le _, h.2.1, nofun⟩
    all_goals exact fun hb => absurd hb (by decide)
  have hprot : s2.prot = s.prot := by
    rw [hs2, State.flushAll_frame _ .prot (by decide)]
    exact State.abortToLost_frame false s.restartFade .prot (by decide)
  have hchanger : s2.changer = s.changer.lost := by
    rw [hs2, State.flushAll_frame _ .changer (by decide)]
    exact State.abortToLost_changer false s.restartFade
  have h3 : Keeps s (s2.restartBlocks pins) :=
    (h1.trans h2).trans (State.restartBlocks_keeps pins (by rw [hprot]; exact hpl))
  unfold State.restart
  dsimp only
  split
  · next ht => exact h3.trans (State.homeWithoutRequest_keeps ht fun _ => congrArg Changer.position hchanger)
  · exact h3

end Sys2Proof.Machine
end

section
/-! Every command answers a next state that obeys the laws of the state before it. -/

namespace Sys2Proof.Machine

/-- The outcome is a next state that obeys the laws that s obeys. -/
abbrev RunsFrom (s : State) (o : Host.Outcome State Fault Refusal) : Prop := ∃ t, o = .next t ∧ Keeps s t

theorem RunsFrom.of_keeps {s t : State} (h : Keeps s t) : RunsFrom s (.next t) := ⟨t, rfl, h⟩

/-! ## Frames of the show link (R169 to R179) -/

/-- What the port itself writes is in the link block. -/
theorem Keeps.of_link {s t : State} (h : s.onlyChanges [.link] t) : Keeps s t := .of_free (h.mono (by decide))

theorem State.endFrame_keeps (s : State) : Keeps s s.endFrame :=
  .of_link (by intro b hb; cases b <;> first | rfl | simp at hb)

theorem State.linkError_keeps (s : State) : Keeps s s.linkError :=
  .of_link (by intro b hb; cases b <;> first | rfl | simp at hb)

theorem State.heardMaster_keeps (s : State) : Keeps s s.heardMaster := by
  unfold State.heardMaster
  split
  · exact .of_link (by intro b hb; cases b <;> first | rfl | simp at hb)
  · exact .refl s

theorem Answer.send_keeps (kind : FrameKind) (h : Header) (a : Answer) : Keeps a.st (Answer.send kind h a) := by
  unfold Answer.send
  split
  · exact .of_link (by intro b hb; cases b <;> first | rfl | simp at hb)
  · exact .refl _

theorem State.followPartner_keeps (h : Header) (cont : Bool) (code : Nat) (args : List Byte) (s : State) :
    Keeps s (s.followPartner h cont code args) := by
  unfold State.followPartner
  split
  · exact .refl s
  · split
    · exact .refl s
    · exact (s.takeFade_keeps _ _ _ _).trans (State.settleFrom_keeps _ _)

theorem State.takeOwn_keeps (kind : FrameKind) (code : Nat) (h : Header) {take : State → Answer} (s : State)
    (ht : ∀ u, Keeps u (take u).st) : Keeps s (s.takeOwn kind code h take) := by
  have hframe := s.endFrame_keeps.trans (State.heardMaster_keeps _)
  unfold State.takeOwn
  dsimp only
  split
  · exact hframe
  · refine .trans ?_ (Answer.send_keeps _ _ _)
    refine .trans ?_ (State.settleFrom_keeps _ _)
    refine .trans (hframe.trans ?_) (ht _)
    exact .of_link (by intro b hb; cases b <;> first | rfl | simp at hb)

theorem State.commandFrame_keeps (code : Nat) (h : Header) (args : List Byte) {take : State → Answer} (s : State)
    (ht : ∀ u, Keeps u (take u).st) : Keeps s (s.commandFrame code h args take) := by
  unfold State.commandFrame
  split
  · split
    · exact s.endFrame_keeps
    · exact s.endFrame_keeps.trans (State.followPartner_keeps _ _ _ _ _)
    · exact s.takeOwn_keeps _ _ _ ht
    · exact s.takeOwn_keeps _ _ _ ht
  · exact .refl s

/-- The effect of a command is made below PL 3, but for the three that are taken at LOCKOUT (R172). -/
theorem commandTests_keeps (code len : Nat) (args : List Byte) {body : State → Answer}
    (hb : ∀ u, takenAtLockout code = true ∨ u.prot.pl < 3 → Keeps u (body u).st) (u : State) :
    Keeps u (commandTests code len args body u).st := by
  unfold commandTests
  split
  · exact .refl u
  split
  · exact .refl u
  · next hpl _ => exact hb u (by rcases not_and_or.mp hpl with h | h <;> simp_all)

theorem linkCommand_runs (code len : Nat) (h : Header) (args : List Byte) {body : State → Answer} (s : State)
    (hb : ∀ u, takenAtLockout code = true ∨ u.prot.pl < 3 → Keeps u (body u).st) :
    RunsFrom s (linkCommand code len h args body s) :=
  .of_keeps (s.commandFrame_keeps code h args (commandTests_keeps code len args hb))

theorem State.takeContinuation_keeps (kind : FrameKind) (h : Header) (code : Nat) (args : List Byte) (s : State) :
    Keeps s (s.takeContinuation kind h code args) := by
  have hframe := s.endFrame_keeps.trans (State.heardMaster_keeps _)
  have hseq (q : Option PendingSeq) (u : State) : Keeps u { u with link := { u.link with seq := q } } :=
    .of_link (by intro b hb; cases b <;> first | rfl | simp at hb)
  unfold State.takeContinuation
  dsimp only
  split
  · exact hframe.trans (State.linkError_keeps _)
  split
  · exact hframe.trans (State.linkError_keeps _)
  split
  · exact (hframe.trans (hseq none _)).trans (State.linkError_keeps _)
  split
  · exact (hframe.trans (hseq _ _)).trans (Answer.send_keeps _ _ (.ok _))
  · refine .trans ?_ (Answer.send_keeps _ _ _)
    refine .trans ?_ (State.settleFrom_keeps _ _)
    exact (hframe.trans (hseq none _)).trans (State.applySequence_keeps _ _ _)

/-! ## The commands of the show link -/

theorem State.linkOffer_keeps (r : Request) (s : State) : Keeps s (s.linkOffer r).st := s.offer_keeps r

section LinkCommands

variable (h : Header) (args : List Byte) (s : State)

theorem execStep_runs : RunsFrom s (execStep h args s) := by
  refine linkCommand_runs _ _ _ _ _ fun u _ => ?_
  split
  · exact .refl u
  · exact u.linkOffer_keeps _

theorem execFade_runs : RunsFrom s (execFade h args s) := by
  refine linkCommand_runs _ _ _ _ _ fun u _ => ?_
  split
  · exact .refl u
  · exact u.takeFade_keeps _ _ _ _

theorem execLamp_runs : RunsFrom s (execLamp h args s) := by
  refine linkCommand_runs _ _ _ _ _ fun u _ => ?_
  split
  · exact .refl u
  split
  · exact .refl u
  · exact u.writeSwitch_keeps _

theorem execAuto_runs : RunsFrom s (execAuto h args s) := by
  refine linkCommand_runs _ _ _ _ _ fun u _ => ?_
  split
  · exact .refl u
  · exact u.writeAuto_keeps _

theorem execPriority_runs : RunsFrom s (execPriority h args s) := by
  refine linkCommand_runs _ _ _ _ _ fun u _ => ?_
  dsimp only
  split
  · exact .refl u
  split
  · exact .of_arb (by intro b hb; cases b <;> first | rfl | simp at hb) rfl rfl id
  · exact .refl u

theorem execLock_runs : RunsFrom s (execLock h args s) := by
  refine linkCommand_runs _ _ _ _ _ fun u _ => ?_
  dsimp only
  split
  · exact .refl u
  split
  · exact .of_arb (by intro b hb; cases b <;> first | rfl | simp at hb) rfl rfl id
  split
  · exact .refl u
  · exact .of_arb (by intro b hb; cases b <;> first | rfl | simp at hb) rfl rfl id

theorem execTape_runs : RunsFrom s (execTape h args s) := by
  refine linkCommand_runs _ _ _ _ _ fun u hpl => ?_
  split
  · exact .refl u
  split
  · exact .refl u
  split
  · exact .refl u
  · exact State.tapeOp_keeps _ (hpl.resolve_left nofun)

theorem execSeekCue_runs : RunsFrom s (execSeekCue h args s) := by
  refine linkCommand_runs _ _ _ _ _ fun u _ => ?_
  split
  · exact .refl u
  next hs =>
  split
  · exact .refl u
  split
  · exact .refl u
  split
  · exact .refl u
  · exact State.beginSeek_keeps _ hs

theorem execBindCue_runs : RunsFrom s (execBindCue h args s) := by
  refine linkCommand_runs _ _ _ _ _ fun u _ => ?_
  split
  · exact .refl u
  split
  · exact u.bindEntry_keeps _ _
  split
  · exact .refl u
  · exact u.bindEntry_keeps _ _

theorem execFollow_runs : RunsFrom s (execFollow h args s) := by
  refine linkCommand_runs _ _ _ _ _ fun u _ => ?_
  dsimp only
  split
  · exact .refl u
  split
  · exact .of_link (by intro b hb; cases b <;> first | rfl | simp at hb)
  split
  · exact .refl u
  · exact .of_link (by intro b hb; cases b <;> first | rfl | simp at hb)

theorem execLimitClear_runs : RunsFrom s (execLimitClear h args s) := by
  refine linkCommand_runs _ _ _ _ _ fun u _ => ?_
  dsimp only
  split
  · refine .of_slots (by intro b hb; cases b <;> first | rfl | simp at hb) (List.ext_getElem? fun i => ?_)
    simp only [Answer.ok, List.getElem?_map, List.getElem?_modify, Option.map_eq_map, Option.map_map]
    refine congrArg (fun f => Option.map f u.scan.slots[i]?) (funext fun x => ?_)
    simp only [Function.comp_apply]
    split <;> rfl
  split
  · exact .of_slots (by intro b hb; cases b <;> first | rfl | simp at hb) (List.map_map ..)
  · exact .refl u

theorem execSet_runs : RunsFrom s (execSet h args s) := by
  refine linkCommand_runs _ _ _ _ _ fun u _ => ?_
  split
  · exact u.setItem_keeps _ _ _
  split
  · exact u.setSlotItem_keeps _ _ _
  · exact .refl u

theorem execSave_runs : RunsFrom s (execSave h args s) := by
  refine linkCommand_runs _ _ _ _ _ fun u _ => ?_
  split
  · exact .refl u
  · exact State.startSave_keeps (.inr rfl)

theorem execRead_runs : RunsFrom s (execRead h args s) := by
  refine linkCommand_runs _ _ _ _ _ fun u _ => ?_
  dsimp only
  split
  · exact .refl u
  · have hflag : Keeps u (match readFlag (arg args 0) with
        | none => u
        | some f => u.clearFlag f) := by
      split
      · exact .refl u
      · exact .of_link (by intro b hb; cases b <;> first | rfl | simp at hb)
    dsimp only
    split
    · exact hflag.trans (.of_free (by intro b hb; cases b <;> first | rfl | simp at hb))
    · exact hflag

theorem execReadCompletion_runs : RunsFrom s (execReadCompletion h args s) := by
  refine linkCommand_runs _ _ _ _ _ fun u _ => ?_
  dsimp only
  split
  · exact .refl u
  · next c rest hc =>
    have hdrop : Keeps u { u with arb := { u.arb with completions := rest } } := by
      refine .of_arb (by intro b hb; cases b <;> first | rfl | simp at hb) rfl rfl fun hlen => ?_
      rw [CompletionLaw, hc] at hlen
      exact (Nat.le_succ _).trans hlen
    dsimp only
    split
    · exact hdrop.trans (.of_link (by intro b hb; cases b <;> first | rfl | simp at hb))
    · exact hdrop

theorem execSetCounter_runs : RunsFrom s (execSetCounter h args s) := by
  refine linkCommand_runs _ _ _ _ _ fun u _ => ?_
  split
  · exact .refl u
  split
  · exact .refl u
  · exact .of_free (by intro b hb; cases b <;> first | rfl | simp at hb)

theorem execStandby_runs : RunsFrom s (execStandby h args s) := by
  refine linkCommand_runs _ _ _ _ _ fun u _ => ?_
  split
  · exact .refl u
  · exact u.powerAsked_keeps _

theorem execResetPart_runs : RunsFrom s (execResetPart h args s) := by
  have ht : Keeps s (s.commandFrame 33 h args
      (commandTests 33 0 args (fun t => .ok { t with link := { t.link with resetDue := true } }))) :=
    s.commandFrame_keeps _ _ _ (commandTests_keeps _ _ _ fun u _ =>
      .of_link (by intro b hb; cases b <;> first | rfl | simp at hb))
  unfold execResetPart
  dsimp only
  split
  · exact .of_keeps (ht.trans (State.beginReset_keeps _ _))
  · exact .of_keeps ht

end LinkCommands

/-! ## The events of the port, the counters and the store -/

theorem execContinuationFrame_runs (h : Header) (code : BitVec 6) (args : List Byte) (s : State) :
    RunsFrom s (execContinuationFrame h code args s) := by
  unfold execContinuationFrame
  split
  · split
    · exact .of_keeps s.endFrame_keeps
    · exact .of_keeps (s.endFrame_keeps.trans (State.followPartner_keeps _ _ _ _ _))
    · exact .of_keeps (s.takeContinuation_keeps _ _ _ _)
    · exact .of_keeps (s.takeContinuation_keeps _ _ _ _)
  · exact .of_keeps (.refl s)

theorem execUnknownCommand_runs (h : Header) (code : BitVec 6) (args : List Byte) (s : State) :
    RunsFrom s (execUnknownCommand h code args s) := by
  unfold execUnknownCommand
  split
  · exact .of_keeps (.refl s)
  · exact .of_keeps (s.commandFrame_keeps _ _ _ fun u => .refl u)

theorem execPartnerFrame_runs (h : Header) (cont : Bool) (code : BitVec 6) (args : List Byte) (s : State) :
    RunsFrom s (execPartnerFrame h cont code args s) := by
  unfold execPartnerFrame
  split
  · exact .of_keeps (s.endFrame_keeps.trans (State.followPartner_keeps _ _ _ _ _))
  · exact .of_keeps (.refl s)

theorem State.discardFrame_keeps (g : List Byte) (s : State) : Keeps s (s.discardFrame g) := by
  unfold State.discardFrame
  split
  · exact s.endFrame_keeps.trans (State.linkError_keeps _)
  · exact .refl s

theorem execFrameDiscarded_runs (f : List Byte) (s : State) : RunsFrom s (execFrameDiscarded f s) := by
  unfold execFrameDiscarded
  dsimp only
  split
  · exact .of_keeps (s.endFrame_keeps.trans (State.linkError_keeps _))
  · exact .of_keeps (.refl s)

theorem execLengthByteAbove8_runs (g : List Byte) (len : Byte) (s : State) :
    RunsFrom s (execLengthByteAbove8 g len s) := by
  unfold execLengthByteAbove8
  split
  · exact .of_keeps (s.discardFrame_keeps g)
  · exact .of_keeps (.refl s)

theorem execReplyDriverRelease_runs (s : State) : RunsFrom s (execReplyDriverRelease s) := by
  refine .of_keeps (.trans ?_ (State.makeDueReset_keeps _))
  exact .of_link (by intro b hb; cases b <;> first | rfl | simp at hb)

theorem execShowModeLapse_runs (s : State) : RunsFrom s (execShowModeLapse s) := by
  unfold execShowModeLapse
  split
  · exact .of_keeps (.refl s)
  next due _ =>
    refine .of_keeps (.trans (.trans (s.reachAt_keeps due) ?_) (.of_link (State.raiseFlag_frame _ _)))
    refine .trans (t := { s.reachAt due with link := { s.link with showMode := false, silenceDue := none } }) ?_ ?_
    · exact .of_link (by intro b hb; cases b <;> first | rfl | simp at hb)
    · exact .of_arb (by intro b hb; cases b <;> first | rfl | simp at hb) rfl rfl id

theorem State.storeDone_keeps {image : Image} {s : State} (h : s.store.saving = some image) :
    Keeps s { s with store := ⟨image, true, false, none, none, false⟩ } :=
by
  have hlawful : s.SavesLawful ⟨image, true, false, none, none, false⟩ :=
    ⟨.inr ⟨image, h, rfl⟩, fun i hi => by cases hi⟩
  exact .of_store (by intro b hb; cases b <;> first | rfl | simp at hb) hlawful

theorem execSaveComplete_runs (s : State) : RunsFrom s (execSaveComplete s) := by
  unfold execSaveComplete
  split
  · exact .of_keeps (.refl s)
  · next image hsav =>
    have hs : (s.reach s.store.saveDue).store = s.store := by cases s.store.saveDue <;> rfl
    have hdone := (s.reach_keeps s.store.saveDue).trans
      (State.storeDone_keeps (image := image) (hs.symm ▸ hsav))
    dsimp only
    refine .of_keeps (.trans ?_ (State.makeDueReset_keeps _))
    split
    · exact hdone.trans (State.startSave_keeps (.inl rfl))
    · exact hdone

theorem execSecondTick_runs (s : State) : RunsFrom s (execSecondTick s) := by
  have hgain (b : Bool) (i : CounterIndex) (u : State) : Keeps u (u.gainCounterIf b i) :=
    .of_free ((u.gainCounterIf_frame b i).mono (by decide))
  have htick (u : State) : Keeps u u.tickCounters := by
    unfold State.tickCounters
    dsimp only
    have hcount : Keeps u _ := (((Keeps.of_free (t := { u with usage := { u.usage with
        uptime := u.usage.uptime + 1
        femAcc := (femTick u.effective u.usage.femAcc).1
        lampAcc := (minuteTick (decide (0 < u.drive)) u.usage.lampAcc).1
        fanAcc := (minuteTick (decide (0 < u.duty)) u.usage.fanAcc).1
        tapeAcc := (minuteTick (u.tape.state == .play) u.usage.tapeAcc).1 } })
        (by intro b hb; cases b <;> first | rfl | simp at hb)).trans
      (hgain (femTick u.effective u.usage.femAcc).2 .lampFem _)).trans
      (hgain (minuteTick (decide (0 < u.drive)) u.usage.lampAcc).2 .lampMin _)).trans
      ((hgain (minuteTick (decide (0 < u.duty)) u.usage.fanAcc).2 .fanMin _).trans
        (hgain (minuteTick (u.tape.state == .play) u.usage.tapeAcc).2 .tapeMin _))
    split
    · exact hcount.trans (State.requestCounterSave_keeps _)
    · exact hcount
  refine .of_keeps (.trans (.trans (.trans (s.reachAt_keeps s.usage.secondDue) ?_) (htick _)) (State.settleFrom_keeps _ _))
  exact .of_free (by intro b hb; cases b <;> first | rfl | simp at hb)

/-! ## Resets and the warning -/

theorem execLinkReset_runs (pins : Pins) (s : State) : RunsFrom s (execLinkReset pins s) := by
  unfold execLinkReset
  split
  · exact .of_keeps (s.beginReset_keeps pins)
  · exact .of_keeps (.refl s)

theorem execMechanismRestart_runs (pins : Pins) (s : State) : RunsFrom s (execMechanismRestart pins s) := by
  unfold execMechanismRestart
  split
  · next h => exact .of_keeps ((State.restart_keeps pins h.2.1).trans (State.settleFrom_keeps _ _))
  · exact .of_keeps (.refl s)

theorem execSupplyFailWarning_runs (s : State) : RunsFrom s (execSupplyFailWarning s) := by
  unfold execSupplyFailWarning
  split
  · exact .of_keeps (.refl s)
  · refine .of_keeps (.trans (.trans ?_ (State.requestCounterSave_keeps _)) (State.settleFrom_keeps _ _))
    refine .trans (.trans (.trans (t := { s with cool := { s.cool with warning := true, stallDue := none } }) ?_
      (State.abortToLost_keeps true (.refl _ _) rfl)) (State.stopTape_keeps .supplyFail _)) ?_
    · exact .of_free (by intro b hb; cases b <;> first | rfl | simp at hb)
    · apply Keeps.of_frame (bs := [.lamp, .panel]) (by intro b hb; cases b <;> first | rfl | simp at hb)
      case guard => exact fun _ => id
      all_goals exact fun hb => absurd hb (by decide)

theorem execSupplyFailCleared_runs (s : State) : RunsFrom s (execSupplyFailCleared s) := by
  unfold execSupplyFailCleared
  split
  · exact .of_keeps (s.powerOn_keeps _)
  · exact .of_keeps (.refl s)

/-! ## The Tray Changer and the grant -/

/-- The readings that come with a command are read by no law. -/
theorem State.sense_keeps (sense : Sense) (s : State) : Keeps s { s with changer := { s.changer with sense := sense } } :=
  .of_outputs (s.putChanger_frame' _) rfl rfl rfl rfl

theorem execGrant_runs (sense : Sense) (s : State) : RunsFrom s (execGrant sense s) := by
  unfold execGrant
  cases hg : State.grantOnce { s with changer := { s.changer with sense := sense } } with
  | none => exact .of_keeps (.refl s)
  | some t => exact .of_keeps ((s.sense_keeps sense).trans (State.grantOnce_keeps hg))

theorem execIndexPulse_runs (homeMark : Bool) (s : State) : RunsFrom s (execIndexPulse homeMark s) := by
  have hs := s.sense_keeps { s.changer.sense with homeMark := homeMark }
  unfold execIndexPulse
  dsimp only
  split
  · exact .of_keeps ((hs.trans (State.lostByHand_keeps _)).trans (State.settleFrom_keeps _ _))
  · next hst _ hp => exact .of_keeps (hs.trans (State.rotateStep_keeps _ hst hp))
  · next hst _ hp => exact .of_keeps (hs.trans (State.returnStep_keeps _ hst hp))
  · next hst _ =>
    split
    · exact .of_keeps hs
    · exact .of_keeps ((hs.trans (State.homingStep_keeps _ hst)).trans (State.settleFrom_keeps _ _))
  · exact .of_keeps hs

theorem execHomingStepCountReached_runs (s : State) : RunsFrom s (execHomingStepCountReached s) := by
  unfold execHomingStepCountReached
  split
  · split
    · exact .of_keeps ((s.failHoming_keeps _).trans (State.settleFrom_keeps _ _))
    · exact .of_keeps (.refl s)
  · exact .of_keeps (.refl s)

/-- The changer is the same once the clock has reached a moment. -/
theorem State.reach_changer (d : Option Nat) (s : State) : (s.reach d).changer = s.changer := by cases d <;> rfl

theorem execRotateStepTimeout_runs (s : State) : RunsFrom s (execRotateStepTimeout s) := by
  have hr := s.reach_keeps s.changer.stageDue
  unfold execRotateStepTimeout
  split
  · next hst _ =>
    dsimp only
    split
    · exact .of_keeps (hr.trans (.of_outputs (State.putChanger_frame' _ _) rfl rfl rfl rfl))
    · exact .of_keeps (hr.trans (State.startReturn_keeps _ (by rw [State.reach_changer]; exact hst)))
  · exact .of_keeps (.refl s)

theorem execReturnStepTimeout_runs (s : State) : RunsFrom s (execReturnStepTimeout s) := by
  unfold execReturnStepTimeout
  split
  · next hst =>
    have hst' : (s.reach s.changer.stageDue).changer.state = .returning := by rw [State.reach_changer]; exact hst
    refine .of_keeps (.trans (.trans ((s.reach_keeps s.changer.stageDue).trans ?_) (State.raise_keeps _ _)) (State.settleFrom_keeps _ _))
    exact State.endChange_keeps_of_tray (.inr (by rw [hst']; nofun)) ⟨nofun, nofun⟩
      fun _ hg => hg.clear_of_gateEmpty (by rw [hst']; rfl)
  · exact .of_keeps (.refl s)

theorem execHomingStepTimeout_runs (s : State) : RunsFrom s (execHomingStepTimeout s) := by
  unfold execHomingStepTimeout
  split
  · split
    · exact .of_keeps (.refl s)
    · exact .of_keeps (((s.reach_keeps _).trans (State.failHoming_keeps _ _)).trans (State.settleFrom_keeps _ _))
  · exact .of_keeps (.refl s)

theorem execGateClearInLift_runs (homeMark : Bool) (s : State) : RunsFrom s (execGateClearInLift homeMark s) := by
  have hs := s.sense_keeps ⟨false, homeMark⟩
  unfold execGateClearInLift
  dsimp only
  split
  · next hst =>
    refine .of_keeps (hs.trans ?_)
    set s0 : State := { s with changer := { s.changer with sense := ⟨false, homeMark⟩ } } with hs0
    have hlift : s0.changer.state = .lift := hst
    refine State.liftDone_keeps ((s0.markEntry_frame .loaded).mono (by decide)) (.inr (by rw [hlift]; nofun)) ?_
      (s0.markEntry_position .loaded) (s0.markEntry_presets .loaded) (s0.markEntry_tray .loaded)
      (State.markEntry_clear nofun) State.markEntry_unseen
    rw [State.markEntry_changer]
    exact hlift
  · next hst =>
    split
    · exact .of_keeps ((hs.trans (State.homingSearch_keeps hst)).trans (State.settleFrom_keeps _ _))
    · exact .of_keeps (.refl s)
  · exact .of_keeps (.refl s)

theorem execLiftLimitExpiry_runs (s : State) : RunsFrom s (execLiftLimitExpiry s) := by
  have hr := s.reach_keeps s.changer.stageDue
  unfold execLiftLimitExpiry
  dsimp only
  split
  · next hst =>
    refine .of_keeps (.trans (.trans (hr.trans ?_) (State.raise_keeps _ _)) (State.settleFrom_keeps _ _))
    exact State.endChange_keeps_of_tray (.inr (by rw [State.reach_changer, hst]; nofun)) ⟨nofun, nofun⟩ nofun
  · split
    · exact .of_keeps ((hr.trans (State.failHoming_keeps _ _)).trans (State.settleFrom_keeps _ _))
    · exact .of_keeps (.refl s)
  · exact .of_keeps (.refl s)

theorem execGateOccupiedInDrop_runs (s : State) : RunsFrom s (execGateOccupiedInDrop s) := by
  unfold execGateOccupiedInDrop
  split
  · next hst =>
    dsimp only
    exact .of_keeps (((s.sense_keeps { s.changer.sense with gateOccupied := true }).trans (State.endDrop_keeps true hst)).trans (State.settleFrom_keeps _ _))
  · exact .of_keeps (.refl s)

theorem execDropLimitExpiry_runs (s : State) : RunsFrom s (execDropLimitExpiry s) := by
  unfold execDropLimitExpiry
  split
  · next hst => exact .of_keeps ((s.reach_keeps _).trans (State.endDrop_keeps false (by rw [State.reach_changer]; exact hst)))
  · exact .of_keeps (.refl s)

theorem execSettleExpiry_runs (s : State) : RunsFrom s (execSettleExpiry s) := by
  unfold execSettleExpiry
  split
  · next r hst _ =>
    have hend : Keeps s ((s.reach s.changer.stageDue).endChange (r.outcome.getD .done) .idle true) :=
      (s.reach_keeps _).trans (State.endChange_keeps_of_tray (.inr (by rw [State.reach_changer, hst]; nofun))
        ⟨nofun, nofun⟩ nofun)
    dsimp only
    split
    · exact .of_keeps ((hend.trans (State.startDwell_keeps _)).trans (State.settleFrom_keeps _ _))
    · exact .of_keeps (hend.trans (State.settleFrom_keeps _ _))
  · exact .of_keeps (.refl s)

theorem State.emptyStack_keeps (s : State) : Keeps s { s with arb := { s.arb with stack := [] } } := by
  apply Keeps.of_frame (bs := [.arb]) (by intro b hb; cases b <;> first | rfl | simp at hb)
  case queue => exact fun _ => id
  case stack => exact fun _ h => ⟨⟨Nat.zero_le _, by rintro p ⟨⟩⟩, h.2⟩
  case completion => exact fun _ => id
  case debt => exact fun _ => id
  all_goals exact fun hb => absurd hb (by decide)

theorem execTrayRemoval_runs (s : State) : RunsFrom s (execTrayRemoval s) := by
  unfold execTrayRemoval
  split
  · have hlost : Keeps s ({ s with changer := { s.changer with trayPresent := false } }.abortToLost true) :=
      State.abortToLost_keeps true ((s.putChanger_frame _).mono (by decide)) rfl
    dsimp only
    exact .of_keeps (((hlost.trans (State.flushAll_keeps _)).trans (State.emptyStack_keeps _)).trans
      (State.settleFrom_keeps _ _))
  · exact .of_keeps (.refl s)

theorem execTrayInsertion_runs (sense : Sense) (s : State) : RunsFrom s (execTrayInsertion sense s) := by
  unfold execTrayInsertion
  split
  · exact .of_keeps (.refl s)
  · have h0 : Keeps s { s with changer := { s.changer with trayPresent := true, sense := sense } } :=
      .of_changer (s.putChanger_frame' _) id (fun h => ⟨h.1, nofun⟩) id
    dsimp only
    split
    · next h =>
      exact .of_keeps ((h0.trans (State.homeWithoutRequest_keeps rfl fun hg => hg.2.2 (.inr h.2))).trans
        (State.settleFrom_keeps _ _))
    · exact .of_keeps h0

theorem execDwellExpiry_runs (s : State) : RunsFrom s (execDwellExpiry s) := by
  unfold execDwellExpiry
  split
  · exact .of_keeps (.refl s)
  · exact .of_keeps (((s.reachAt_keeps _).trans (State.cancelDwell_keeps _)).trans (State.offered_keeps _ _))

/-! ## Fades, lamp and mains -/

theorem execRampStep_runs (ch : Channel) (sense : Sense) (s : State) : RunsFrom s (execRampStep ch sense s) := by
  unfold execRampStep
  split
  · next hrun =>
    refine .of_keeps (.trans ?_ (State.settleFrom_keeps _ _))
    have hfade : (s.reach (s.fade.channel ch).stepDue).fade = s.fade := by cases (s.fade.channel ch).stepDue <;> rfl
    have hstep : Keeps s ((s.reach (s.fade.channel ch).stepDue).putChannel ch
        ((s.fade.channel ch).stepRamp (s.reach (s.fade.channel ch).stepDue).clock)) := by
      refine (s.reach_keeps (s.fade.channel ch).stepDue).trans ?_
      have h := State.stepRamp_keeps (s := s.reach (s.fade.channel ch).stepDue) (ch := ch)
        (s.reach (s.fade.channel ch).stepDue).clock (by rw [hfade]; exact hrun)
      rwa [hfade] at h
    unfold State.rampStep
    dsimp only
    split
    · next h =>
      refine (hstep.trans (State.sense_keeps sense _)).trans (State.leaveDipping_keeps (.inr ?_))
      exact fun e => absurd (h.2.2.symm.trans e) nofun
    · exact hstep
  · exact .of_keeps (.refl s)

theorem execGuardTick_runs (s : State) : RunsFrom s (execGuardTick s) := by
  refine .of_keeps (.trans (.trans (s.reachAt_keeps s.lamp.guardDue) ?_) (State.settleFrom_keeps _ _))
  exact .of_lamp (by intro b hb; cases b <;> first | rfl | simp at hb) fun _ => min_le_right _ _

theorem LampDrive.crossing_guardAcc (now : Nat) (l : LampDrive) : (l.crossing now).guardAcc = l.guardAcc := by
  have hmeasure (h : Nat) : (l.measure h).guardAcc = l.guardAcc := by
    unfold LampDrive.measure
    split_ifs <;> rfl
  unfold LampDrive.crossing
  cases l.lastCrossing with
  | none => rfl
  | some t => exact hmeasure _

theorem execZeroCrossing_runs (dt : Nat) (s : State) : RunsFrom s (execZeroCrossing dt s) := by
  refine .of_keeps ((s.elapse_keeps dt).trans (.of_lamp (by intro b hb; cases b <;> first | rfl | simp at hb) fun hg => ?_))
  exact (LampDrive.crossing_guardAcc _ _).trans_le hg

theorem execFiringPulse_runs (s : State) : RunsFrom s (execFiringPulse s) := by
  unfold execFiringPulse
  split
  · exact .of_keeps (.refl s)
  · exact .of_keeps ((s.reachAt_keeps _).trans (.of_lamp (by intro b hb; cases b <;> first | rfl | simp at hb) id))

theorem execMainsSilenceExpiry_runs (s : State) : RunsFrom s (execMainsSilenceExpiry s) := by
  unfold execMainsSilenceExpiry
  split
  · exact .of_keeps (.refl s)
  · exact .of_keeps ((s.reachAt_keeps _).trans (.of_lamp (by intro b hb; cases b <;> first | rfl | simp at hb) id))

/-! ## Scan, cooling and standby -/

theorem execScanPass_runs (raws : List (BitVec 12)) (s : State) : RunsFrom s (execScanPass raws s) := by
  refine .of_keeps (.trans (.trans (s.reachAt_keeps s.scanDue) ?_) (State.readSlotsFrom_keeps _ _ _))
  refine .trans (t := (s.reachAt s.scanDue).passWithoutCurrent) ?_ ?_
  · rcases (s.reachAt s.scanDue).passWithoutCurrent_cases with e | e
    · rw [e]; exact .refl _
    · rw [e]; exact .of_lamp (by intro b hb; cases b <;> first | rfl | simp at hb) id
  · have hslots : (s.reachAt s.scanDue).passWithoutCurrent.scan = s.scan := by
      rcases (s.reachAt s.scanDue).passWithoutCurrent_cases with e | e <;> rw [e] <;> rfl
    exact .of_slots (by intro b hb; cases b <;> first | rfl | simp at hb) (by rw [hslots]; rfl)

theorem State.testCooldownEnd_keeps (s : State) : Keeps s s.testCooldownEnd := by
  unfold State.testCooldownEnd
  split
  · split
    · exact .of_free (by intro b hb; cases b <;> first | rfl | simp at hb)
    · exact .refl s
  · exact .refl s

theorem execCooldownMinTimeReached_runs (s : State) : RunsFrom s (execCooldownMinTimeReached s) := by
  unfold execCooldownMinTimeReached
  split
  · exact .of_keeps (.refl s)
  · exact .of_keeps (((s.reachAt_keeps _).trans (State.testCooldownEnd_keeps _)).trans (State.settleFrom_keeps _ _))

theorem execOffTimeout_runs (s : State) : RunsFrom s (execOffTimeout s) := by
  unfold execOffTimeout
  split
  · refine .of_keeps (((s.reach_keeps s.cool.offDue).trans ?_).trans (State.settleFrom_keeps _ _))
    exact .of_free (by intro b hb; cases b <;> first | rfl | simp at hb)
  · exact .of_keeps (.refl s)

theorem State.takeTach_keeps (s : State) : Keeps s s.takeTach := by
  unfold State.takeTach
  dsimp only
  split
  · refine .trans ?_ (State.liveChange_keeps _ _ _ _)
    exact .of_free (by intro b hb; cases b <;> first | rfl | simp at hb)
  · exact .of_free (by intro b hb; cases b <;> first | rfl | simp at hb)

theorem execFanTachPulse_runs (dt : Nat) (s : State) : RunsFrom s (execFanTachPulse dt s) := by
  have h := s.elapse_keeps dt
  unfold execFanTachPulse
  dsimp only
  split
  · exact .of_keeps (h.trans (State.takeTach_keeps _))
  · split
    · exact .of_keeps h
    · exact .of_keeps (h.trans (State.takeTach_keeps _))

theorem execSpeedTimeout_runs (s : State) : RunsFrom s (execSpeedTimeout s) := by
  unfold execSpeedTimeout
  split
  · exact .of_keeps (.refl s)
  next last _ =>
    refine .of_keeps ((s.reachAt_keeps (last + ms 1500)).trans (.of_free ?_))
    intro b hb; cases b <;> first | rfl | simp at hb

theorem execStallTimerExpiry_runs (s : State) : RunsFrom s (execStallTimerExpiry s) := by
  unfold execStallTimerExpiry
  split
  · exact .of_keeps (.refl s)
  next due _ =>
    refine .of_keeps (.trans (.trans ((s.reachAt_keeps due).trans ?_) (State.liveActive_keeps _ _)) (State.settleFrom_keeps _ _))
    exact .of_free (by intro b hb; cases b <;> first | rfl | simp at hb)

/-! ## The tape and the cues -/

theorem execTapeTachPulse_runs (s : State) : RunsFrom s (execTapeTachPulse s) := by
  have hmove (n : Nat) (d : Option Nat) : Keeps s { s with tape := { s.tape with counter := n, tachDue := d } } :=
    .of_tape (by intro b hb; cases b <;> first | rfl | simp at hb) ⟨rfl, Iff.rfl, id, id⟩
  unfold execTapeTachPulse
  split
  · exact .of_keeps (.refl s)
  · next hs =>
    dsimp only
    split
    · split
      · exact .of_keeps ((hmove _ _).trans (State.tapeEnds_keeps _ rfl nofun hs))
      · exact .of_keeps (hmove _ _)
    · exact .of_keeps (hmove _ _)

theorem execTapeTachTimerExpiry_runs (leader trailer : Bool) (s : State) :
    RunsFrom s (execTapeTachTimerExpiry leader trailer s) := by
  unfold execTapeTachTimerExpiry
  split
  · exact .of_keeps (.refl s)
  · next due _ =>
    split
    · next hdriven =>
      have hs : (s.reachAt due).tape.state ≠ .noCassette := by
        intro e
        rw [show s.tape.state = .noCassette from e] at hdriven
        cases hdriven
      have hr := s.reachAt_keeps due
      have hstop (st : TransportState) (c : StopCause) (hst : st.playing = false) (hne : st ≠ .noCassette) :
          Keeps s (((s.reachAt due).tapeEnds st c).raiseFlag .syncTape) :=
        (hr.trans (State.tapeEnds_keeps c hst hne hs)).trans (.of_link (State.raiseFlag_frame _ _))
      dsimp only
      split
      · split
        · exact .of_keeps (hstop _ _ rfl nofun)
        · exact .of_keeps (hstop _ _ rfl nofun)
      · split
        · exact .of_keeps (hr.trans (State.atLeader_keeps hs))
        · exact .of_keeps (hstop _ _ rfl nofun)
    · exact .of_keeps (.refl s)

theorem execLeaderReached_runs (s : State) : RunsFrom s (execLeaderReached s) := by
  unfold execLeaderReached
  split
  · next hs => exact .of_keeps (State.atLeader_keeps (by rw [hs]; nofun))
  · next hs _ => exact .of_keeps (State.atLeader_keeps (by rw [hs]; nofun))
  · exact .of_keeps (.refl s)

theorem execCassetteRemoval_runs (s : State) : RunsFrom s (execCassetteRemoval s) := by
  unfold execCassetteRemoval
  split
  · apply RunsFrom.of_keeps
    apply Keeps.of_frame (bs := [.tape, .dec, .cue, .arb, .changer])
      (by intro b hb; cases b <;> first | rfl | simp at hb)
    case queue => exact fun _ => State.unlinkCue_queueLaw rfl rfl
    case stack => exact fun _ => id
    case completion => exact fun _ => id
    case gate => exact fun _ => id
    case fade => exact fun _ => id
    case cueMap => exact fun _ _ => ⟨Nat.zero_le _, .nil, fun _ => ⟨rfl, rfl⟩⟩
    case debt =>
      refine fun _ h => ⟨Nat.zero_le _, ?_, fun hpos => absurd (show 0 < 0 from hpos) (lt_irrefl 0)⟩
      show (s.arb.queues.cue.map Request.unlink).length ≤ 4
      rw [List.length_map]
      exact h.2.1
    case pause => exact fun _ _ => ⟨iff_of_true rfl nofun, fun _ => ⟨nofun, nofun⟩⟩
    all_goals exact fun hb => absurd hb (by decide)
  · exact .of_keeps (.refl s)

theorem execCassetteInsertion_runs (s : State) : RunsFrom s (execCassetteInsertion s) := by
  unfold execCassetteInsertion
  split
  · exact .of_keeps (.refl s)
  · apply RunsFrom.of_keeps
    apply Keeps.of_frame (bs := [.tape, .dec]) (by intro b hb; cases b <;> first | rfl | simp at hb)
    case cueMap => exact fun _ h => ⟨h.1, h.2.1, nofun⟩
    case pause => exact fun _ _ => ⟨iff_of_true rfl nofun, fun _ => ⟨nofun, nofun⟩⟩
    all_goals exact fun hb => absurd hb (by decide)

theorem execWindowClose_runs (count : Nat) (s : State) : RunsFrom s (execWindowClose count s) := by
  refine .of_keeps (.trans ((s.reachAt_keeps s.dec.windowDue).trans ?_) (State.closeWindow_keeps _ _))
  exact .of_free (by intro b hb; cases b <;> first | rfl | simp at hb)

/-! ## The handset and the front panel -/

/-- What the handset and the keys write of their own is in the panel block. -/
theorem Keeps.of_panel {s t : State} (h : s.onlyChanges [.panel] t) : Keeps s t := .of_free (h.mono (by decide))

theorem State.releaseHeld_keeps (s : State) : Keeps s s.releaseHeld :=
  .of_panel (by intro b hb; cases b <;> first | rfl | simp at hb)

theorem State.handsetStep_keeps (kind : ReqKind) (next : Nat) (s : State) : Keeps s (s.handsetStep kind next) :=
  (s.offered_keeps _).trans (.of_panel (by intro b hb; cases b <;> first | rfl | simp at hb))

theorem State.handsetAct_keeps (k : HandsetKey) (s : State) : Keeps s (s.handsetAct k) := by
  have hfocus (m : FocusMotor) : Keeps s (s.startFocus m) := by
    unfold State.startFocus
    split
    · exact .refl s
    · exact .of_panel (by intro b hb; cases b <;> first | rfl | simp at hb)
  cases k with
  | fwd => exact s.handsetStep_keeps _ _
  | rev => exact s.handsetStep_keeps _ _
  | back => exact s.offered_keeps _
  | hold => exact s.takeHold_keeps
  | resume => exact s.takeResume_keeps.trans (State.removeReason_keeps _ _)
  | mark => exact s.markPosition_keeps
  | focusIn => exact hfocus _
  | focusOut => exact hfocus _

theorem State.handsetFrame_keeps (bits : BitVec 8) (s : State) : Keeps s (s.handsetFrame bits) := by
  have hheard (u : State) : Keeps u u.heardHandset :=
    .of_panel (by intro b hb; cases b <;> first | rfl | simp at hb)
  have hpress (k : HandsetKey) (u : State) : Keeps u (u.handsetPress k) := by
    have h1 : Keeps u { u with panel := { u.panel with
        held := some k, releaseDue := some (u.clock + ms 250), inert := u.pressInert } } :=
      .of_panel (by intro b hb; cases b <;> first | rfl | simp at hb)
    unfold State.handsetPress
    dsimp only
    split
    · exact h1
    · exact h1.trans (State.handsetAct_keeps _ _)
  have hkey (k : HandsetKey) : Keeps s (s.handsetKey k) := by
    refine (hheard s).trans ?_
    unfold State.handsetKey
    dsimp only
    split
    · exact .of_panel (by intro b hb; cases b <;> first | rfl | simp at hb)
    split
    · exact (State.releaseHeld_keeps _).trans (hpress _ _)
    · exact hpress _ _
  have hidle : Keeps s s.handsetIdle := by
    refine (hheard s).trans ?_
    unfold State.handsetIdle
    dsimp only
    split
    · exact State.releaseHeld_keeps _
    · exact .refl _
  cases hc : frameComplement bits with
  | false =>
    rw [State.handsetFrame_invalid hc]
    exact .of_panel (by intro b hb; cases b <;> first | rfl | simp at hb)
  | true =>
    rcases State.handsetFrame_valid hc s with ⟨k, -, e⟩ | ⟨-, e⟩
    · rw [e]; exact hkey k
    · rw [e]; exact hidle

theorem execRemoteIdleFrame_runs (code : BitVec 4) (s : State) : RunsFrom s (execRemoteIdleFrame code s) := by
  unfold execRemoteIdleFrame
  split
  · exact .of_keeps (.refl s)
  · exact .of_keeps (s.handsetFrame_keeps _)

theorem execRemoteComplementFail_runs (bits : BitVec 8) (s : State) : RunsFrom s (execRemoteComplementFail bits s) := by
  unfold execRemoteComplementFail
  split
  · exact .of_keeps (.refl s)
  · exact .of_keeps (s.handsetFrame_keeps _)

theorem execPresenceTimeout_runs (s : State) : RunsFrom s (execPresenceTimeout s) := by
  unfold execPresenceTimeout
  split
  · exact .of_keeps (.refl s)
  next due _ =>
    refine .of_keeps ((s.reachAt_keeps due).trans (.of_panel ?_))
    intro b hb; cases b <;> first | rfl | simp at hb

theorem execReleaseTimerExpiry_runs (s : State) : RunsFrom s (execReleaseTimerExpiry s) := by
  unfold execReleaseTimerExpiry
  split
  · exact .of_keeps (.refl s)
  · exact .of_keeps ((s.reachAt_keeps _).trans (State.releaseHeld_keeps _))

theorem execAutoStepExpiry_runs (s : State) : RunsFrom s (execAutoStepExpiry s) := by
  unfold execAutoStepExpiry
  split
  · exact .of_keeps (.refl s)
  next due _ =>
    dsimp only
    split
    · exact .of_keeps ((s.reachAt_keeps _).trans (State.handsetStep_keeps _ _ _))
    · exact .of_keeps ((s.reachAt_keeps _).trans (State.handsetStep_keeps _ _ _))
    · refine .of_keeps ((s.reachAt_keeps due).trans (.of_panel ?_))
      intro b hb; cases b <;> first | rfl | simp at hb

theorem execFocusRunExpiry_runs (s : State) : RunsFrom s (execFocusRunExpiry s) := by
  unfold execFocusRunExpiry
  split
  · exact .of_keeps (.refl s)
  next due _ =>
    refine .of_keeps ((s.reachAt_keeps due).trans (.of_panel ?_))
    intro b hb; cases b <;> first | rfl | simp at hb

theorem State.putKey_keeps (key : PanelKey) (v : PanelKeyState) (s : State) : Keeps s (s.putKey key v) :=
  .of_panel (by intro b hb; cases b <;> first | rfl | simp at hb)

/-- A key acts below PL 3 only. -/
theorem State.panelPress_keeps (key : PanelKey) {act : State → State} (s : State)
    (hact : ∀ u, u.prot.pl < 3 → Keeps u (act u)) : Keeps s (s.panelPress key act) := by
  unfold State.panelPress
  split
  · exact .refl s
  split
  · exact s.putKey_keeps _ _
  · next hpl =>
    exact ((s.putKey_keeps _ _).trans (hact _ (Nat.lt_of_not_le hpl))).trans (State.settleFrom_keeps _ _)

theorem State.lampKey_keeps (s : State) : Keeps s s.lampKey := by
  unfold State.lampKey
  split
  · exact .refl s
  split
  · split
    · exact .refl s
    · exact s.writeSwitch_keeps _
  · exact s.writeSwitch_keeps _

theorem State.tapeKey_keeps {s : State} (hpl : s.prot.pl < 3) : Keeps s s.tapeKey := by
  unfold State.tapeKey
  split
  · exact .refl s
  split
  · exact .refl s
  all_goals first | exact State.tapeOp_keeps _ hpl | (split <;> first | exact .refl s | exact State.tapeOp_keeps _ hpl)

theorem State.releaseHoldKey_keeps (s : State) : Keeps s s.releaseHoldKey := by
  have h1 : Keeps s { s.putKey .hold ⟨false, false⟩ with
      panel := { (s.putKey .hold ⟨false, false⟩).panel with longDue := none } } :=
    .of_panel (by intro b hb; cases b <;> first | rfl | simp at hb)
  unfold State.releaseHoldKey
  dsimp only
  split
  · split
    · exact h1.trans (State.takeResume_keeps _)
    · exact h1.trans (State.takeHold_keeps _)
  · exact h1

theorem execPanelHoldLongPress_runs (s : State) : RunsFrom s (execPanelHoldLongPress s) := by
  unfold execPanelHoldLongPress
  split
  · exact .of_keeps (.refl s)
  · next due _ =>
    have h1 : Keeps s { s.reachAt due with panel := { (s.reachAt due).panel with longDue := none } } :=
      (s.reachAt_keeps due).trans (.of_panel (by intro b hb; cases b <;> first | rfl | simp at hb))
    dsimp only
    split
    · exact .of_keeps ((h1.trans (State.clearFault_keeps _)).trans (State.settleFrom_keeps _ _))
    · exact .of_keeps h1

theorem execPanelKeyRelease_runs (key : PanelKey) (s : State) : RunsFrom s (execPanelKeyRelease key s) := by
  unfold execPanelKeyRelease
  split
  · exact .of_keeps s.releaseHoldKey_keeps
  · exact .of_keeps (s.putKey_keeps _ _)

/-! ## Every command -/

/-- Every command answers a next state that obeys the laws of the state before it. -/
theorem exec_runs (c : Instr) (s : State) : RunsFrom s (exec c s) := by
  have hpanel (key : PanelKey) {act : State → State} (h : ∀ u, u.prot.pl < 3 → Keeps u (act u)) :
      RunsFrom s (.next (s.panelPress key act)) := .of_keeps (s.panelPress_keeps key h)
  have hremote (bits : BitVec 8) : RunsFrom s (.next (s.handsetFrame bits)) := .of_keeps (s.handsetFrame_keeps bits)
  cases c with
  | powerOnReset pins => exact .of_keeps (s.powerOn_keeps pins)
  | resetPart h args => exact execResetPart_runs h args s
  | linkReset pins => exact execLinkReset_runs pins s
  | mechanismRestart pins => exact execMechanismRestart_runs pins s
  | supplyFailWarning => exact execSupplyFailWarning_runs s
  | supplyFailCleared => exact execSupplyFailCleared_runs s
  | grant sense => exact execGrant_runs sense s
  | indexPulse homeMark => exact execIndexPulse_runs homeMark s
  | homingStepCountReached => exact execHomingStepCountReached_runs s
  | rotateStepTimeout => exact execRotateStepTimeout_runs s
  | returnStepTimeout => exact execReturnStepTimeout_runs s
  | homingStepTimeout => exact execHomingStepTimeout_runs s
  | gateClearInLift homeMark => exact execGateClearInLift_runs homeMark s
  | liftLimitExpiry => exact execLiftLimitExpiry_runs s
  | gateOccupiedInDrop => exact execGateOccupiedInDrop_runs s
  | dropLimitExpiry => exact execDropLimitExpiry_runs s
  | settleExpiry => exact execSettleExpiry_runs s
  | trayRemoval => exact execTrayRemoval_runs s
  | trayInsertion sense => exact execTrayInsertion_runs sense s
  | dwellExpiry => exact execDwellExpiry_runs s
  | rampStep ch sense => exact execRampStep_runs ch sense s
  | guardTick => exact execGuardTick_runs s
  | zeroCrossing dt => exact execZeroCrossing_runs dt s
  | firingPulse => exact execFiringPulse_runs s
  | mainsSilenceExpiry => exact execMainsSilenceExpiry_runs s
  | scanPass raws => exact execScanPass_runs raws s
  | cooldownMinTimeReached => exact execCooldownMinTimeReached_runs s
  | offTimeout => exact execOffTimeout_runs s
  | fanTachPulse dt => exact execFanTachPulse_runs dt s
  | speedTimeout => exact execSpeedTimeout_runs s
  | stallTimerExpiry => exact execStallTimerExpiry_runs s
  | tapeTachPulse => exact execTapeTachPulse_runs s
  | tapeTachTimerExpiry leader trailer => exact execTapeTachTimerExpiry_runs leader trailer s
  | leaderReached => exact execLeaderReached_runs s
  | cassetteRemoval => exact execCassetteRemoval_runs s
  | cassetteInsertion => exact execCassetteInsertion_runs s
  | windowClose count => exact execWindowClose_runs count s
  | secondTick => exact execSecondTick_runs s
  | saveComplete => exact execSaveComplete_runs s
  | frameGapDiscard g => exact .of_keeps (s.discardFrame_keeps g)
  | frameDiscarded f => exact execFrameDiscarded_runs f s
  | unknownCommand h code args => exact execUnknownCommand_runs h code args s
  | partnerFrame h cont code args => exact execPartnerFrame_runs h cont code args s
  | continuationFrame h code args => exact execContinuationFrame_runs h code args s
  | step h args => exact execStep_runs h args s
  | goto h args => exact linkCommand_runs _ _ _ _ _ fun u _ => u.linkOffer_keeps _
  | ret h args => exact linkCommand_runs _ _ _ _ _ fun u _ => u.linkOffer_keeps _
  | home h args => exact linkCommand_runs _ _ _ _ _ fun u _ => u.linkOffer_keeps _
  | mark h args => exact linkCommand_runs _ _ _ _ _ fun u _ => u.markPosition_keeps
  | flush h args => exact linkCommand_runs _ _ _ _ _ fun u _ => u.flushLink_keeps.trans (State.reportCue_keeps _)
  | fade h args => exact execFade_runs h args s
  | lamp h args => exact execLamp_runs h args s
  | lampReset h args => exact linkCommand_runs _ _ _ _ _ fun u _ => u.clearFailed_keeps
  | hold h args => exact linkCommand_runs _ _ _ _ _ fun u _ => u.takeHold_keeps
  | resume h args => exact linkCommand_runs _ _ _ _ _ fun u _ => u.takeResume_keeps
  | auto h args => exact execAuto_runs h args s
  | priority h args => exact execPriority_runs h args s
  | lock h args => exact execLock_runs h args s
  | tape h args => exact execTape_runs h args s
  | seekCue h args => exact execSeekCue_runs h args s
  | bindCue h args => exact execBindCue_runs h args s
  | clearMap h args => exact linkCommand_runs _ _ _ _ _ fun u _ => u.emptyMap_keeps
  | follow h args => exact execFollow_runs h args s
  | takeShow h args =>
    exact linkCommand_runs _ _ _ _ _ fun u _ => .of_link (by intro b hb; cases b <;> first | rfl | simp at hb)
  | releaseShow h args =>
    exact linkCommand_runs _ _ _ _ _ fun u _ => .of_link (by intro b hb; cases b <;> first | rfl | simp at hb)
  | clearFault h args => exact linkCommand_runs _ _ _ _ _ fun u _ => u.clearFault_keeps
  | limitClear h args => exact execLimitClear_runs h args s
  | set h args => exact execSet_runs h args s
  | lawTable h args =>
    exact linkCommand_runs _ _ _ _ _ fun u _ => .of_link (by intro b hb; cases b <;> first | rfl | simp at hb)
  | scanSlot h args =>
    exact linkCommand_runs _ _ _ _ _ fun u _ => .of_link (by intro b hb; cases b <;> first | rfl | simp at hb)
  | save h args => exact execSave_runs h args s
  | read h args => exact execRead_runs h args s
  | readCompletion h args => exact execReadCompletion_runs h args s
  | readCounters h args =>
    exact linkCommand_runs _ _ _ _ _ fun u _ => .of_link (by intro b hb; cases b <;> first | rfl | simp at hb)
  | setCounter h args => exact execSetCounter_runs h args s
  | standby h args => exact execStandby_runs h args s
  | showModeLapse => exact execShowModeLapse_runs s
  | remoteFwd => exact hremote _
  | remoteRev => exact hremote _
  | remoteHold => exact hremote _
  | remoteResume => exact hremote _
  | remoteMark => exact hremote _
  | remoteBack => exact hremote _
  | remoteFocusIn => exact hremote _
  | remoteFocusOut => exact hremote _
  | remoteIdleFrame code => exact execRemoteIdleFrame_runs code s
  | remoteFrameAbandoned b =>
    exact .of_keeps (.of_panel (by intro b hb; cases b <;> first | rfl | simp at hb))
  | remoteComplementFail bits => exact execRemoteComplementFail_runs bits s
  | presenceTimeout => exact execPresenceTimeout_runs s
  | releaseTimerExpiry => exact execReleaseTimerExpiry_runs s
  | autoStepExpiry => exact execAutoStepExpiry_runs s
  | focusRunExpiry => exact execFocusRunExpiry_runs s
  | panelFwd => exact hpanel _ fun u _ => u.offered_keeps _
  | panelRev => exact hpanel _ fun u _ => u.offered_keeps _
  | panelHome => exact hpanel _ fun u _ => u.offered_keeps _
  | panelPower => exact hpanel _ fun u _ => u.powerAsked_keeps _
  | panelLamp => exact hpanel _ fun u _ => u.lampKey_keeps
  | panelTape => exact hpanel _ fun u hpl => State.tapeKey_keeps hpl
  | panelHoldPress =>
    exact hpanel _ fun u _ => .of_panel (by intro b hb; cases b <;> first | rfl | simp at hb)
  | panelHoldRelease => exact .of_keeps s.releaseHoldKey_keeps
  | panelHoldLongPress => exact execPanelHoldLongPress_runs s
  | panelKeyRelease key => exact execPanelKeyRelease_runs key s
  | byteWithNoStopBit g => exact .of_keeps (s.discardFrame_keeps g)
  | lengthByteAbove8 g len => exact execLengthByteAbove8_runs g len s
  | replyDriverRelease => exact execReplyDriverRelease_runs s

/-- Settles O2: every command's answer is a next state, with the queue and the clock as Keeps says. -/
theorem everyCommandRuns : Obligations.EveryCommandRuns := fun c s => by
  obtain ⟨t, ht, hk⟩ := exec_runs c s
  exact ⟨t, ht, hk.pending, hk.clock⟩

/-- Settles O1: by the definition of the step on each form of the queue. -/
theorem stepTakesTheFrontCommand : Obligations.StepTakesTheFrontCommand := by
  refine ⟨fun c rest s h => ?_, fun s h => ?_⟩ <;> unfold step <;> rw [h]

/-- A step obeys the laws of the state before it, but for the queue and the clock, which are its own. -/
theorem step_keeps {s t : State} (h : step s = .next t) :
    ∃ queue now, Keeps { s with pending := queue, clock := now } t := by
  unfold step at h
  split at h
  · cases h
    exact ⟨s.pending, s.clock + 1, .refl _⟩
  · next c rest _ =>
    obtain ⟨t', ht, hk⟩ := exec_runs c { s with pending := rest }
    rw [ht] at h
    cases h
    exact ⟨rest, s.clock, hk⟩

/-- Settles O55: no command moves the lists of the arbiter out of their bounds, and no law reads queue or clock. -/
theorem stepKeepsTheArbiterLists : Obligations.StepKeepsTheArbiterLists :=
  ⟨fun _ _ hs h => let ⟨_, _, hk⟩ := step_keeps h; hk.queue hs,
    fun _ _ hs h => let ⟨_, _, hk⟩ := step_keeps h; hk.stack hs,
    fun _ _ hs h => let ⟨_, _, hk⟩ := step_keeps h; hk.completion hs⟩

/-- Settles O56: no command puts a second entry IN-GATE. -/
theorem stepKeepsOneEntryInGate : Obligations.StepKeepsOneEntryInGate :=
  fun _ _ hs h => let ⟨_, _, hk⟩ := step_keeps h; hk.gate hs

/-- Settles O57: an entry is pushed above the top alone, at its cause's minimum level or higher. -/
theorem stepKeepsTheFaultStack : Obligations.StepKeepsTheFaultStack :=
  ⟨fun _ _ hs h => let ⟨_, _, hk⟩ := step_keeps h; hk.fault hs,
    fun _ _ hs h => let ⟨_, _, hk⟩ := step_keeps h; hk.faultLevel hs⟩

/-- Settles O58: ramps stay between their ends, and every write of an item or a slot passes its tests. -/
theorem stepKeepsLevelsAndRoles : Obligations.StepKeepsLevelsAndRoles :=
  ⟨fun _ _ hs h => let ⟨_, _, hk⟩ := step_keeps h; hk.fade hs,
    fun _ _ hs h => let ⟨_, _, hk⟩ := step_keeps h; hk.guard hs,
    fun _ _ hs h => let ⟨_, _, hk⟩ := step_keeps h; hk.lampRange hs,
    fun _ _ hs h => let ⟨_, _, hk⟩ := step_keeps h; hk.scan hs⟩

/-- Settles O59: an entry is learned out of tolerance of the others, debt grows on a full queue, and PAUSED goes with
its reasons. -/
theorem stepKeepsTheCueMapAndDebt : Obligations.StepKeepsTheCueMapAndDebt :=
  ⟨fun _ _ hs h => let ⟨_, _, hk⟩ := step_keeps h; hk.cueMap hs,
    fun _ _ hs h => let ⟨_, _, hk⟩ := step_keeps h; hk.debt hs,
    fun _ _ hs h => let ⟨_, _, hk⟩ := step_keeps h; hk.pause hs⟩

/-! ## The reset state (R186) -/

theorem State.reset_fadeLaw : FadeLaw State.reset := by
  have hpreset : ∀ e ∈ State.reset.changer.map, e.lampPreset = none := by decide
  refine ⟨⟨by decide, by decide, by decide, by decide, by rintro f ⟨⟩, by decide, by decide⟩,
    ⟨by decide, by decide, by decide, by decide, by rintro f ⟨⟩, by decide, by decide⟩,
    by rintro w ⟨⟩, fun e he l hl => ?_, by decide, by decide, by rintro i ⟨⟩⟩
  rw [hpreset e he] at hl
  cases hl

theorem State.reset_gateLaw : GateLaw State.reset := by
  have hunseen : ∀ e ∈ State.reset.changer.map, e.state = .unseen := by decide
  refine ⟨fun i e he hs => ?_, fun _ => hunseen, fun _ => rfl⟩
  rw [hunseen e (List.mem_of_getElem? he)] at hs
  cases hs

/-- Settles O54: each law evaluated at the reset state. -/
theorem lawsHoldAtReset : Obligations.LawsHoldAtReset :=
  ⟨⟨by decide, by decide, by decide, rfl⟩, by decide, ⟨fun src => by cases src <;> decide, fun _ => rfl⟩,
    ⟨⟨by decide, by decide⟩, by rintro p ⟨⟩, by decide⟩, by decide, State.reset_fadeLaw, by decide,
    ⟨by decide, .nil, by decide⟩, ⟨by decide, by decide, by decide⟩, State.reset_gateLaw,
    ⟨by decide, by decide, by rintro i ⟨⟩⟩, by decide, ⟨by decide, by decide, by rintro i ⟨⟩⟩, ⟨by decide, by decide⟩⟩

end Sys2Proof.Machine
end

section
/-! Cooldown goes with the drive: a fall to 0 starts it, a rise ends it, and nothing else starts it (R82, R185). -/

namespace Sys2Proof.Machine

/-! ## The drive and what it reads (R46 to R52) -/

/-- The drive reads these five blocks alone. -/
abbrev driveBlocks : List Block := [.fade, .lamp, .cool, .items, .prot]

/-- What the drive reads: equal readings give equal drives. -/
theorem State.drive_congr {s t : State} (hlevel : t.fade.lamp.level = s.fade.lamp.level)
    (hswitch : t.lamp.switch = s.lamp.switch) (hfailed : t.lamp.failed = s.lamp.failed)
    (hguard : t.lamp.guardEngaged = s.lamp.guardEngaged) (hth : t.cool.th = s.cool.th) (hitems : t.items = s.items)
    (hpl : t.prot.pl = s.prot.pl) : t.drive = s.drive := by
  simp only [State.drive, State.effective, State.ceiling, State.switchCeiling, State.derateCeiling, State.filmCeiling,
    State.protectCeiling, State.failedCeiling, hlevel, hswitch, hfailed, hguard, hth, hitems, hpl]

theorem State.drive_of_frame {s t : State} {bs : List Block} (h : s.onlyChanges bs t)
    (hbs : ∀ b ∈ driveBlocks, b ∉ bs) : t.drive = s.drive := by
  have efade : t.fade = s.fade := h .fade (hbs _ (by decide))
  have elamp : t.lamp = s.lamp := h .lamp (hbs _ (by decide))
  have ecool : t.cool = s.cool := h .cool (hbs _ (by decide))
  have eitems : t.items = s.items := h .items (hbs _ (by decide))
  have eprot : t.prot = s.prot := h .prot (hbs _ (by decide))
  exact drive_congr (by rw [efade]) (by rw [elamp]) (by rw [elamp]) (by rw [elamp]) (by rw [ecool]) eitems (by rw [eprot])

theorem State.drive_of_switch_off {s : State} (h : s.lamp.switch = .off) : s.drive = 0 := by
  have hceiling : s.effective = 0 := by simp [effective, ceiling, switchCeiling, h]
  rw [drive, if_neg (by simp [h]), hceiling]

/-! ## What follows at once (R82, R185) -/

theorem State.requestCounterSave_saving (s : State) : s.requestCounterSave.store.saving.isSome = true := by
  unfold requestCounterSave
  split
  · assumption
  · rfl

theorem State.driveChanged_drive (d : Nat) (s : State) : (s.driveChanged d).drive = s.drive := by
  unfold driveChanged
  split
  · exact (drive_of_frame (requestCounterSave_frame _) (by decide)).trans (drive_congr rfl rfl rfl rfl rfl rfl rfl)
  split
  · exact drive_congr rfl rfl rfl rfl rfl rfl rfl
  · rfl

theorem State.offChanged_drive (b : Bool) (s : State) : (s.offChanged b).drive = s.drive := by
  unfold offChanged
  split
  · exact drive_congr rfl rfl rfl rfl rfl rfl rfl
  · rfl

theorem State.dutyChanged_drive (d : Nat) (s : State) : (s.dutyChanged d).drive = s.drive := by
  unfold dutyChanged
  split
  · rfl
  split
  · exact drive_congr rfl rfl rfl rfl rfl rfl rfl
  split
  · exact drive_congr rfl rfl rfl rfl rfl rfl rfl
  · rfl

theorem State.settleFrom_drive (s t : State) : (s.settleFrom t).drive = t.drive := by
  unfold settleFrom lifeChanged
  rw [drive_of_frame (raiseFlagIf_frame _ _ _) (by decide), dutyChanged_drive, offChanged_drive, driveChanged_drive]

theorem State.offChanged_darkStart (b : Bool) (s : State) : (s.offChanged b).cool.darkStart = s.cool.darkStart := by
  unfold offChanged
  split <;> rfl

theorem State.dutyChanged_darkStart (d : Nat) (s : State) : (s.dutyChanged d).cool.darkStart = s.cool.darkStart := by
  unfold dutyChanged
  split
  · rfl
  split
  · rfl
  split <;> rfl

/-- Cooldown and store after a step are those that the change of the drive makes. -/
theorem State.settleFrom_darkStart_eq (s t : State) :
    (s.settleFrom t).cool.darkStart = (t.driveChanged s.drive).cool.darkStart := by
  unfold settleFrom lifeChanged
  rw [raiseFlagIf_frame _ _ _ .cool (by decide), dutyChanged_darkStart, offChanged_darkStart]

theorem State.settleFrom_store (s t : State) : (s.settleFrom t).store = (t.driveChanged s.drive).store := by
  unfold settleFrom lifeChanged
  rw [raiseFlagIf_frame _ _ _ .store (by decide), dutyChanged_frame _ _ .store (by decide),
    offChanged_frame _ _ .store (by decide)]

theorem State.settleFrom_clock (s t : State) : (s.settleFrom t).clock = t.clock := settleFrom_frame s t .clock (by decide)

theorem State.settleFrom_fell {s t : State} (hlit : 0 < s.drive) (hdark : t.drive = 0) :
    (s.settleFrom t).cool.darkStart = some t.clock ∧ (s.settleFrom t).store.saving.isSome = true := by
  rw [settleFrom_darkStart_eq, settleFrom_store, driveChanged, if_pos ⟨hlit, hdark⟩]
  exact ⟨congrArg Cooling.darkStart (requestCounterSave_frame _ .cool (by decide)), requestCounterSave_saving _⟩

theorem State.settleFrom_rose {s t : State} (hdark : s.drive = 0) (hlit : 0 < t.drive) :
    (s.settleFrom t).cool.darkStart = none := by
  rw [settleFrom_darkStart_eq, driveChanged, if_neg (by omega), if_pos ⟨hdark, hlit⟩]

theorem State.driveChanged_stays {d : Nat} {s : State} (h : 0 < d ↔ 0 < s.drive) : s.driveChanged d = s := by
  rw [driveChanged, if_neg (by omega), if_neg (by omega)]

/-! ## What a command makes of cooldown -/

/-- A lamp that is lit while cooldown runs was so before: cooldown starts at a fall of the drive only. -/
def State.KeepsDark (s t : State) : Prop :=
  0 < t.drive → t.cool.darkStart.isSome = true → 0 < s.drive ∧ s.cool.darkStart.isSome = true

/-- A fall of the drive to 0 starts cooldown at this moment and leaves a save in progress. -/
def State.StartsDark (s t : State) : Prop :=
  0 < s.drive → t.drive = 0 → t.store.saving.isSome = true ∧ t.cool.darkStart = some t.clock

structure Cools (s t : State) : Prop where
  keeps : s.KeepsDark t
  starts : s.StartsDark t

theorem State.KeepsDark.trans {s t u : State} (h1 : s.KeepsDark t) (h2 : t.KeepsDark u) : s.KeepsDark u :=
  fun hlit hdark => (h2 hlit hdark).elim h1

theorem State.KeepsDark.of_dark {s t : State} (h : t.drive = 0) : s.KeepsDark t := fun hlit => absurd hlit (by omega)

theorem Cools.of_same {s t : State} (hdrive : t.drive = s.drive) (hdark : t.cool.darkStart = s.cool.darkStart) :
    Cools s t :=
  ⟨fun hlit h => ⟨by omega, hdark ▸ h⟩, fun hlit h => by omega⟩

theorem Cools.refl (s : State) : Cools s s := .of_same rfl rfl

/-- A step that leaves alone what the drive reads. -/
theorem Cools.of_frame {s t : State} {bs : List Block} (h : s.onlyChanges bs t)
    (hbs : ∀ b ∈ driveBlocks, b ∉ bs) : Cools s t :=
  .of_same (State.drive_of_frame h hbs) (congrArg Cooling.darkStart (h .cool (hbs _ (by decide))))

/-- A step whose own effects start no cooldown, with what follows at once. -/
theorem Cools.of_settled {s t : State} (h : t.cool.darkStart.isSome = true → s.cool.darkStart.isSome = true) :
    Cools s (s.settleFrom t) := by
  refine ⟨fun hlit hdark => ?_, fun hlit hdark => ?_⟩
  · rw [State.settleFrom_drive] at hlit
    rcases Nat.eq_zero_or_pos s.drive with h0 | h0
    · rw [State.settleFrom_rose h0 hlit] at hdark
      cases hdark
    · rw [State.settleFrom_darkStart_eq, State.driveChanged_stays (by omega)] at hdark
      exact ⟨h0, h hdark⟩
  · rw [State.settleFrom_drive] at hdark
    rw [State.settleFrom_clock]
    exact (State.settleFrom_fell hlit hdark).symm

theorem Cools.settled {s t : State} {bs : List Block} (h : s.onlyChanges bs t) (hc : Block.cool ∉ bs) :
    Cools s (s.settleFrom t) :=
  .of_settled fun hd => (congrArg Cooling.darkStart (h .cool hc)) ▸ hd

/-- What comes before a step and leaves alone what the drive reads. -/
theorem Cools.before {s t u : State} {bs : List Block} (h : s.onlyChanges bs t) (hc : Cools t u)
    (hbs : ∀ b ∈ driveBlocks, b ∉ bs) : Cools s u := by
  have hdrive := State.drive_of_frame h hbs
  have hcool : t.cool = s.cool := h .cool (hbs _ (by decide))
  refine ⟨fun hlit hdark => ?_, fun hlit => hc.starts (hdrive ▸ hlit)⟩
  rw [← hdrive, ← hcool]
  exact hc.keeps hlit hdark

/-- What comes after a step and writes the port alone. -/
theorem Cools.andLink {s t u : State} (hc : Cools s t) (h : t.onlyChanges [.link] u) : Cools s u := by
  have hdrive := State.drive_of_frame h (by decide)
  have hcool : u.cool = t.cool := h .cool (by decide)
  have hstore : u.store = t.store := h .store (by decide)
  have hclock : u.clock = t.clock := h .clock (by decide)
  refine ⟨fun hlit hdark => hc.keeps (hdrive ▸ hlit) (hcool ▸ hdark), fun hlit hdark => ?_⟩
  rw [hstore, hcool, hclock]
  exact hc.starts hlit (hdrive ▸ hdark)

theorem State.reach_frame (d : Option Nat) (s : State) : s.onlyChanges [.clock] (s.reach d) := by
  cases d <;> (intro b hb; cases b <;> first | rfl | simp at hb)

theorem State.reachAt_frame (d : Nat) (s : State) : s.onlyChanges [.clock] (s.reachAt d) := by
  intro b hb; cases b <;> first | rfl | simp at hb

/-! ## Link commands -/

/-- An answer that starts no cooldown of its own. -/
def Answer.Quiet (s : State) (a : Answer) : Prop :=
  a.st.cool.darkStart.isSome = true → s.cool.darkStart.isSome = true

theorem Answer.Quiet.of_frame {s : State} {a : Answer} {bs : List Block} (h : s.onlyChanges bs a.st)
    (hc : Block.cool ∉ bs) : a.Quiet s :=
  fun hd => (congrArg Cooling.darkStart (h .cool hc)) ▸ hd

theorem Answer.Quiet.same {s : State} {a : Answer} (h : a.st.cool.darkStart = s.cool.darkStart) : a.Quiet s :=
  fun hd => h ▸ hd

theorem commandTests_quiet (code len : Nat) (args : List Byte) {body : State → Answer} {u : State}
    (hb : (body u).Quiet u) : (commandTests code len args body u).Quiet u := by
  unfold commandTests
  split
  · exact .same rfl
  split
  · exact .same rfl
  · exact hb

theorem State.endFrame_frame (s : State) : s.onlyChanges [.link] s.endFrame := by
  intro b hb; cases b <;> first | rfl | simp at hb

theorem State.linkError_frame (s : State) : s.onlyChanges [.link] s.linkError := by
  intro b hb; cases b <;> first | rfl | simp at hb

theorem State.heardMaster_frame (s : State) : s.onlyChanges [.link] s.heardMaster := by
  unfold heardMaster
  split
  · intro b hb; cases b <;> first | rfl | simp at hb
  · exact .refl _ s

theorem State.closeSequence_frame (q : Option PendingSeq) (s : State) :
    s.onlyChanges [.link] { s with link := { s.link with seq := q } } := by
  intro b hb; cases b <;> first | rfl | simp at hb

theorem Answer.send_frame (kind : FrameKind) (h : Header) (a : Answer) :
    a.st.onlyChanges [.link] (Answer.send kind h a) := by
  unfold Answer.send
  split
  · intro b hb; cases b <;> first | rfl | simp at hb
  · exact .refl _ _

theorem State.followPartner_cools (h : Header) (cont : Bool) (code : Nat) (args : List Byte) (s : State) :
    Cools s (s.followPartner h cont code args) := by
  unfold followPartner
  split
  · exact .refl s
  split
  · exact .refl s
  · exact .settled (s.takeFade_frame _ _ _ _) (by decide)

theorem State.takeOwn_cools (kind : FrameKind) (code : Nat) (h : Header) {take : State → Answer} (s : State)
    (ht : ∀ u, (take u).Quiet u) : Cools s (s.takeOwn kind code h take) := by
  have hframe := s.endFrame_frame.trans (heardMaster_frame _)
  unfold takeOwn
  dsimp only
  split
  · exact .of_frame hframe (by decide)
  · refine .before (hframe.trans (closeSequence_frame none _)) ?_ (by decide)
    exact (Cools.of_settled (ht _)).andLink (Answer.send_frame kind h _)

theorem State.commandFrame_cools (code : Nat) (h : Header) (args : List Byte) {take : State → Answer} (s : State)
    (ht : ∀ u, (take u).Quiet u) : Cools s (s.commandFrame code h args take) := by
  unfold commandFrame
  split
  · split
    · exact .of_frame s.endFrame_frame (by decide)
    · exact .before s.endFrame_frame (followPartner_cools _ _ _ _ _) (by decide)
    · exact s.takeOwn_cools _ _ _ ht
    · exact s.takeOwn_cools _ _ _ ht
  · exact .refl s

/-- The command's outcome takes cooldown where the drive goes. -/
abbrev CoolsTo (s : State) (o : Host.Outcome State Fault Refusal) : Prop := ∀ t, o = .next t → Cools s t

theorem CoolsTo.next {s t : State} (h : Cools s t) : CoolsTo s (.next t) := by
  rintro u ⟨⟩
  exact h

theorem linkCommand_cools (code len : Nat) (h : Header) (args : List Byte) {body : State → Answer} (s : State)
    (hb : ∀ u, (body u).Quiet u) : CoolsTo s (linkCommand code len h args body s) :=
  .next (s.commandFrame_cools code h args fun u => commandTests_quiet code len args (hb u))

theorem State.tellInactive_cool (a b : ScanSlot) (s : State) : (s.tellInactive a b).cool = s.cool := by
  unfold tellInactive
  split
  · rfl
  split <;> rfl

theorem State.tellInactives_cool (l : List (ScanSlot × ScanSlot)) (s : State) :
    (l.foldl (fun t p => t.tellInactive p.1 p.2) s).cool = s.cool := by
  induction l generalizing s with
  | nil => rfl
  | cons p l ih => exact (ih _).trans (s.tellInactive_cool _ _)

theorem State.applySequence_quiet (cmd : SeqCommand) (bytes : List Byte) (s : State) :
    (s.applySequence cmd bytes).Quiet s := by
  unfold applySequence
  split
  · exact .same rfl
  cases cmd with
  | lawTable =>
    show (s.applyLaw bytes).Quiet s
    unfold applyLaw
    dsimp only
    split <;> exact .same rfl
  | scanSlot =>
    show (s.applySlot bytes).Quiet s
    unfold applySlot
    dsimp only
    split
    · split
      · exact .same (congrArg Cooling.darkStart (tellInactives_cool _ _))
      · exact .same rfl
    · exact .same rfl

theorem State.takeContinuation_cools (kind : FrameKind) (h : Header) (code : Nat) (args : List Byte) (s : State) :
    Cools s (s.takeContinuation kind h code args) := by
  have hframe := s.endFrame_frame.trans (heardMaster_frame _)
  have hclosed := hframe.trans (closeSequence_frame none _)
  unfold takeContinuation
  dsimp only
  split
  · exact .of_frame (hframe.trans (linkError_frame _)) (by decide)
  split
  · exact .of_frame (hframe.trans (linkError_frame _)) (by decide)
  split
  · exact .of_frame (hclosed.trans (linkError_frame _)) (by decide)
  split
  · exact .of_frame ((hframe.trans (closeSequence_frame _ _)).trans (Answer.send_frame kind h (.ok _))) (by decide)
  · exact .before hclosed ((Cools.of_settled (applySequence_quiet _ _ _)).andLink (Answer.send_frame kind h _)) (by decide)

end Sys2Proof.Machine
end

section
/-! Every command takes cooldown where the drive goes (R82, R185). -/

namespace Sys2Proof.Machine

section LinkCommands

variable (h : Header) (args : List Byte) (s : State)

theorem execStep_cools : CoolsTo s (execStep h args s) := by
  refine linkCommand_cools _ _ _ _ _ fun u => ?_
  split
  · exact .same rfl
  · exact .of_frame (u.offer_frame _) (by decide)

theorem execFade_cools : CoolsTo s (execFade h args s) := by
  refine linkCommand_cools _ _ _ _ _ fun u => ?_
  split
  · exact .same rfl
  · exact .of_frame (u.takeFade_frame _ _ _ _) (by decide)

theorem execLamp_cools : CoolsTo s (execLamp h args s) := by
  refine linkCommand_cools _ _ _ _ _ fun u => ?_
  split
  · exact .same rfl
  split <;> exact .same rfl

theorem execAuto_cools : CoolsTo s (execAuto h args s) := by
  refine linkCommand_cools _ _ _ _ _ fun u => ?_
  split
  · exact .same rfl
  · exact .of_frame (u.writeAuto_frame _) (by decide)

theorem execPriority_cools : CoolsTo s (execPriority h args s) := by
  refine linkCommand_cools _ _ _ _ _ fun u => ?_
  split
  · exact .same rfl
  split <;> exact .same rfl

theorem execLock_cools : CoolsTo s (execLock h args s) := by
  refine linkCommand_cools _ _ _ _ _ fun u => ?_
  split
  · exact .same rfl
  split
  · exact .same rfl
  split <;> exact .same rfl

theorem execTape_cools : CoolsTo s (execTape h args s) := by
  refine linkCommand_cools _ _ _ _ _ fun u => ?_
  split
  · exact .same rfl
  split
  · exact .same rfl
  split
  · exact .same rfl
  · exact .of_frame (u.tapeOp_frame _) (by decide)

theorem execSeekCue_cools : CoolsTo s (execSeekCue h args s) := by
  refine linkCommand_cools _ _ _ _ _ fun u => ?_
  split
  · exact .same rfl
  split
  · exact .same rfl
  split
  · exact .same rfl
  split
  · exact .same rfl
  · exact .of_frame (u.beginSeek_frame _) (by decide)

theorem execBindCue_cools : CoolsTo s (execBindCue h args s) := by
  refine linkCommand_cools _ _ _ _ _ fun u => ?_
  split
  · exact .same rfl
  split
  · exact .same rfl
  split <;> exact .same rfl

theorem execFollow_cools : CoolsTo s (execFollow h args s) := by
  refine linkCommand_cools _ _ _ _ _ fun u => ?_
  split
  · exact .same rfl
  split
  · exact .same rfl
  split <;> exact .same rfl

theorem execLimitClear_cools : CoolsTo s (execLimitClear h args s) := by
  refine linkCommand_cools _ _ _ _ _ fun u => ?_
  split
  · exact .same rfl
  split <;> exact .same rfl

theorem State.setItem_quiet (item index v : Nat) (u : State) : (u.setItem item index v).Quiet u := by
  have hacts (t : State) : (t.itemActs item v).cool = t.cool := by
    unfold itemActs
    split <;> rfl
  unfold setItem
  split
  · exact .same rfl
  split
  · exact .same rfl
  split
  · exact .same rfl
  · exact .same (congrArg Cooling.darkStart (hacts _))

theorem State.setSlotItem_quiet (item n v : Nat) (u : State) : (u.setSlotItem item n v).Quiet u := by
  unfold setSlotItem
  repeat' split
  all_goals exact .same rfl

theorem execSet_cools : CoolsTo s (execSet h args s) := by
  refine linkCommand_cools _ _ _ _ _ fun u => ?_
  split
  · exact u.setItem_quiet _ _ _
  split
  · exact u.setSlotItem_quiet _ _ _
  · exact .same rfl

theorem execSave_cools : CoolsTo s (execSave h args s) := by
  refine linkCommand_cools _ _ _ _ _ fun u => ?_
  split <;> exact .same rfl

theorem execRead_cools : CoolsTo s (execRead h args s) := by
  refine linkCommand_cools _ _ _ _ _ fun u => ?_
  dsimp only
  split
  · exact .same rfl
  · refine .same ?_
    dsimp only
    split <;> split <;> rfl

theorem execReadCompletion_cools : CoolsTo s (execReadCompletion h args s) := by
  refine linkCommand_cools _ _ _ _ _ fun u => ?_
  dsimp only
  split
  · exact .same rfl
  · refine .same ?_
    dsimp only
    split <;> rfl

theorem execSetCounter_cools : CoolsTo s (execSetCounter h args s) := by
  refine linkCommand_cools _ _ _ _ _ fun u => ?_
  split
  · exact .same rfl
  split <;> exact .same rfl

theorem State.enterStandby_darkStart (u : State) : u.enterStandby.cool.darkStart = u.cool.darkStart := by
  have hstop : ((({ u with cool := { u.cool with power := .coolingDown } }.writeSwitch .off).stopTape
      .standby)).cool.darkStart = u.cool.darkStart := by
    rw [stopTape_frame _ _ .cool (by decide)]
    rfl
  unfold enterStandby
  dsimp only
  split
  · exact (congrArg Cooling.darkStart (State.offered_frame _ _ .cool (by decide))).trans hstop
  · exact hstop

theorem State.powerAsked_darkStart (on : Option Bool) (u : State) :
    (u.powerAsked on).cool.darkStart = u.cool.darkStart := by
  unfold powerAsked
  repeat' split
  all_goals first | rfl | exact u.enterStandby_darkStart

theorem execStandby_cools : CoolsTo s (execStandby h args s) := by
  refine linkCommand_cools _ _ _ _ _ fun u => ?_
  split
  · exact .same rfl
  · exact .same (u.powerAsked_darkStart _)

end LinkCommands

/-! ## The events of the port, the counters and the store -/

theorem execContinuationFrame_cools (h : Header) (code : BitVec 6) (args : List Byte) (s : State) :
    CoolsTo s (execContinuationFrame h code args s) := by
  unfold execContinuationFrame
  split
  · split
    · exact .next (.of_frame s.endFrame_frame (by decide))
    · exact .next (.before s.endFrame_frame (State.followPartner_cools _ _ _ _ _) (by decide))
    · exact .next (s.takeContinuation_cools _ _ _ _)
    · exact .next (s.takeContinuation_cools _ _ _ _)
  · exact .next (.refl s)

theorem execUnknownCommand_cools (h : Header) (code : BitVec 6) (args : List Byte) (s : State) :
    CoolsTo s (execUnknownCommand h code args s) := by
  unfold execUnknownCommand
  split
  · exact .next (.refl s)
  · exact .next (s.commandFrame_cools _ _ _ fun u => .same rfl)

theorem execPartnerFrame_cools (h : Header) (cont : Bool) (code : BitVec 6) (args : List Byte) (s : State) :
    CoolsTo s (execPartnerFrame h cont code args s) := by
  unfold execPartnerFrame
  split
  · exact .next (.before s.endFrame_frame (State.followPartner_cools _ _ _ _ _) (by decide))
  · exact .next (.refl s)

theorem State.discardFrame_frame (g : List Byte) (s : State) : s.onlyChanges [.link] (s.discardFrame g) := by
  unfold discardFrame
  split
  · exact s.endFrame_frame.trans (linkError_frame _)
  · exact .refl _ s

theorem execFrameDiscarded_cools (f : List Byte) (s : State) : CoolsTo s (execFrameDiscarded f s) := by
  unfold execFrameDiscarded
  dsimp only
  split
  · exact .next (.of_frame (s.endFrame_frame.trans (State.linkError_frame _)) (by decide))
  · exact .next (.refl s)

theorem execLengthByteAbove8_cools (g : List Byte) (len : Byte) (s : State) :
    CoolsTo s (execLengthByteAbove8 g len s) := by
  unfold execLengthByteAbove8
  split
  · exact .next (.of_frame (s.discardFrame_frame g) (by decide))
  · exact .next (.refl s)

theorem execShowModeLapse_cools (s : State) : CoolsTo s (execShowModeLapse s) := by
  unfold execShowModeLapse
  split
  · exact .next (.refl s)
  · exact .next (.of_same (State.drive_congr rfl rfl rfl rfl rfl rfl rfl) rfl)

/-- A tick writes counters and asks for a save. -/
theorem State.tickCounters_frame (s : State) : s.onlyChanges [.usage, .link, .store] s.tickCounters := by
  have h0 : s.onlyChanges [.usage, .link] { s with usage := { s.usage with
      uptime := s.usage.uptime + 1
      femAcc := (femTick s.effective s.usage.femAcc).1
      lampAcc := (minuteTick (decide (0 < s.drive)) s.usage.lampAcc).1
      fanAcc := (minuteTick (decide (0 < s.duty)) s.usage.fanAcc).1
      tapeAcc := (minuteTick (s.tape.state == .play) s.usage.tapeAcc).1 } } := by
    intro b hb; cases b <;> first | rfl | simp at hb
  have h1 := (((h0.trans (gainCounterIf_frame (femTick s.effective s.usage.femAcc).2 .lampFem _)).trans
    (gainCounterIf_frame (minuteTick (decide (0 < s.drive)) s.usage.lampAcc).2 .lampMin _)).trans
    (gainCounterIf_frame (minuteTick (decide (0 < s.duty)) s.usage.fanAcc).2 .fanMin _)).trans
    (gainCounterIf_frame (minuteTick (s.tape.state == .play) s.usage.tapeAcc).2 .tapeMin _)
  unfold tickCounters
  dsimp only
  split
  · exact h1.andThen (requestCounterSave_frame _) (by decide) (by decide)
  · exact h1.mono (by decide)

theorem execSecondTick_cools (s : State) : CoolsTo s (execSecondTick s) := by
  refine .next (.of_settled fun hd => ?_)
  rwa [State.tickCounters_frame _ .cool (by decide)] at hd

/-! ## Resets (R82, R83) -/

theorem State.homeWithoutRequest_switch_off {s : State} (h : s.lamp.switch = .off) :
    s.homeWithoutRequest.lamp.switch = .off := by
  rw [s.homeWithoutRequest_frame .lamp (by decide)]
  exact h

theorem State.autoHome_drive {s : State} (h : s.lamp.switch = .off) : s.autoHome.drive = 0 := by
  unfold autoHome
  split
  · exact drive_of_switch_off (homeWithoutRequest_switch_off h)
  · exact drive_of_switch_off h

theorem State.powerOn_drive (pins : Pins) (s : State) : (s.powerOn pins).drive = 0 := by
  unfold powerOn
  refine autoHome_drive ?_
  split <;> rfl

theorem State.linkReset_drive (pins : Pins) (s : State) : (s.linkReset pins).drive = 0 := autoHome_drive rfl

theorem State.makeDueReset_keepsDark {s t : State} (h : s.KeepsDark t) : s.KeepsDark t.makeDueReset := by
  unfold makeDueReset
  split
  · exact h
  split
  · exact h
  · exact .of_dark (linkReset_drive _ _)

theorem State.beginReset_keepsDark (pins : Pins) {s t : State} (h : Cools s t) : s.KeepsDark (t.beginReset pins) :=
  makeDueReset_keepsDark (h.andLink (by intro b hb; cases b <;> first | rfl | simp at hb)).keeps

theorem State.makeDueReset_of_none {s : State} (h : s.link.resetPins = none) : s.makeDueReset = s := by
  rw [makeDueReset, h]

/-- The store is written and the image saved, before a link reset that waits is made. -/
theorem execSaveComplete_cools {s t : State} (h : execSaveComplete s = .next t) :
    ∃ u, Cools s u ∧ u.link = s.link ∧ (t = u ∨ t = u.makeDueReset) := by
  unfold execSaveComplete at h
  split at h
  · cases h
    exact ⟨s, .refl s, rfl, .inl rfl⟩
  · next image _ =>
    cases h
    have h1 : s.onlyChanges [.clock, .store]
        { s.reach s.store.saveDue with store := ⟨image, true, false, none, none, false⟩ } := by
      refine (s.reach_frame s.store.saveDue).andThen (bs := [.store]) ?_ (by decide) (by decide)
      intro b hb; cases b <;> first | rfl | simp at hb
    have h2 : s.onlyChanges [.clock, .store]
        { s.reach s.store.saveDue with store := ⟨image, true, false, none, none, false⟩ }.startCounterSave :=
      h1.trans (by intro b hb; cases b <;> first | rfl | simp at hb)
    split
    · exact ⟨_, .of_frame h2 (by decide), h2 .link (by decide), .inr rfl⟩
    · exact ⟨_, .of_frame h1 (by decide), h1 .link (by decide), .inr rfl⟩

theorem State.restart_darkStart (pins : Pins) (s : State) : (s.restart pins).cool.darkStart = s.cool.darkStart := by
  have hflushed : ({ s.restartFade.abortToLost false with
      cue := { (s.restartFade.abortToLost false).cue with debt := 0 } }.flushAll).cool = s.cool := by
    rw [flushAll_frame _ .cool (by decide)]
    exact abortToLost_frame false s.restartFade .cool (by decide)
  have hblocks (u : State) : (u.restartBlocks pins).cool.darkStart = u.cool.darkStart := rfl
  unfold restart
  dsimp only
  split
  · rw [homeWithoutRequest_frame _ .cool (by decide), hblocks, hflushed]
  · rw [hblocks, hflushed]

theorem execMechanismRestart_cools (pins : Pins) (s : State) : CoolsTo s (execMechanismRestart pins s) := by
  unfold execMechanismRestart
  split
  · exact .next (.of_settled fun hd => by rwa [State.restart_darkStart] at hd)
  · exact .next (.refl s)

theorem execSupplyFailWarning_cools (s : State) : CoolsTo s (execSupplyFailWarning s) := by
  unfold execSupplyFailWarning
  split
  · exact .next (.refl s)
  · refine .next (.of_settled fun hd => ?_)
    rw [State.requestCounterSave_frame _ .cool (by decide)] at hd
    dsimp only at hd
    rwa [State.stopTape_frame _ _ .cool (by decide), State.abortToLost_frame _ _ .cool (by decide)] at hd

/-! ## The Tray Changer and the grant -/

theorem State.sense_frame (sense : Sense) (s : State) :
    s.onlyChanges [.changer] { s with changer := { s.changer with sense := sense } } := s.putChanger_frame _

theorem execGrant_cools (sense : Sense) (s : State) : CoolsTo s (execGrant sense s) := by
  unfold execGrant
  cases hg : State.grantOnce { s with changer := { s.changer with sense := sense } } with
  | none => exact .next (.refl s)
  | some t =>
    refine .next (.before (s.sense_frame sense) ?_ (by decide))
    unfold State.grantOnce at hg
    split at hg
    · cases hg
    split at hg
    · cases hg
    · cases hg
      exact .settled (State.grantHead_frame _ _ _ _) (by decide)

theorem State.rotateStep_frame (r : ChangeRecord) (p : Nat) (s : State) : s.onlyChanges [.changer] (s.rotateStep r p) := by
  unfold rotateStep
  dsimp only
  split
  · exact (s.putChanger_frame _).trans (arrive_frame _ _)
  · exact s.putChanger_frame _

theorem State.returnStep_frame (r : ChangeRecord) (p : Nat) (s : State) : s.onlyChanges [.changer] (s.returnStep r p) := by
  unfold returnStep
  dsimp only
  split
  · exact (s.putChanger_frame _).trans (arrive_frame _ _)
  · exact s.putChanger_frame _

theorem State.lostByHand_frame (s : State) : s.onlyChanges [.changer, .arb, .fade] s.lostByHand :=
  s.enterLost_frame.andThen (takePendings_frame _) (by decide) (by decide)

theorem State.homingStep_frame (r : ChangeRecord) (s : State) :
    s.onlyChanges [.changer, .arb, .fade, .usage, .link] (s.homingStep r) := by
  unfold homingStep
  dsimp only
  split
  · exact (s.putChanger_frame _).andThen (homingSuccess_frame _) (by decide) (by decide)
  · exact (s.putChanger_frame _).mono (by decide)

theorem execIndexPulse_cools (homeMark : Bool) (s : State) : CoolsTo s (execIndexPulse homeMark s) := by
  have hs := s.sense_frame { s.changer.sense with homeMark := homeMark }
  unfold execIndexPulse
  dsimp only
  split
  · exact .next (.settled (hs.andThen (State.lostByHand_frame _) (cs := [.changer, .arb, .fade]) (by decide) (by decide)) (by decide))
  · exact .next (.of_frame (hs.trans (State.rotateStep_frame _ _ _)) (by decide))
  · exact .next (.of_frame (hs.trans (State.returnStep_frame _ _ _)) (by decide))
  · split
    · exact .next (.of_frame hs (by decide))
    · exact .next (.settled (hs.andThen (State.homingStep_frame _ _) (cs := [.changer, .arb, .fade, .usage, .link])
        (by decide) (by decide)) (by decide))
  · exact .next (.of_frame hs (by decide))

theorem execHomingStepCountReached_cools (s : State) : CoolsTo s (execHomingStepCountReached s) := by
  unfold execHomingStepCountReached
  split
  · split
    · exact .next (.settled (s.failHoming_frame _) (by decide))
    · exact .next (.refl s)
  · exact .next (.refl s)

theorem execRotateStepTimeout_cools (s : State) : CoolsTo s (execRotateStepTimeout s) := by
  have hr := s.reach_frame s.changer.stageDue
  unfold execRotateStepTimeout
  split
  · dsimp only
    split
    · exact .next (.of_frame (hr.andThen (State.putChanger_frame _ _) (cs := [.clock, .changer]) (by decide) (by decide)) (by decide))
    · exact .next (.of_frame (hr.andThen (State.startReturn_frame _ _) (cs := [.clock, .changer]) (by decide) (by decide)) (by decide))
  · exact .next (.refl s)

theorem execReturnStepTimeout_cools (s : State) : CoolsTo s (execReturnStepTimeout s) := by
  unfold execReturnStepTimeout
  split
  · refine .next (.before (s.reach_frame s.changer.stageDue) ?_ (by decide))
    exact .settled ((State.endChange_frame _ _ _ _).andThen (State.raise_frame _ _)
      (cs := [.changer, .arb, .fade, .usage, .link, .prot, .cue, .tape, .dec, .panel]) (by decide) (by decide)) (by decide)
  · exact .next (.refl s)

theorem execHomingStepTimeout_cools (s : State) : CoolsTo s (execHomingStepTimeout s) := by
  unfold execHomingStepTimeout
  split
  · split
    · exact .next (.refl s)
    · exact .next (.before (s.reach_frame s.changer.stageDue) (.settled (State.failHoming_frame _ _) (by decide)) (by decide))
  · exact .next (.refl s)

theorem execGateClearInLift_cools (homeMark : Bool) (s : State) : CoolsTo s (execGateClearInLift homeMark s) := by
  have hs := s.sense_frame ⟨false, homeMark⟩
  unfold execGateClearInLift
  dsimp only
  split
  · exact .next (.of_frame ((hs.trans (State.markEntry_frame _ _)).trans (State.liftDone_frame _)) (by decide))
  · split
    · exact .next (.settled (hs.andThen (State.homingSearch_frame _) (cs := [.changer, .arb, .fade, .usage, .link])
        (by decide) (by decide)) (by decide))
    · exact .next (.refl s)
  · exact .next (.refl s)

theorem execLiftLimitExpiry_cools (s : State) : CoolsTo s (execLiftLimitExpiry s) := by
  have hr := s.reach_frame s.changer.stageDue
  unfold execLiftLimitExpiry
  dsimp only
  split
  · exact .next (.before hr (.settled ((State.endChange_frame _ _ _ _).andThen (State.raise_frame _ _)
      (cs := [.changer, .arb, .fade, .usage, .link, .prot, .cue, .tape, .dec, .panel]) (by decide) (by decide)) (by decide)) (by decide))
  · split
    · exact .next (.before hr (.settled (State.failHoming_frame _ _) (by decide)) (by decide))
    · exact .next (.refl s)
  · exact .next (.refl s)

theorem State.zeroGuard_frame (s : State) : s.onlyChanges [.lamp] s.zeroGuard := by
  intro b hb; cases b <;> first | rfl | simp at hb

theorem State.endDrop_true_frame (s : State) : s.onlyChanges [.changer, .lamp] (s.endDrop true) := by
  unfold endDrop
  split
  · exact .refl _ s
  · next r _ =>
    have h1 := (s.markEntry_frame .inGate).trans (putChanger_frame { (s.markEntry .inGate).changer with
      record := some { r with found := true } } _)
    exact (h1.andThen (zeroGuard_frame _) (cs := [.changer, .lamp]) (by decide) (by decide)).trans
      ((enterSettle_frame _ _).mono (by decide))

/-- A drop that found no slide leaves the film guard as it is. -/
theorem State.endDrop_false_frame (s : State) : s.onlyChanges [.changer] (s.endDrop false) := by
  unfold endDrop
  split
  · exact .refl _ s
  · next r _ =>
    exact ((s.markEntry_frame .empty).trans (putChanger_frame { (s.markEntry .empty).changer with
        record := some { r with found := false } } _)).trans (enterSettle_frame _ _)

theorem execGateOccupiedInDrop_cools (s : State) : CoolsTo s (execGateOccupiedInDrop s) := by
  unfold execGateOccupiedInDrop
  split
  · exact .next (.settled ((s.sense_frame { s.changer.sense with gateOccupied := true }).andThen
      (State.endDrop_true_frame _) (cs := [.changer, .lamp]) (by decide) (by decide)) (by decide))
  · exact .next (.refl s)

theorem execDropLimitExpiry_cools (s : State) : CoolsTo s (execDropLimitExpiry s) := by
  unfold execDropLimitExpiry
  split
  · exact .next (.before (s.reach_frame s.changer.stageDue) (.of_frame (State.endDrop_false_frame _) (by decide)) (by decide))
  · exact .next (.refl s)

theorem execSettleExpiry_cools (s : State) : CoolsTo s (execSettleExpiry s) := by
  unfold execSettleExpiry
  split
  · next r _ _ =>
    have hend := (s.reach s.changer.stageDue).endChange_frame (r.outcome.getD .done) .idle true
    refine .next (.before (s.reach_frame s.changer.stageDue) ?_ (by decide))
    split
    · exact .settled (hend.andThen (State.startDwell_frame _) (cs := [.changer, .arb, .fade, .usage, .link])
        (by decide) (by decide)) (by decide)
    · exact .settled hend (by decide)
  · exact .next (.refl s)

theorem execTrayRemoval_cools (s : State) : CoolsTo s (execTrayRemoval s) := by
  unfold execTrayRemoval
  split
  · refine .next (.of_settled fun hd => ?_)
    dsimp only at hd
    rwa [State.flushAll_frame _ .cool (by decide), State.abortToLost_frame _ _ .cool (by decide)] at hd
  · exact .next (.refl s)

theorem execTrayInsertion_cools (sense : Sense) (s : State) : CoolsTo s (execTrayInsertion sense s) := by
  have h0 := s.putChanger_frame { s.changer with trayPresent := true, sense := sense }
  unfold execTrayInsertion
  split
  · exact .next (.refl s)
  · dsimp only
    split
    · exact .next (.settled (h0.andThen (State.homeWithoutRequest_frame _)
        (cs := [.changer, .arb, .fade, .usage, .link]) (by decide) (by decide)) (by decide))
    · exact .next (.of_frame h0 (by decide))

theorem State.cancelDwell_frame (s : State) : s.onlyChanges [.arb] s.cancelDwell := by
  intro b hb; cases b <;> first | rfl | simp at hb

theorem execDwellExpiry_cools (s : State) : CoolsTo s (execDwellExpiry s) := by
  unfold execDwellExpiry
  split
  · exact .next (.refl s)
  · next due _ =>
    exact .next (.before (s.reachAt_frame due) (.of_frame ((State.cancelDwell_frame _).andThen (State.offered_frame _ _)
      (cs := [.arb, .cue, .tape, .dec]) (by decide) (by decide)) (by decide)) (by decide))

/-! ## Fades, lamp and mains -/

theorem State.rampStep_cool (ch : Channel) (sense : Sense) (s : State) : (s.rampStep ch sense).cool = s.cool := by
  have hreach : ((s.reach (s.fade.channel ch).stepDue).putChannel ch
      ((s.fade.channel ch).stepRamp (s.reach (s.fade.channel ch).stepDue).clock)).cool = s.cool :=
    s.reach_frame (s.fade.channel ch).stepDue .cool (by decide)
  unfold rampStep
  dsimp only
  split
  · rw [leaveDipping_frame _ .cool (by decide)]
    exact hreach
  · exact hreach

theorem execRampStep_cools (ch : Channel) (sense : Sense) (s : State) : CoolsTo s (execRampStep ch sense s) := by
  unfold execRampStep
  split
  · exact .next (.of_settled fun hd => by rwa [State.rampStep_cool] at hd)
  · exact .next (.refl s)

theorem execZeroCrossing_cools (dt : Nat) (s : State) : CoolsTo s (execZeroCrossing dt s) :=
  .next (.of_same (State.drive_crossing _ (s.elapse dt)) rfl)

theorem execFiringPulse_cools (s : State) : CoolsTo s (execFiringPulse s) := by
  unfold execFiringPulse
  split
  · exact .next (.refl s)
  · exact .next (.of_same (State.drive_congr rfl rfl rfl rfl rfl rfl rfl) rfl)

theorem execMainsSilenceExpiry_cools (s : State) : CoolsTo s (execMainsSilenceExpiry s) := by
  unfold execMainsSilenceExpiry
  split
  · exact .next (.refl s)
  · exact .next (.of_same (State.drive_congr rfl rfl rfl rfl rfl rfl rfl) rfl)

end Sys2Proof.Machine
end

section
/-! The scan pass, the keys and the rest of the commands: cooldown goes with the drive (R82, R93, R185). -/

namespace Sys2Proof.Machine

/-! ## One slot of a scan pass -/

/-- The blocks that the read of a slot may write before what follows at once. -/
abbrev readBlocks : List Block := [.scan, .link, .cool, .lamp, .dec, .prot, .arb, .cue, .tape, .panel]

/-- The cooldown that was running goes on, or ends because its minimum time is over (R82). -/
def State.EndsByCooling (s t : State) : Prop :=
  t.cool.darkStart = s.cool.darkStart
    ∨ (t.cool.darkStart = none ∧ ∀ d, s.cool.darkStart = some d → secs s.items.cooldownTime ≤ s.clock - d)

theorem State.testCooldownEnd_frame (s : State) : s.onlyChanges [.cool] s.testCooldownEnd := by
  unfold testCooldownEnd
  split
  · split <;> (intro b hb; cases b <;> first | rfl | simp at hb)
  · exact .refl _ s

theorem State.testCooldownEnd_endsByCooling (s : State) : s.EndsByCooling s.testCooldownEnd := by
  unfold testCooldownEnd
  split
  · next th d _ hd =>
    split
    · next h => exact .inr ⟨rfl, fun d' hd' => by rw [hd] at hd'; cases hd'; exact h.2⟩
    · exact .inl rfl
  · exact .inl rfl

theorem State.failureTest_frame (r low : Nat) (s : State) : s.onlyChanges [.lamp, .link] (s.failureTest r low) := by
  have hlamp (l : LampDrive) : s.onlyChanges [.lamp] { s with lamp := l } := by
    intro b hb; cases b <;> first | rfl | simp at hb
  unfold failureTest
  split
  · exact .refl _ s
  split
  · split
    · exact (hlamp _).andThen (raiseFlag_frame _ _) (by decide) (by decide)
    · exact (hlamp _).mono (by decide)
  · exact (hlamp _).mono (by decide)

theorem State.deliverResult_frame (role : Role) (r low : Nat) (s : State) :
    s.onlyChanges [.cool, .lamp, .link, .dec] (s.deliverResult role r low) := by
  cases role with
  | housing =>
    have h0 : s.onlyChanges [.cool] { s with cool := { s.cool with th := some r } } := by
      intro b hb; cases b <;> first | rfl | simp at hb
    exact (h0.trans (testCooldownEnd_frame _)).mono (by decide)
  | lampCurrent => exact (s.failureTest_frame r low).mono (by decide)
  | cueLevel => intro b hb; cases b <;> first | rfl | simp at hb
  | none => exact .refl _ s
  | gate => exact .refl _ s
  | supply => exact .refl _ s

theorem State.deliverResult_endsByCooling (role : Role) (r low : Nat) (s : State) :
    s.EndsByCooling (s.deliverResult role r low) := by
  cases role with
  | housing => exact testCooldownEnd_endsByCooling { s with cool := { s.cool with th := some r } }
  | lampCurrent => exact .inl (congrArg Cooling.darkStart (s.failureTest_frame r low .cool (by decide)))
  | cueLevel => exact .inl rfl
  | none => exact .inl rfl
  | gate => exact .inl rfl
  | supply => exact .inl rfl

theorem State.deliverHigh_frame (role : Role) (old new : Bool) (s : State) :
    s.onlyChanges [.prot, .arb, .link, .cue, .tape, .dec, .panel] (s.deliverHigh role old new) := by
  unfold deliverHigh
  split
  · exact .refl _ s
  · exact s.liveChange_frame _ _ _

/-- The read of a slot, told as the effects that what follows at once is made from. -/
theorem State.readSlot_eq (i : Nat) (raw : BitVec 12) (s : State) :
    s.readSlot i raw = s
      ∨ ∃ t, s.readSlot i raw = s.settleFrom t ∧ s.onlyChanges readBlocks t ∧ s.EndsByCooling t := by
  unfold readSlot
  split
  · exact .inl rfl
  · next sl _ =>
    split
    · refine .inr ⟨_, rfl, ?_, ?_⟩
      · refine State.onlyChanges.andThen (as := [.scan, .link, .cool, .lamp, .dec]) ?_ (deliverHigh_frame _ _ _ _)
          (by decide) (by decide)
        refine State.onlyChanges.andThen (as := [.scan, .link]) ?_ (deliverResult_frame _ _ _ _) (by decide) (by decide)
        refine State.onlyChanges.andThen (as := [.scan]) ?_ (raiseFlagIf_frame _ _ _) (by decide) (by decide)
        intro b hb; cases b <;> first | rfl | simp at hb
      · have hread := raiseFlagIf_frame (sl.latchedNew (sl.read (slotResult sl.cfg raw.toNat))) .limit
          { s with scan := { s.scan with slots := s.scan.slots.set i (sl.read (slotResult sl.cfg raw.toNat)) } }
        have h := deliverResult_endsByCooling sl.cfg.role (slotResult sl.cfg raw.toNat) sl.cfg.low
          (raiseFlagIf (sl.latchedNew (sl.read (slotResult sl.cfg raw.toNat))) .limit
            { s with scan := { s.scan with slots := s.scan.slots.set i (sl.read (slotResult sl.cfg raw.toNat)) } })
        unfold EndsByCooling at h ⊢
        dsimp only
        rw [deliverHigh_frame _ _ _ _ .cool (by decide)]
        rwa [hread .cool (by decide), hread .items (by decide), hread .clock (by decide)] at h
    · exact .inl rfl

/-! ## The whole pass -/

/-- The drive has fallen in this pass: a save is in progress, and cooldown runs from this moment, but where its minimum
time of 0 has ended it again. -/
def State.Fallen (s : State) : Prop :=
  s.store.saving.isSome = true ∧ (0 < s.items.cooldownTime → s.cool.darkStart = some s.clock)
    ∧ (s.cool.darkStart = some s.clock ∨ s.cool.darkStart = none)

theorem State.readSlot_items_clock (i : Nat) (raw : BitVec 12) (s : State) :
    (s.readSlot i raw).items = s.items ∧ (s.readSlot i raw).clock = s.clock := by
  rcases s.readSlot_eq i raw with e | ⟨t, e, ht, _⟩
  · rw [e]; exact ⟨rfl, rfl⟩
  · rw [e, settleFrom_clock, settleFrom_frame s t .items (by decide)]
    exact ⟨ht .items (by decide), ht .clock (by decide)⟩

theorem State.EndsByCooling.keepsDark {s t : State} (h : s.EndsByCooling t) : s.KeepsDark (s.settleFrom t) := by
  refine (Cools.of_settled fun hd => ?_).keeps
  rcases h with e | ⟨e, _⟩
  · rwa [e] at hd
  · rw [e] at hd; cases hd

theorem State.readSlot_keepsDark (i : Nat) (raw : BitVec 12) (s : State) : s.KeepsDark (s.readSlot i raw) := by
  rcases s.readSlot_eq i raw with e | ⟨t, e, _, ht⟩
  · rw [e]; exact (Cools.refl s).keeps
  · rw [e]; exact ht.keepsDark

/-- A pass that began lit has fallen wherever it is dark; the read of a slot keeps that. -/
theorem State.readSlot_fallen (i : Nat) (raw : BitVec 12) {s : State} (h : s.drive = 0 → s.Fallen)
    (hdark : (s.readSlot i raw).drive = 0) : (s.readSlot i raw).Fallen := by
  rcases s.readSlot_eq i raw with e | ⟨t, e, ht, hends⟩
  · rw [e] at hdark ⊢
    exact h hdark
  rw [e] at hdark ⊢
  rw [settleFrom_drive] at hdark
  rcases Nat.eq_zero_or_pos s.drive with h0 | h0
  · obtain ⟨hsaving, hmin, hor⟩ := h h0
    have hstays : t.driveChanged s.drive = t := driveChanged_stays (by omega)
    unfold Fallen
    rw [settleFrom_darkStart_eq, settleFrom_store, settleFrom_clock, settleFrom_frame s t .items (by decide), hstays,
      ht .store (by decide), ht .items (by decide), ht .clock (by decide)]
    rcases hends with e | ⟨e, hover⟩
    · rw [e]
      exact ⟨hsaving, hmin, hor⟩
    · refine ⟨hsaving, fun hpos => ?_, .inr e⟩
      have := hover _ (hmin hpos)
      simp only [secs, Nat.sub_self] at this
      omega
  · obtain ⟨hfell, hsave⟩ := settleFrom_fell h0 hdark
    rw [← settleFrom_clock s t] at hfell
    exact ⟨hsave, fun _ => hfell, .inl hfell⟩

theorem State.readSlotsFrom_cools (i : Nat) (raws : List (BitVec 12)) (s : State) :
    s.KeepsDark (readSlotsFrom i raws s) ∧ (readSlotsFrom i raws s).items = s.items
      ∧ ((s.drive = 0 → s.Fallen) → (readSlotsFrom i raws s).drive = 0 → (readSlotsFrom i raws s).Fallen) := by
  induction raws generalizing i s with
  | nil => exact ⟨(Cools.refl s).keeps, rfl, id⟩
  | cons raw rest ih =>
    obtain ⟨hkeeps, hitems, hfallen⟩ := ih (i + 1) (s.readSlot i raw)
    exact ⟨(s.readSlot_keepsDark i raw).trans hkeeps, hitems.trans (s.readSlot_items_clock i raw).1,
      fun h => hfallen (readSlot_fallen i raw h)⟩

theorem State.passWithoutCurrent_drive (s : State) : s.passWithoutCurrent.drive = s.drive := by
  rcases s.passWithoutCurrent_cases with e | e <;> rw [e]
  exact drive_congr rfl rfl rfl rfl rfl rfl rfl

theorem State.passWithoutCurrent_frame (s : State) : s.onlyChanges [.lamp] s.passWithoutCurrent := by
  rcases s.passWithoutCurrent_cases with e | e <;> rw [e]
  · exact .refl _ s
  · intro b hb; cases b <;> first | rfl | simp at hb

/-- A scan pass from a state whose drive and cooldown read as before it. -/
theorem execScanPass_cools {raws : List (BitVec 12)} {s t : State} (h : execScanPass raws s = .next t) :
    s.KeepsDark t ∧ t.items = s.items ∧ (0 < s.drive → t.drive = 0 → t.Fallen) := by
  cases h
  set u : State := { (s.reachAt s.scanDue).passWithoutCurrent with
    scan := { (s.reachAt s.scanDue).scan with lastPass := some (s.reachAt s.scanDue).clock } } with hu
  have hframe : s.onlyChanges [.clock, .lamp, .scan] u := by
    refine (s.reachAt_frame s.scanDue).andThen (bs := [.lamp, .scan]) ?_ (by decide) (by decide)
    refine (State.passWithoutCurrent_frame _).andThen (bs := [.scan]) ?_ (by decide) (by decide)
    intro b hb; cases b <;> first | rfl | simp at hb
  have hdrive : u.drive = s.drive :=
    (State.drive_of_frame (bs := [.scan]) (by intro b hb; cases b <;> first | rfl | simp at hb) (by decide)).trans
      ((State.passWithoutCurrent_drive _).trans (State.drive_of_frame (s.reachAt_frame _) (by decide)))
  obtain ⟨hkeeps, hitems, hfallen⟩ := State.readSlotsFrom_cools 0 raws u
  have hsame : Cools s u := .of_same hdrive (congrArg Cooling.darkStart (hframe .cool (by decide)))
  exact ⟨hsame.keeps.trans hkeeps, hitems.trans (hframe .items (by decide)),
    fun hlit => hfallen fun h0 => absurd hlit (by omega)⟩

/-! ## Cooling and tach -/

theorem execCooldownMinTimeReached_cools (s : State) : CoolsTo s (execCooldownMinTimeReached s) := by
  unfold execCooldownMinTimeReached
  split
  · exact .next (.refl s)
  · next d _ =>
    refine .next (.before (s.reachAt_frame (d + secs s.items.cooldownTime)) (.of_settled fun hd => ?_) (by decide))
    rcases State.testCooldownEnd_endsByCooling (s.reachAt (d + secs s.items.cooldownTime)) with e | ⟨e, _⟩
    · rwa [e] at hd
    · rw [e] at hd; cases hd

theorem execOffTimeout_cools (s : State) : CoolsTo s (execOffTimeout s) := by
  unfold execOffTimeout
  split
  · exact .next (.before (s.reach_frame s.cool.offDue) (.of_settled id) (by decide))
  · exact .next (.refl s)

theorem State.takeTach_cools (s : State) : Cools s s.takeTach := by
  unfold takeTach
  dsimp only
  split
  · unfold liveChange
    split
    · exact .of_same (drive_congr rfl rfl rfl rfl rfl rfl rfl) rfl
    · exact .of_same (drive_congr rfl rfl rfl rfl rfl rfl rfl) rfl
  · exact .of_same (drive_congr rfl rfl rfl rfl rfl rfl rfl) rfl

theorem State.elapse_frame (dt : Nat) (s : State) : s.onlyChanges [.clock] (s.elapse dt) := by
  intro b hb; cases b <;> first | rfl | simp at hb

theorem execFanTachPulse_cools (dt : Nat) (s : State) : CoolsTo s (execFanTachPulse dt s) := by
  unfold execFanTachPulse
  dsimp only
  split
  · exact .next (.before (s.elapse_frame dt) (State.takeTach_cools _) (by decide))
  · split
    · exact .next (.of_frame (s.elapse_frame dt) (by decide))
    · exact .next (.before (s.elapse_frame dt) (State.takeTach_cools _) (by decide))

theorem execSpeedTimeout_cools (s : State) : CoolsTo s (execSpeedTimeout s) := by
  unfold execSpeedTimeout
  split
  · exact .next (.refl s)
  · exact .next (.of_same (State.drive_congr rfl rfl rfl rfl rfl rfl rfl) rfl)

theorem execStallTimerExpiry_cools (s : State) : CoolsTo s (execStallTimerExpiry s) := by
  unfold execStallTimerExpiry
  split
  · exact .next (.refl s)
  · next due _ =>
    refine .next (.before (s.reachAt_frame due) (.of_settled fun hd => ?_) (by decide))
    rwa [State.liveActive_frame _ _ .cool (by decide)] at hd

/-! ## The tape and the cues -/

theorem execTapeTachPulse_cools (s : State) : CoolsTo s (execTapeTachPulse s) := by
  have hmove (n : Nat) (d : Option Nat) :
      s.onlyChanges [.tape, .dec] { s with tape := { s.tape with counter := n, tachDue := d } } := by
    intro b hb; cases b <;> first | rfl | simp at hb
  unfold execTapeTachPulse
  split
  · exact .next (.refl s)
  · dsimp only
    split
    · split
      · exact .next (.of_frame ((hmove _ _).trans (State.tapeEnds_frame _ _ _)) (by decide))
      · exact .next (.of_frame (hmove _ _) (by decide))
    · exact .next (.of_frame (hmove _ _) (by decide))

theorem execTapeTachTimerExpiry_cools (leader trailer : Bool) (s : State) :
    CoolsTo s (execTapeTachTimerExpiry leader trailer s) := by
  have hend (st : TransportState) (c : StopCause) (u : State) :
      u.onlyChanges [.tape, .dec, .link] ((u.tapeEnds st c).raiseFlag .syncTape) :=
    (u.tapeEnds_frame st c).andThen (State.raiseFlag_frame _ _) (by decide) (by decide)
  unfold execTapeTachTimerExpiry
  split
  · exact .next (.refl s)
  · next due _ =>
    split
    · dsimp only
      split
      · split
        · exact .next (.before (s.reachAt_frame due) (.of_frame (hend _ _ _) (by decide)) (by decide))
        · exact .next (.before (s.reachAt_frame due) (.of_frame (hend _ _ _) (by decide)) (by decide))
      · split
        · exact .next (.before (s.reachAt_frame due) (.of_frame (State.atLeader_frame _) (by decide)) (by decide))
        · exact .next (.before (s.reachAt_frame due) (.of_frame (hend _ _ _) (by decide)) (by decide))
    · exact .next (.refl s)

theorem execLeaderReached_cools (s : State) : CoolsTo s (execLeaderReached s) := by
  unfold execLeaderReached
  split
  · exact .next (.of_frame s.atLeader_frame (by decide))
  · exact .next (.of_frame s.atLeader_frame (by decide))
  · exact .next (.refl s)

theorem execCassetteRemoval_cools (s : State) : CoolsTo s (execCassetteRemoval s) := by
  unfold execCassetteRemoval
  split
  · exact .next (.of_same (State.drive_congr rfl rfl rfl rfl rfl rfl rfl) rfl)
  · exact .next (.refl s)

theorem execCassetteInsertion_cools (s : State) : CoolsTo s (execCassetteInsertion s) := by
  unfold execCassetteInsertion
  split
  · exact .next (.refl s)
  · exact .next (.of_same (State.drive_congr rfl rfl rfl rfl rfl rfl rfl) rfl)

/-- The blocks that a window may write. -/
abbrev windowBlocks : List Block := [.dec, .usage, .link, .cue, .arb, .tape]

theorem State.confirmEntry_frame (e : CueEntry) (cls : ToneClass) (s : State) :
    s.onlyChanges [.cue, .link] (s.confirmEntry e cls) := by
  refine State.onlyChanges.andThen (as := [.cue]) ?_ (raiseFlagIf_frame _ _ _) (by decide) (by decide)
  intro b hb; cases b <;> first | rfl | simp at hb

theorem State.learnCue_frame (p : Nat) (cls : ToneClass) (s : State) :
    s.onlyChanges [.cue, .link] (s.learnCue p cls).1 := by
  unfold learnCue
  split
  · exact s.confirmEntry_frame _ _
  split
  · intro b hb; cases b <;> first | rfl | simp at hb
  · exact (s.raiseFlag_frame _).mono (by decide)

theorem State.oweStep_frame (s : State) : s.onlyChanges [.cue, .link] s.oweStep := by
  unfold oweStep
  split
  · intro b hb; cases b <;> first | rfl | simp at hb
  · exact (s.raiseFlag_frame _).mono (by decide)

theorem State.actClass_frame (cls : ToneClass) (ref : Option Nat) (s : State) :
    s.onlyChanges [.arb, .cue, .tape, .dec, .link] (s.actClass cls ref) := by
  unfold actClass
  cases cls with
  | a =>
    dsimp only
    split
    · exact (s.offer_frame _).andThen (oweStep_frame _) (by decide) (by decide)
    · exact (s.offer_frame _).mono (by decide)
  | b =>
    dsimp only
    split
    · exact (s.offer_frame _).andThen (raiseFlag_frame _ _) (by decide) (by decide)
    · exact (s.offer_frame _).mono (by decide)
  | c => exact (s.addReason_frame _).mono (by decide)
  | d => exact .refl _ s

theorem State.dispatchBurst_frame (mode : DecodingMode) (p : Nat) (cls : ToneClass) (s : State) :
    s.onlyChanges windowBlocks (s.dispatchBurst mode p cls) := by
  cases mode with
  | playSpeed =>
    exact ((s.gainCounter_frame .cues).andThen (learnCue_frame p cls _) (cs := windowBlocks) (by decide)
      (by decide)).trans ((actClass_frame cls _ _).mono (by decide))
  | search =>
    dsimp only [dispatchBurst, searchCue]
    split
    · exact (s.confirmEntry_frame _ _).mono (by decide)
    · exact .refl _ s
  | off => exact .refl _ s

theorem State.closeClass_frame (mode : DecodingMode) (before after : Trackers) (s : State) (k : ToneClass) :
    s.onlyChanges windowBlocks (s.closeClass mode before after k) := by
  unfold closeClass
  dsimp only
  refine State.onlyChanges.trans ?_ ((raiseFlagIf_frame _ _ _).mono (by decide))
  split
  · exact s.dispatchBurst_frame _ _ _
  · exact .refl _ s

theorem State.closeWindow_frame (count : Nat) (s : State) : s.onlyChanges windowBlocks (s.closeWindow count) := by
  have hfold (mode : DecodingMode) (before after : Trackers) (l : List ToneClass) (u : State) :
      u.onlyChanges windowBlocks (l.foldl (closeClass mode before after) u) := by
    induction l generalizing u with
    | nil => exact .refl _ u
    | cons k l ih => exact (u.closeClass_frame mode before after k).trans (ih _)
  unfold closeWindow
  dsimp only
  split
  · exact .refl _ s
  · refine State.onlyChanges.trans ?_ (hfold _ _ _ _ _)
    intro b hb; cases b <;> first | rfl | simp at hb

theorem execWindowClose_cools (count : Nat) (s : State) : CoolsTo s (execWindowClose count s) := by
  refine .next (.before (bs := .clock :: windowBlocks) ?_ (.of_frame (State.closeWindow_frame count _) (by decide)) (by decide))
  intro b hb; cases b <;> first | rfl | simp at hb

/-! ## The handset and the front panel -/

/-- The blocks that the handset may write. -/
abbrev handsetBlocks : List Block := [.panel, .arb, .cue, .tape, .dec]

theorem State.handsetAct_frame (k : HandsetKey) (s : State) : s.onlyChanges handsetBlocks (s.handsetAct k) := by
  have hstep (kind : ReqKind) (next : Nat) : s.onlyChanges handsetBlocks (s.handsetStep kind next) := by
    refine (s.offered_frame (plainRequest kind .remote)).andThen (bs := [.panel]) ?_ (by decide) (by decide)
    intro b hb; cases b <;> first | rfl | simp at hb
  have hfocus (m : FocusMotor) : s.onlyChanges handsetBlocks (s.startFocus m) := by
    unfold startFocus
    split
    · exact .refl _ s
    · intro b hb; cases b <;> first | rfl | simp at hb
  cases k with
  | fwd => exact hstep _ _
  | rev => exact hstep _ _
  | back => exact (s.offered_frame _).mono (by decide)
  | hold => exact s.takeHold_frame.mono (by decide)
  | resume => exact s.takeResume_frame.andThen (removeReason_frame _ _) (by decide) (by decide)
  | mark => exact s.markPosition_frame.mono (by decide)
  | focusIn => exact hfocus _
  | focusOut => exact hfocus _

theorem State.handsetPress_frame (k : HandsetKey) (s : State) : s.onlyChanges handsetBlocks (s.handsetPress k) := by
  have h1 : s.onlyChanges handsetBlocks { s with panel := { s.panel with
      held := some k, releaseDue := some (s.clock + ms 250), inert := s.pressInert } } := by
    intro b hb; cases b <;> first | rfl | simp at hb
  unfold handsetPress
  dsimp only
  split
  · exact h1
  · exact h1.trans (handsetAct_frame k _)

theorem State.handsetFrame_frame (bits : BitVec 8) (s : State) : s.onlyChanges handsetBlocks (s.handsetFrame bits) := by
  have hheard : s.onlyChanges handsetBlocks s.heardHandset := by
    intro b hb; cases b <;> first | rfl | simp at hb
  have hrelease (u : State) : u.onlyChanges handsetBlocks u.releaseHeld := by
    intro b hb; cases b <;> first | rfl | simp at hb
  unfold handsetFrame
  split
  · split
    · unfold handsetKey
      dsimp only
      split
      · intro b hb; cases b <;> first | rfl | simp at hb
      split
      · exact (hheard.trans (hrelease _)).trans (handsetPress_frame _ _)
      · exact hheard.trans (handsetPress_frame _ _)
    · unfold handsetIdle
      dsimp only
      split
      · exact hheard.trans (hrelease _)
      · exact hheard
  · intro b hb; cases b <;> first | rfl | simp at hb

theorem execRemoteIdleFrame_cools (code : BitVec 4) (s : State) : CoolsTo s (execRemoteIdleFrame code s) := by
  unfold execRemoteIdleFrame
  split
  · exact .next (.refl s)
  · exact .next (.of_frame (s.handsetFrame_frame _) (by decide))

theorem execRemoteComplementFail_cools (bits : BitVec 8) (s : State) : CoolsTo s (execRemoteComplementFail bits s) := by
  unfold execRemoteComplementFail
  split
  · exact .next (.refl s)
  · exact .next (.of_frame (s.handsetFrame_frame _) (by decide))

theorem execPresenceTimeout_cools (s : State) : CoolsTo s (execPresenceTimeout s) := by
  unfold execPresenceTimeout
  split
  · exact .next (.refl s)
  · exact .next (.of_same (State.drive_congr rfl rfl rfl rfl rfl rfl rfl) rfl)

theorem execReleaseTimerExpiry_cools (s : State) : CoolsTo s (execReleaseTimerExpiry s) := by
  unfold execReleaseTimerExpiry
  split
  · exact .next (.refl s)
  · exact .next (.of_same (State.drive_congr rfl rfl rfl rfl rfl rfl rfl) rfl)

theorem execAutoStepExpiry_cools (s : State) : CoolsTo s (execAutoStepExpiry s) := by
  unfold execAutoStepExpiry
  split
  · exact .next (.refl s)
  · next due _ =>
    have hstep (kind : ReqKind) (u : State) : u.onlyChanges handsetBlocks (u.handsetStep kind (ms 500)) := by
      refine (u.offered_frame (plainRequest kind .remote)).andThen (bs := [.panel]) ?_ (by decide) (by decide)
      intro b hb; cases b <;> first | rfl | simp at hb
    dsimp only
    split
    · exact .next (.before (s.reachAt_frame due) (.of_frame (hstep _ _) (by decide)) (by decide))
    · exact .next (.before (s.reachAt_frame due) (.of_frame (hstep _ _) (by decide)) (by decide))
    · exact .next (.of_same (State.drive_congr rfl rfl rfl rfl rfl rfl rfl) rfl)

theorem execFocusRunExpiry_cools (s : State) : CoolsTo s (execFocusRunExpiry s) := by
  unfold execFocusRunExpiry
  split
  · exact .next (.refl s)
  · exact .next (.of_same (State.drive_congr rfl rfl rfl rfl rfl rfl rfl) rfl)

/-- A key's act starts no cooldown of its own. -/
theorem State.panelPress_cools (key : PanelKey) {act : State → State} (s : State)
    (hact : ∀ u, (act u).cool.darkStart = u.cool.darkStart) : Cools s (s.panelPress key act) := by
  have hput (v : PanelKeyState) : s.onlyChanges [.panel] (s.putKey key v) := by
    intro b hb; cases b <;> first | rfl | simp at hb
  unfold panelPress
  split
  · exact .refl s
  split
  · exact .of_frame (hput _) (by decide)
  · exact .of_settled fun hd => by rwa [hact] at hd

theorem State.lampKey_darkStart (s : State) : s.lampKey.cool.darkStart = s.cool.darkStart := by
  unfold lampKey
  split
  · rfl
  split
  · split <;> rfl
  · rfl

theorem State.tapeKey_darkStart (s : State) : s.tapeKey.cool.darkStart = s.cool.darkStart := by
  have hop (op : TapeOp) : (s.tapeOp op).cool.darkStart = s.cool.darkStart :=
    congrArg Cooling.darkStart (s.tapeOp_frame op .cool (by decide))
  unfold tapeKey
  split
  · rfl
  split
  · rfl
  all_goals first | exact hop _ | (split <;> first | rfl | exact hop _)

theorem State.releaseHoldKey_frame (s : State) : s.onlyChanges handsetBlocks s.releaseHoldKey := by
  have h1 : s.onlyChanges handsetBlocks { s.putKey .hold ⟨false, false⟩ with
      panel := { (s.putKey .hold ⟨false, false⟩).panel with longDue := none } } := by
    intro b hb; cases b <;> first | rfl | simp at hb
  unfold releaseHoldKey
  dsimp only
  split
  · split
    · exact h1.trans ((takeResume_frame _).mono (by decide))
    · exact h1.trans ((takeHold_frame _).mono (by decide))
  · exact h1

theorem execPanelHoldLongPress_cools (s : State) : CoolsTo s (execPanelHoldLongPress s) := by
  unfold execPanelHoldLongPress
  split
  · exact .next (.refl s)
  · next due _ =>
    have h1 : s.onlyChanges [.clock, .panel] { s.reachAt due with panel := { (s.reachAt due).panel with longDue := none } } := by
      intro b hb; cases b <;> first | rfl | simp at hb
    dsimp only
    split
    · exact .next (.before h1 (.settled (State.clearFault_frame _) (by decide)) (by decide))
    · exact .next (.of_frame h1 (by decide))

theorem execPanelKeyRelease_cools (key : PanelKey) (s : State) : CoolsTo s (execPanelKeyRelease key s) := by
  unfold execPanelKeyRelease
  split
  · exact .next (.of_frame s.releaseHoldKey_frame (by decide))
  · exact .next (.of_frame (bs := [.panel]) (by intro b hb; cases b <;> first | rfl | simp at hb) (by decide))

end Sys2Proof.Machine
end

section
/-! Cooldown and the drive over all commands (R82, R93, R185). -/

namespace Sys2Proof.Machine

/-- The commands whose reset stands apart, with the scan pass, which may end a cooldown that it started. -/
def coolsApart : Instr → Bool
  | .powerOnReset _ | .linkReset _ | .resetPart _ _ | .supplyFailCleared | .scanPass _ | .saveComplete
  | .replyDriverRelease => true
  | _ => false

theorem State.clearFailed_frame (s : State) : s.onlyChanges [.lamp] s.clearFailed := by
  unfold clearFailed
  split
  · intro b hb; cases b <;> first | rfl | simp at hb
  · exact .refl _ s

/-- Every other command takes cooldown where the drive goes. -/
theorem exec_cools {c : Instr} (hc : coolsApart c = false) (s : State) : CoolsTo s (exec c s) := by
  have hremote (bits : BitVec 8) : CoolsTo s (.next (s.handsetFrame bits)) := .next (.of_frame (s.handsetFrame_frame bits) (by decide))
  have hoffer (code len : Nat) (h : Header) (args : List Byte) (r : Request) :
      CoolsTo s (linkCommand code len h args (State.linkOffer r) s) :=
    linkCommand_cools _ _ _ _ _ fun u => .of_frame (u.offer_frame r) (by decide)
  have hkey (key : PanelKey) (r : Request) : CoolsTo s (.next (s.panelPress key (State.offered r))) :=
    .next (s.panelPress_cools key fun u => congrArg Cooling.darkStart (u.offered_frame r .cool (by decide)))
  cases c with
  | powerOnReset pins => cases hc
  | resetPart h args => cases hc
  | linkReset pins => cases hc
  | supplyFailCleared => cases hc
  | scanPass raws => cases hc
  | saveComplete => cases hc
  | replyDriverRelease => cases hc
  | mechanismRestart pins => exact execMechanismRestart_cools pins s
  | supplyFailWarning => exact execSupplyFailWarning_cools s
  | grant sense => exact execGrant_cools sense s
  | indexPulse homeMark => exact execIndexPulse_cools homeMark s
  | homingStepCountReached => exact execHomingStepCountReached_cools s
  | rotateStepTimeout => exact execRotateStepTimeout_cools s
  | returnStepTimeout => exact execReturnStepTimeout_cools s
  | homingStepTimeout => exact execHomingStepTimeout_cools s
  | gateClearInLift homeMark => exact execGateClearInLift_cools homeMark s
  | liftLimitExpiry => exact execLiftLimitExpiry_cools s
  | gateOccupiedInDrop => exact execGateOccupiedInDrop_cools s
  | dropLimitExpiry => exact execDropLimitExpiry_cools s
  | settleExpiry => exact execSettleExpiry_cools s
  | trayRemoval => exact execTrayRemoval_cools s
  | trayInsertion sense => exact execTrayInsertion_cools sense s
  | dwellExpiry => exact execDwellExpiry_cools s
  | rampStep ch sense => exact execRampStep_cools ch sense s
  | guardTick =>
    exact .next (.before (s.reachAt_frame s.lamp.guardDue) (Cools.of_settled (s := s.reachAt s.lamp.guardDue) id) (by decide))
  | zeroCrossing dt => exact execZeroCrossing_cools dt s
  | firingPulse => exact execFiringPulse_cools s
  | mainsSilenceExpiry => exact execMainsSilenceExpiry_cools s
  | cooldownMinTimeReached => exact execCooldownMinTimeReached_cools s
  | offTimeout => exact execOffTimeout_cools s
  | fanTachPulse dt => exact execFanTachPulse_cools dt s
  | speedTimeout => exact execSpeedTimeout_cools s
  | stallTimerExpiry => exact execStallTimerExpiry_cools s
  | tapeTachPulse => exact execTapeTachPulse_cools s
  | tapeTachTimerExpiry leader trailer => exact execTapeTachTimerExpiry_cools leader trailer s
  | leaderReached => exact execLeaderReached_cools s
  | cassetteRemoval => exact execCassetteRemoval_cools s
  | cassetteInsertion => exact execCassetteInsertion_cools s
  | windowClose count => exact execWindowClose_cools count s
  | secondTick => exact execSecondTick_cools s
  | frameGapDiscard g => exact .next (.of_frame (s.discardFrame_frame g) (by decide))
  | byteWithNoStopBit g => exact .next (.of_frame (s.discardFrame_frame g) (by decide))
  | frameDiscarded f => exact execFrameDiscarded_cools f s
  | lengthByteAbove8 g len => exact execLengthByteAbove8_cools g len s
  | unknownCommand h code args => exact execUnknownCommand_cools h code args s
  | partnerFrame h cont code args => exact execPartnerFrame_cools h cont code args s
  | continuationFrame h code args => exact execContinuationFrame_cools h code args s
  | step h args => exact execStep_cools h args s
  | goto h args => exact hoffer _ _ _ _ _
  | ret h args => exact hoffer _ _ _ _ _
  | home h args => exact hoffer _ _ _ _ _
  | mark h args => exact linkCommand_cools _ _ _ _ _ fun u => .of_frame u.markPosition_frame (by decide)
  | flush h args =>
    exact linkCommand_cools _ _ _ _ _ fun u => .of_frame
      (u.flushLink_frame.andThen (State.reportCue_frame _) (cs := [.arb, .link, .cue, .tape, .dec]) (by decide) (by decide)) (by decide)
  | fade h args => exact execFade_cools h args s
  | lamp h args => exact execLamp_cools h args s
  | lampReset h args => exact linkCommand_cools _ _ _ _ _ fun u => .of_frame u.clearFailed_frame (by decide)
  | hold h args => exact linkCommand_cools _ _ _ _ _ fun u => .of_frame u.takeHold_frame (by decide)
  | resume h args => exact linkCommand_cools _ _ _ _ _ fun u => .of_frame u.takeResume_frame (by decide)
  | auto h args => exact execAuto_cools h args s
  | priority h args => exact execPriority_cools h args s
  | lock h args => exact execLock_cools h args s
  | tape h args => exact execTape_cools h args s
  | seekCue h args => exact execSeekCue_cools h args s
  | bindCue h args => exact execBindCue_cools h args s
  | clearMap h args => exact linkCommand_cools _ _ _ _ _ fun u => .same rfl
  | follow h args => exact execFollow_cools h args s
  | takeShow h args => exact linkCommand_cools _ _ _ _ _ fun u => .same rfl
  | releaseShow h args => exact linkCommand_cools _ _ _ _ _ fun u => .same rfl
  | clearFault h args =>
    exact linkCommand_cools _ _ _ _ _ fun u => Answer.Quiet.of_frame (a := ⟨u.clearFault.1, u.clearFault.2, []⟩)
      u.clearFault_frame (by decide)
  | limitClear h args => exact execLimitClear_cools h args s
  | set h args => exact execSet_cools h args s
  | lawTable h args => exact linkCommand_cools _ _ _ _ _ fun u => .same rfl
  | scanSlot h args => exact linkCommand_cools _ _ _ _ _ fun u => .same rfl
  | save h args => exact execSave_cools h args s
  | read h args => exact execRead_cools h args s
  | readCompletion h args => exact execReadCompletion_cools h args s
  | readCounters h args => exact linkCommand_cools _ _ _ _ _ fun u => .same rfl
  | setCounter h args => exact execSetCounter_cools h args s
  | standby h args => exact execStandby_cools h args s
  | showModeLapse => exact execShowModeLapse_cools s
  | remoteFwd => exact hremote _
  | remoteRev => exact hremote _
  | remoteHold => exact hremote _
  | remoteResume => exact hremote _
  | remoteMark => exact hremote _
  | remoteBack => exact hremote _
  | remoteFocusIn => exact hremote _
  | remoteFocusOut => exact hremote _
  | remoteIdleFrame code => exact execRemoteIdleFrame_cools code s
  | remoteFrameAbandoned b =>
    exact .next (.of_frame (bs := [.panel]) (by intro b hb; cases b <;> first | rfl | simp at hb) (by decide))
  | remoteComplementFail bits => exact execRemoteComplementFail_cools bits s
  | presenceTimeout => exact execPresenceTimeout_cools s
  | releaseTimerExpiry => exact execReleaseTimerExpiry_cools s
  | autoStepExpiry => exact execAutoStepExpiry_cools s
  | focusRunExpiry => exact execFocusRunExpiry_cools s
  | panelFwd => exact hkey _ _
  | panelRev => exact hkey _ _
  | panelHome => exact hkey _ _
  | panelPower => exact .next (s.panelPress_cools _ fun u => u.powerAsked_darkStart none)
  | panelLamp => exact .next (s.panelPress_cools _ State.lampKey_darkStart)
  | panelTape => exact .next (s.panelPress_cools _ State.tapeKey_darkStart)
  | panelHoldPress => exact .next (s.panelPress_cools _ fun _ => rfl)
  | panelHoldRelease => exact .next (.of_frame s.releaseHoldKey_frame (by decide))
  | panelHoldLongPress => exact execPanelHoldLongPress_cools s
  | panelKeyRelease key => exact execPanelKeyRelease_cools key s

/-- The end of a reply, before a link reset that waits is made. -/
theorem execReplyDriverRelease_cools {s t : State} (h : execReplyDriverRelease s = .next t) :
    ∃ u, Cools s u ∧ u.link.resetPins = s.link.resetPins ∧ (t = u ∨ t = u.makeDueReset) := by
  have hframe : s.onlyChanges [.link] { s with link := { s.link with reply := [] } } := by
    intro b hb; cases b <;> first | rfl | simp at hb
  cases h
  exact ⟨{ s with link := { s.link with reply := [] } }, .of_frame hframe (by decide), rfl, .inr rfl⟩

/-- A reset that may be made at the end, or the state as it stands. -/
theorem State.keepsDark_of_dueReset {s t u : State} (h : Cools s u) (e : t = u ∨ t = u.makeDueReset) : s.KeepsDark t := by
  rcases e with rfl | rfl
  · exact h.keeps
  · exact makeDueReset_keepsDark h.keeps

/-- No command lets cooldown run under a lit lamp, but as it ran before. -/
theorem exec_keepsDark {c : Instr} {s t : State} (h : exec c s = .next t) : s.KeepsDark t := by
  cases hc : coolsApart c with
  | false => exact (exec_cools hc s t h).keeps
  | true =>
    cases c with
    | powerOnReset pins =>
      cases h
      exact .of_dark (s.powerOn_drive pins)
    | resetPart hd args =>
      have ht : Cools s (s.commandFrame 33 hd args
          (commandTests 33 0 args (fun t => .ok { t with link := { t.link with resetDue := true } }))) :=
        s.commandFrame_cools _ _ _ fun u => commandTests_quiet _ _ _ (.same rfl)
      simp only [exec, execResetPart] at h
      cases h
      split
      · exact State.beginReset_keepsDark _ ht
      · exact ht.keeps
    | linkReset pins =>
      simp only [exec, execLinkReset] at h
      cases h
      split
      · exact State.beginReset_keepsDark pins (.refl s)
      · exact (Cools.refl s).keeps
    | supplyFailCleared =>
      simp only [exec, execSupplyFailCleared] at h
      cases h
      split
      · exact .of_dark (s.powerOn_drive _)
      · exact (Cools.refl s).keeps
    | scanPass raws => exact (execScanPass_cools h).1
    | saveComplete =>
      obtain ⟨u, hu, _, e⟩ := execSaveComplete_cools h
      exact State.keepsDark_of_dueReset hu e
    | replyDriverRelease =>
      obtain ⟨u, hu, _, e⟩ := execReplyDriverRelease_cools h
      exact State.keepsDark_of_dueReset hu e
    | _ => cases hc

/-- The drive that falls to 0 starts cooldown in every command but the resets and the scan pass. -/
theorem exec_startsDark {c : Instr} {s t : State} (h : exec c s = .next t)
    (hreset : ∀ pins, c ≠ .powerOnReset pins ∧ c ≠ .linkReset pins) (hpart : ∀ hd args, c ≠ .resetPart hd args)
    (hcleared : c ≠ .supplyFailCleared) (hpins : s.link.resetPins = none) (hscan : ∀ raws, c ≠ .scanPass raws) :
    s.StartsDark t := by
  have hdue {u : State} (hu : Cools s u) (e : u.link.resetPins = s.link.resetPins) (ht : t = u ∨ t = u.makeDueReset) :
      s.StartsDark t := by
    rw [State.makeDueReset_of_none (e.trans hpins), or_self] at ht
    exact ht ▸ hu.starts
  cases hc : coolsApart c with
  | false => exact (exec_cools hc s t h).starts
  | true =>
    cases c with
    | powerOnReset pins => exact absurd rfl (hreset pins).1
    | linkReset pins => exact absurd rfl (hreset pins).2
    | resetPart hd args => exact absurd rfl (hpart hd args)
    | supplyFailCleared => exact absurd rfl hcleared
    | scanPass raws => exact absurd rfl (hscan raws)
    | saveComplete =>
      obtain ⟨u, hu, hlink, e⟩ := execSaveComplete_cools h
      exact hdue hu (by rw [hlink]) e
    | replyDriverRelease =>
      obtain ⟨u, hu, hlink, e⟩ := execReplyDriverRelease_cools h
      exact hdue hu hlink e
    | _ => cases hc

/-- Settles O60: cooldown starts at a fall of the drive alone, and the law follows as it ends at every rise. -/
theorem stepKeepsCooldownWithTheDrive : Obligations.StepKeepsCooldownWithTheDrive := by
  have hlaw {s t : State} (hs : CooldownLaw s) (h : s.KeepsDark t) : CooldownLaw t := by
    intro hdark
    by_contra hlit
    obtain ⟨hpos, hdark'⟩ := h (Nat.pos_of_ne_zero hlit) hdark
    exact absurd (hs hdark') (by omega)
  refine ⟨fun s t hs h => ?_, fun c s t h hreset hpart hcleared hpins hlit hdark => ?_, fun c s t h hdark hlit => ?_⟩
  · unfold step at h
    split at h
    · cases h
      exact hs
    · next c rest _ => exact hlaw (s := { s with pending := rest }) hs (exec_keepsDark h)
  · by_cases hscan : ∀ raws, c ≠ .scanPass raws
    · obtain ⟨hsave, hstart⟩ := exec_startsDark h hreset hpart hcleared hpins hscan hlit hdark
      exact ⟨hsave, fun _ => hstart, .inl hstart⟩
    · obtain ⟨raws, hraws⟩ := not_forall.mp hscan
      rw [not_ne_iff] at hraws
      subst hraws
      obtain ⟨_, hitems, hfallen⟩ := execScanPass_cools h
      obtain ⟨hsave, hmin, hor⟩ := hfallen hlit hdark
      exact ⟨hsave, fun hc => hmin (hitems ▸ hc.resolve_right fun h' => h' raws rfl), hor⟩
  · by_contra hsome
    obtain ⟨hpos, _⟩ := exec_keepsDark h hlit (Option.isSome_iff_ne_none.mpr hsome)
    omega

end Sys2Proof.Machine
end

section
/-! What a step brings about at once through the computed quantities, block by block, and the offer of a request that is
no cue step (R25). -/

namespace Sys2Proof.Machine

/-! ## Settling, block by block (R56, R81, R82, R87, R183) -/

theorem State.settleFrom_lamp (s t : State) :
    (s.settleFrom t).lamp = if 0 < s.drive ∧ t.drive = 0 then { t.lamp with firingDue := none } else t.lamp := by
  have h : (t.driveChanged s.drive).onlyChanges [.cool, .prot, .link] (s.settleFrom t) :=
    ((offChanged_frame _ _).andThen (cs := [.cool, .prot]) (dutyChanged_frame _ _) (by decide) (by decide)).andThen
      (raiseFlagIf_frame _ _ _) (by decide) (by decide)
  rw [show (s.settleFrom t).lamp = (t.driveChanged s.drive).lamp from h .lamp (by decide)]
  unfold State.driveChanged
  split
  · exact requestCounterSave_frame _ .lamp (by decide)
  · split <;> rfl

theorem State.settleFrom_prot (s t : State) :
    (s.settleFrom t).prot.stack = t.prot.stack ∧ (s.settleFrom t).prot.pl = t.prot.pl
      ∧ (s.settleFrom t).prot.last = t.prot.last := by
  have h : ((t.driveChanged s.drive).offChanged s.offReady).prot = t.prot :=
    (driveChanged_frame _ _).andThen (cs := [.cool, .lamp, .store]) (offChanged_frame _ _) (by decide) (by decide)
      .prot (by decide)
  have hlife : (s.settleFrom t).prot = (((t.driveChanged s.drive).offChanged s.offReady).dutyChanged s.duty).prot :=
    raiseFlagIf_frame _ _ _ .prot (by decide)
  rw [hlife, ← h]
  generalize (t.driveChanged s.drive).offChanged s.offReady = u
  unfold State.dutyChanged
  split_ifs <;> exact ⟨rfl, rfl, rfl⟩

/-- The settled link differs in the LAMP flag at most. -/
theorem State.settleFrom_link (s t : State) :
    (s.settleFrom t).link = t.link ∨ (s.settleFrom t).link = { t.link with flags := { t.link.flags with lamp := true } } := by
  have h : (((t.driveChanged s.drive).offChanged s.offReady).dutyChanged s.duty).link = t.link :=
    ((driveChanged_frame _ _).andThen (cs := [.cool, .lamp, .store]) (offChanged_frame _ _) (by decide)
      (by decide)).andThen (cs := [.cool, .lamp, .store, .prot]) (dutyChanged_frame _ _) (by decide) (by decide)
      .link (by decide)
  unfold State.settleFrom State.lifeChanged State.raiseFlagIf
  rw [← h]
  generalize ((t.driveChanged s.drive).offChanged s.offReady).dutyChanged s.duty = u
  split
  · exact .inr rfl
  · exact .inl rfl

/-- A settling measures nothing: temperature, tach, speed and warning stand. -/
theorem State.settleFrom_cool (s t : State) :
    (s.settleFrom t).cool.th = t.cool.th ∧ (s.settleFrom t).cool.lastTach = t.cool.lastTach
      ∧ (s.settleFrom t).cool.speed = t.cool.speed ∧ (s.settleFrom t).cool.warning = t.cool.warning := by
  have hdrive : (t.driveChanged s.drive).cool.th = t.cool.th ∧ (t.driveChanged s.drive).cool.lastTach = t.cool.lastTach
      ∧ (t.driveChanged s.drive).cool.speed = t.cool.speed ∧ (t.driveChanged s.drive).cool.warning = t.cool.warning := by
    unfold State.driveChanged State.requestCounterSave
    split_ifs <;> exact ⟨rfl, rfl, rfl, rfl⟩
  have hlife : (s.settleFrom t).cool = (((t.driveChanged s.drive).offChanged s.offReady).dutyChanged s.duty).cool :=
    raiseFlagIf_frame _ _ _ .cool (by decide)
  obtain ⟨hth, htach, hspeed, hwarning⟩ := hdrive
  rw [hlife, ← hth, ← htach, ← hspeed, ← hwarning]
  generalize t.driveChanged s.drive = u
  unfold State.dutyChanged State.offChanged
  split_ifs <;> exact ⟨rfl, rfl, rfl, rfl⟩

/-- A settling changes the power state only by the entry to OFF, which comes when the last of its conditions holds. -/
theorem State.settleFrom_power (s t : State) :
    ((s.settleFrom t).cool.power, (s.settleFrom t).cool.offDue)
      = if (t.driveChanged s.drive).offReady = true ∧ s.offReady = false then (.off, some (t.clock + 2000000))
        else (t.cool.power, t.cool.offDue) := by
  have hlife : (s.settleFrom t).cool = (((t.driveChanged s.drive).offChanged s.offReady).dutyChanged s.duty).cool :=
    raiseFlagIf_frame _ _ _ .cool (by decide)
  have hduty (d : Nat) (u : State) : (u.dutyChanged d).cool.power = u.cool.power
      ∧ (u.dutyChanged d).cool.offDue = u.cool.offDue := by
    unfold State.dutyChanged
    split_ifs <;> exact ⟨rfl, rfl⟩
  have hdrive : (t.driveChanged s.drive).cool.power = t.cool.power
      ∧ (t.driveChanged s.drive).cool.offDue = t.cool.offDue := by
    unfold State.driveChanged State.requestCounterSave
    split_ifs <;> exact ⟨rfl, rfl⟩
  have hclock : (t.driveChanged s.drive).clock = t.clock := driveChanged_frame _ _ .clock (by decide)
  rw [hlife, (hduty _ _).1, (hduty _ _).2, ← hdrive.1, ← hdrive.2, ← hclock]
  generalize t.driveChanged s.drive = u
  unfold State.offChanged
  split_ifs <;> rfl

theorem State.settleFrom_power_eq (s t : State) :
    (s.settleFrom t).cool.power
      = if (t.driveChanged s.drive).offReady = true ∧ s.offReady = false then .off else t.cool.power :=
  (congrArg Prod.fst (s.settleFrom_power t)).trans (apply_ite Prod.fst _ _ _)

theorem State.settleFrom_offDue_eq (s t : State) :
    (s.settleFrom t).cool.offDue = if (t.driveChanged s.drive).offReady = true ∧ s.offReady = false
      then some (t.clock + 2000000) else t.cool.offDue :=
  (congrArg Prod.snd (s.settleFrom_power t)).trans (apply_ite Prod.snd _ _ _)

/-- Outside COOLING-DOWN a settling leaves the power state. -/
theorem State.settleFrom_power_of_ne {s t : State} (h : t.cool.power ≠ .coolingDown) :
    (s.settleFrom t).cool.power = t.cool.power := by
  have hready : (t.driveChanged s.drive).offReady = false := by
    have hdrive : (t.driveChanged s.drive).cool.power = t.cool.power := by
      unfold State.driveChanged State.requestCounterSave
      split_ifs <;> rfl
    simp [State.offReady, hdrive, h]
  rw [State.settleFrom_power_eq, if_neg (by simp [hready])]

/-! ## The offer of a request that is no cue step (R25) -/

theorem State.refuses_eq_none_iff {r : Request} (s : State) (hgoto : r.source = .link → r.kind ≠ .goto) :
    s.refuses r = none ↔ (s.cool.power = .coolingDown → r.standby = true) ∧ s.prot.pl < 2
      ∧ (s.arb.queues.get r.source).length < r.source.depth := by
  have hslot : ¬(r.source = .link ∧ r.kind = .goto ∧ s.items.traySize < r.target.getD 0) := fun h => hgoto h.1 h.2.1
  unfold State.refuses
  rw [if_neg hslot]
  split_ifs with hcool hpl hfull
  · simp [hcool.1, hcool.2]
  · simp [Nat.not_lt.mpr hpl]
  · simp [hfull]
  · simp only [not_and, Bool.not_eq_false, not_le] at hcool hpl hfull
    simp only [true_iff]
    exact ⟨hcool, hpl, hfull⟩

/-- A request of a source other than CUE joins its queue, or is dropped with nothing changed. -/
theorem State.offered_eq {r : Request} (s : State) (hcue : r.source ≠ .cue) (hgoto : r.source = .link → r.kind ≠ .goto) :
    s.offered r = if (s.cool.power = .coolingDown → r.standby = true) ∧ s.prot.pl < 2
      ∧ (s.arb.queues.get r.source).length < r.source.depth then s.join r else s := by
  unfold State.offered State.offer
  by_cases h : s.refuses r = none
  · rw [if_pos ((s.refuses_eq_none_iff hgoto).mp h), h]
    exact if_neg hcue
  · rw [if_neg (mt (s.refuses_eq_none_iff hgoto).mpr h)]
    obtain ⟨code, hcode⟩ := Option.ne_none_iff_exists'.mp h
    rw [hcode]

/-- The plain requests of the handset, the panel and the dwell timer. -/
theorem State.offered_plain (kind : ReqKind) {src : Source} (s : State) (hcue : src ≠ .cue) (hlink : src ≠ .link) :
    s.offered (plainRequest kind src)
      = { s with arb := if s.cool.power ≠ .coolingDown ∧ s.prot.pl < 2 ∧ (s.arb.queues.get src).length < src.depth then
            { s.arb with queues := s.arb.queues.put src (s.arb.queues.get src ++ [plainRequest kind src]) }
          else s.arb } := by
  rw [s.offered_eq (r := plainRequest kind src) hcue (fun h => absurd h hlink)]
  have hsame : ((s.cool.power = .coolingDown → (plainRequest kind src).standby = true) ∧ s.prot.pl < 2
      ∧ (s.arb.queues.get (plainRequest kind src).source).length < (plainRequest kind src).source.depth)
      ↔ s.cool.power ≠ .coolingDown ∧ s.prot.pl < 2 ∧ (s.arb.queues.get src).length < src.depth := by
    simp [plainRequest]
  by_cases h : s.cool.power ≠ .coolingDown ∧ s.prot.pl < 2 ∧ (s.arb.queues.get src).length < src.depth
  · rw [if_pos h, if_pos (hsame.mpr h)]
    rfl
  · rw [if_neg h, if_neg (mt hsame.mp h)]

end Sys2Proof.Machine
end

section
/-! The remote line: the bits of a frame, what a frame of no key does, and the four timers (R157 to R161). -/

namespace Sys2Proof.Machine

/-! ## The complement check (R157) -/

theorem frameComplement_iff (bits : BitVec 8) :
    frameComplement bits = true ↔ bits.extractLsb' 0 4 = ~~~bits.extractLsb' 4 4 := by
  have hlt := bits.isLt
  simp only [frameComplement, beq_iff_eq, BitVec.toNat_eq, BitVec.extractLsb'_toNat, BitVec.toNat_not,
    Nat.shiftRight_eq_div_pow]
  omega

theorem frameComplement_iff_bits (bits : BitVec 8) :
    frameComplement bits = true ↔ ∀ i ∈ List.range 4, bits.getLsbD i = !bits.getLsbD (i + 4) := by
  rw [frameComplement_iff]
  constructor
  · intro h i hi
    have hi' : i < 4 := List.mem_range.mp hi
    have hbit := congrArg (fun b => b.getLsbD i) h
    simpa [hi', BitVec.getLsbD_extractLsb', Nat.add_comm] using hbit
  · intro h
    refine BitVec.eq_of_getLsbD_eq fun i hi => ?_
    simpa [hi, BitVec.getLsbD_extractLsb', Nat.add_comm] using h i (List.mem_range.mpr hi)

theorem frame_of_complement {bits : BitVec 8} (h : bits.extractLsb' 0 4 = ~~~bits.extractLsb' 4 4) :
    bits.extractLsb' 4 4 ++ ~~~bits.extractLsb' 4 4 = bits := by
  rw [← h]
  calc bits.extractLsb' 4 4 ++ bits.extractLsb' 0 4 = bits.extractLsb' 0 8 :=
        BitVec.extractLsb'_append_extractLsb'_eq_extractLsb' rfl
    _ = bits := BitVec.extractLsb'_eq_self

theorem frameComplement_append (code : BitVec 4) : frameComplement (code ++ ~~~code) = true := by
  rw [frameComplement_iff]
  exact (BitVec.extractLsb'_append_eq_right (a := code)).trans
    (congrArg (~~~·) (BitVec.extractLsb'_append_eq_left (b := ~~~code)).symm)

theorem code_of_append (code : BitVec 4) : (code ++ ~~~code).toNat / 16 = code.toNat := by
  have hhigh : (code ++ ~~~code).extractLsb' 4 4 = code := BitVec.extractLsb'_append_eq_left
  have hlt := (code ++ ~~~code).isLt
  have hnat := congrArg BitVec.toNat hhigh
  rw [BitVec.extractLsb'_toNat, Nat.shiftRight_eq_div_pow] at hnat
  omega

theorem HandsetKey.ofCode_isSome_iff (n : Nat) : (HandsetKey.ofCode n).isSome = true ↔ 1 ≤ n ∧ n ≤ 8 := by
  unfold HandsetKey.ofCode
  split
  case h_9 =>
    simp only [Option.isSome_none, Bool.false_eq_true, false_iff]
    rintro ⟨hlow, hhigh⟩
    interval_cases n <;> contradiction
  all_goals simp

/-! ## Frames (R157, R158) -/

/-- Each of the sixteen codes with its complement is the command of its row. -/
theorem exec_of_handsetCode (code : BitVec 4) (s : State) :
    exec ([Instr.remoteIdleFrame 0#4, .remoteFwd, .remoteRev, .remoteHold, .remoteResume, .remoteMark, .remoteBack,
      .remoteFocusIn, .remoteFocusOut].getD code.toNat (.remoteIdleFrame code)) s
      = .next (s.handsetFrame (code ++ ~~~code)) := by
  have hcode : code = BitVec.ofNat 4 code.toNat := by simp
  have hn := code.isLt
  rw [hcode]
  generalize code.toNat = n at hn
  interval_cases n <;> rfl

theorem State.handsetIdle_eq (s : State) :
    s.handsetIdle = { s with panel := if s.panel.held.isSome then { s.panel with
        presenceDue := some (s.clock + 2000000), handsetBits := none, held := none, releaseDue := none, autoDue := none
        inert := false, focus := .off, focusDue := none }
      else { s.panel with presenceDue := some (s.clock + 2000000), handsetBits := none } } := by
  unfold State.handsetIdle
  by_cases h : s.panel.held.isSome = true
  · rw [if_pos h]
    exact if_pos h
  · rw [if_neg h]
    exact if_neg h

theorem execRemoteIdleFrame_eq (code : BitVec 4) (s : State) :
    execRemoteIdleFrame code s = .next (if 1 ≤ code.toNat ∧ code.toNat ≤ 8 then s else s.handsetIdle) := by
  unfold execRemoteIdleFrame
  by_cases hkey : 1 ≤ code.toNat ∧ code.toNat ≤ 8
  · rw [if_pos hkey, if_pos ((HandsetKey.ofCode_isSome_iff _).mpr hkey)]
  · have hnone : HandsetKey.ofCode ((code ++ ~~~code).toNat / 16) = none := by
      rw [code_of_append, ← Option.not_isSome_iff_eq_none, HandsetKey.ofCode_isSome_iff]
      exact hkey
    rw [if_neg hkey, if_neg (mt (HandsetKey.ofCode_isSome_iff _).mp hkey)]
    obtain ⟨k, hk, _⟩ | ⟨_, hidle⟩ := s.handsetFrame_valid (frameComplement_append code)
    · rw [hnone] at hk
      cases hk
    · rw [hidle]

theorem execRemoteComplementFail_eq (bits : BitVec 8) (s : State) :
    execRemoteComplementFail bits s = .next (if frameComplement bits then s
      else { s with panel := { s.panel with handsetBits := none } }) := by
  unfold execRemoteComplementFail
  by_cases h : frameComplement bits = true
  · rw [if_pos h, if_pos h]
  · rw [if_neg h, if_neg h, s.handsetFrame_invalid (Bool.not_eq_true _ ▸ h)]

/-! ## The auto-step timer (R160) -/

/-- A step request of a held key: it joins the REMOTE queue where R25 lets it, and the timer starts either way. -/
theorem State.handsetStep_eq (kind : ReqKind) (next : Nat) (s : State) :
    s.handsetStep kind next = { s with
      panel := { s.panel with autoDue := some (s.clock + next) }
      arb := if s.cool.power ≠ .coolingDown ∧ s.prot.pl < 2 ∧ s.arb.queues.remote.length < 3 then
          { s.arb with queues := { s.arb.queues with remote := s.arb.queues.remote ++ [plainRequest kind .remote] } }
        else s.arb } := by
  unfold State.handsetStep
  rw [s.offered_plain kind (src := .remote) (by decide) (by decide)]
  rfl

/-- The timer of a held FWD or REV key. -/
theorem execAutoStepExpiry_step {s : State} {due : Nat} {kind : ReqKind} (hdue : s.panel.autoDue = some due)
    (hinert : s.panel.inert = false) (hheld : (s.panel.held = some .fwd ∧ kind = .stepFwd)
      ∨ (s.panel.held = some .rev ∧ kind = .stepRev)) :
    execAutoStepExpiry s = .next ((s.reachAt due).handsetStep kind (ms 500)) := by
  unfold execAutoStepExpiry
  obtain ⟨hheld, rfl⟩ | ⟨hheld, rfl⟩ := hheld <;> simp [hdue, hheld, hinert]

/-- Settles O52: the codes one by one, the complement bit by bit, and the timers by their definitions. -/
theorem handsetTimersAndFrames : Obligations.HandsetTimersAndFrames := by
  intro s
  refine ⟨fun bits => ?_, fun code => ?_, fun start => rfl, fun bits => ?_, fun h => ?_, fun due h => ?_, fun h => ?_,
    fun due h => ?_, fun h => ?_, fun due h => ?_, fun h => ?_, fun due h hinert hheld => ?_⟩
  · dsimp only
    split
    · next hcomplement =>
      rw [exec_of_handsetCode, frame_of_complement hcomplement]
    · next hcomplement =>
      have hfails : ¬frameComplement bits = true := mt (frameComplement_iff bits).mp hcomplement
      rw [s.handsetFrame_invalid (Bool.not_eq_true _ ▸ hfails)]
      exact (execRemoteComplementFail_eq bits s).trans (by rw [if_neg hfails])
  · refine (execRemoteIdleFrame_eq code s).trans ?_
    split
    · rfl
    · rw [State.handsetIdle_eq]
  · refine (execRemoteComplementFail_eq bits s).trans ?_
    by_cases h : frameComplement bits = true
    · rw [if_pos h, if_pos ((frameComplement_iff_bits bits).mp h)]
    · rw [if_neg h, if_neg (mt (frameComplement_iff_bits bits).mpr h)]
  · exact (show execPresenceTimeout s = _ by unfold execPresenceTimeout; rw [h])
  · exact (show execPresenceTimeout s = _ by unfold execPresenceTimeout; rw [h]; rfl)
  · exact (show execReleaseTimerExpiry s = _ by unfold execReleaseTimerExpiry; rw [h])
  · exact (show execReleaseTimerExpiry s = _ by unfold execReleaseTimerExpiry; rw [h]; rfl)
  · exact (show execFocusRunExpiry s = _ by unfold execFocusRunExpiry; rw [h])
  · exact (show execFocusRunExpiry s = _ by unfold execFocusRunExpiry; rw [h]; rfl)
  · exact (show execAutoStepExpiry s = _ by unfold execAutoStepExpiry; rw [h])
  · have hkind : (s.panel.held = some .fwd ∧ (if s.panel.held = some .fwd then ReqKind.stepFwd else .stepRev) = .stepFwd)
        ∨ (s.panel.held = some .rev ∧ (if s.panel.held = some .fwd then ReqKind.stepFwd else .stepRev) = .stepRev) :=
      hheld.imp (fun hfwd => ⟨hfwd, if_pos hfwd⟩) (fun hrev => ⟨hrev, if_neg (by rw [hrev]; decide)⟩)
    exact (execAutoStepExpiry_step h hinert hkind).trans
      (congrArg Host.Outcome.next ((s.reachAt due).handsetStep_eq _ (ms 500)))

end Sys2Proof.Machine
end

section
/-! The pause reasons leave the decoder, HOLD and RESUME on arbiter and tape, and the eight handset keys (R38, R39, R112,
R157 to R162). -/

namespace Sys2Proof.Machine

/-! ## HOLD and RESUME (R38, R39, R111, R112) -/

theorem TransportState.mode_of_playing {st : TransportState} (h : st.playing = true) : st.mode = .playSpeed := by
  revert h
  cases st <;> simp [TransportState.playing, TransportState.mode]

/-- A change of state that keeps the decoding mode leaves the trackers. -/
theorem State.setTransport_frame_of_mode {st : TransportState} {s : State} (h : st.mode = s.tape.state.mode) :
    s.onlyChanges [.tape] (s.setTransport st) := by
  have hdec : (s.setTransport st).dec = s.dec := if_pos h
  intro b hb
  cases b <;> first | rfl | exact hdec | simp at hb

/-- A pause keeps the decoding mode. -/
theorem State.addReason_frame_tape (r : PauseReason) (s : State) : s.onlyChanges [.tape] (s.addReason r) := by
  unfold State.addReason
  dsimp only
  split
  · next hplaying =>
    refine State.onlyChanges.trans (t := _) ?_
      (State.setTransport_frame_of_mode (TransportState.mode_of_playing hplaying).symm)
    intro b hb; cases b <;> first | rfl | simp at hb
  · intro b hb; cases b <;> first | rfl | simp at hb

theorem State.removeReason_frame_tape (r : PauseReason) (s : State) : s.onlyChanges [.tape] (s.removeReason r) := by
  unfold State.removeReason
  dsimp only
  split
  · next hplaying =>
    split
    · refine State.onlyChanges.trans (t := _) ?_
        (State.setTransport_frame_of_mode (TransportState.mode_of_playing hplaying.1).symm)
      intro b hb; cases b <;> first | rfl | simp at hb
    · intro b hb; cases b <;> first | rfl | simp at hb
  · intro b hb; cases b <;> first | rfl | simp at hb

theorem State.takeHold_holds (s : State) : s.holds s.takeHold ∧ s.onlyChanges [.arb, .tape] s.takeHold := by
  unfold State.holds State.takeHold
  cases h : s.arb.hold
  · simp only [Bool.false_eq_true, if_false]
    refine ⟨⟨addReason_frame_tape _ _ .arb (by decide), State.addReason_tape _ _⟩, ?_⟩
    refine State.onlyChanges.andThen (as := [.arb]) ?_ (State.addReason_frame_tape _ _) (by decide) (by decide)
    intro b hb; cases b <;> first | rfl | simp at hb
  · simp [State.onlyChanges.refl]

theorem State.takeResume_resumes (s : State) : s.resumes s.takeResume
    ∧ s.takeResume.tape = (if s.arb.hold then s.tape.drops .hold s.clock else s.tape)
    ∧ s.onlyChanges [.arb, .tape] s.takeResume := by
  unfold State.resumes State.takeResume
  cases h : s.arb.hold
  · simp [State.onlyChanges.refl]
  · simp only [if_true]
    refine ⟨fun sh hsh => ?_, State.removeReason_tape _ _, ?_⟩
    · rw [hsh]
      exact removeReason_frame_tape _ _ .arb (by decide)
    · refine State.onlyChanges.andThen (as := [.arb]) ?_ (State.removeReason_frame_tape _ _) (by decide) (by decide)
      intro b hb; cases b <;> first | rfl | simp at hb

/-! ## The press of a key (R157, R158, R162) -/

/-- The panel after the press of another key than the held one; `mark` is the inert mark. -/
def RemotePanel.press (k : HandsetKey) (mark : Bool) (now : Nat) (p : RemotePanel) : RemotePanel :=
  let q := { p with
    presenceDue := some (now + 2000000), handsetBits := none, releaseDue := some (now + 250000), held := some k
    inert := mark }
  if p.held = none then q else { q with autoDue := none, focus := .off, focusDue := none }

theorem State.pressInert_iff (s : State) :
    s.pressInert = true ↔ 3 ≤ s.prot.pl ∨ ∃ e, s.panel.resetEnd = some e ∧ s.clock ≤ e + 150000 := by
  unfold State.pressInert
  rw [Bool.or_eq_true, decide_eq_true_iff]
  refine or_congr_right ?_
  cases h : s.panel.resetEnd with
  | none => simp
  | some e => exact decide_eq_true_iff.trans (by simp [ms])

theorem State.handsetKey_repeat {k : HandsetKey} {s : State} (h : s.panel.held = some k) :
    s.handsetKey k = { s with panel := { s.panel with
      presenceDue := some (s.clock + 2000000), handsetBits := none, releaseDue := some (s.clock + 250000) } } :=
  if_pos h

theorem State.handsetKey_press {k : HandsetKey} {s : State} (h : s.panel.held ≠ some k) :
    s.handsetKey k = if s.pressInert then { s with panel := s.panel.press k true s.clock }
      else { s with panel := s.panel.press k false s.clock }.handsetAct k := by
  have hpress (u : State) (hu : u.pressInert = s.pressInert) (hpanel : ∀ mark, { u.panel with
      held := some k, releaseDue := some (u.clock + ms 250), inert := mark } = s.panel.press k mark s.clock)
      (hrest : ∀ q, { u with panel := q } = { s with panel := q }) :
      u.handsetPress k = if s.pressInert then { s with panel := s.panel.press k true s.clock }
        else { s with panel := s.panel.press k false s.clock }.handsetAct k := by
    unfold State.handsetPress
    dsimp only
    rw [hu, hpanel, hrest]
    cases s.pressInert <;> rfl
  unfold State.handsetKey
  cases hheld : s.panel.held with
  | none =>
    exact (if_neg (by rw [show s.heardHandset.panel.held = none from hheld]; simp)).trans
      ((if_neg (by rw [show s.heardHandset.panel.held = none from hheld]; simp)).trans
        (hpress s.heardHandset rfl (fun mark => by simp [RemotePanel.press, hheld, State.heardHandset, ms, secs]) fun _ => rfl))
  | some other =>
    exact (if_neg (by rw [show s.heardHandset.panel.held = some other from hheld, ← hheld]; exact h)).trans
      ((if_pos (by rw [show s.heardHandset.panel.held = some other from hheld]; rfl)).trans
        (hpress s.heardHandset.releaseHeld rfl
          (fun mark => by simp [RemotePanel.press, hheld, State.heardHandset, State.releaseHeld, ms, secs]) fun _ => rfl))

/-! ## What a press does (R159, R160, R161) -/

theorem State.startFocus_eq (m : FocusMotor) (s : State) :
    s.startFocus m = { s with panel := if s.cool.warning then s.panel
      else { s.panel with focus := m, focusDue := some (s.clock + 3000000) } } := by
  unfold State.startFocus
  split <;> rfl

theorem State.markPosition_eq (s : State) :
    s.markPosition = { s with arb := match s.changer.position with
      | none => s.arb
      | some n => { s.arb with stack := (n :: s.arb.stack).take 6 } } := by
  unfold State.markPosition
  cases s.changer.position <;> rfl

/-- A press that acts. -/
theorem State.handsetKey_acts {k : HandsetKey} {s : State} (hheld : s.panel.held ≠ some k)
    (hinert : ¬(3 ≤ s.prot.pl ∨ ∃ e, s.panel.resetEnd = some e ∧ s.clock ≤ e + 150000)) :
    s.handsetKey k = { s with panel := s.panel.press k false s.clock }.handsetAct k := by
  rw [State.handsetKey_press hheld, if_neg (mt s.pressInert_iff.mp hinert)]

/-- Settles O51: one press lemma for the eight keys, then each key's action. -/
theorem handsetKeysPressAndAct : Obligations.HandsetKeysPressAndAct := by
  intro k s cmd
  have hcmd : exec cmd s = .next (s.handsetKey k) := by cases k <;> rfl
  clear_value cmd
  rw [hcmd]
  refine ⟨fun h => ?_, fun hheld hinert => ?_, fun ⟨hheld, hinert⟩ hk => ?_, fun ⟨hheld, hinert⟩ hk => ?_,
    fun ⟨hheld, hinert⟩ hk => ?_, fun ⟨hheld, hinert⟩ hk => ?_, fun ⟨hheld, hinert⟩ hk => ?_,
    fun ⟨hheld, hinert⟩ hk => ?_⟩
  · rw [State.handsetKey_repeat h]
  · rw [State.handsetKey_press hheld, if_pos (s.pressInert_iff.mpr hinert)]
    rfl
  · rw [State.handsetKey_acts hheld hinert]
    obtain rfl | rfl := hk <;> exact congrArg Host.Outcome.next (State.handsetStep_eq _ _ _)
  · subst hk
    rw [State.handsetKey_acts hheld hinert]
    exact congrArg Host.Outcome.next (State.offered_plain .ret (src := .remote) _ (by decide) (by decide))
  · subst hk
    rw [State.handsetKey_acts hheld hinert]
    exact congrArg Host.Outcome.next (State.markPosition_eq _)
  · subst hk
    obtain ⟨hholds, hframe⟩ := { s with panel := s.panel.press .hold false s.clock }.takeHold_holds
    refine ⟨_, congrArg Host.Outcome.next (State.handsetKey_acts hheld hinert), hframe .panel (by decide), hholds, ?_⟩
    refine State.onlyChanges.andThen (as := [.panel]) ?_ hframe (by decide) (by decide)
    intro b hb; cases b <;> first | rfl | simp at hb
  · subst hk
    obtain ⟨hresumes, htape, hframe⟩ := { s with panel := s.panel.press .resume false s.clock }.takeResume_resumes
    generalize hu : { s with panel := s.panel.press .resume false s.clock }.takeResume = u at hresumes htape hframe
    have hlast := u.removeReason_frame_tape .cueStop
    refine ⟨u.removeReason .cueStop, ?_, ?_, fun sh hsh => ?_, ?_, ?_⟩
    · rw [← hu]
      exact congrArg Host.Outcome.next (State.handsetKey_acts hheld hinert)
    · exact (hframe .panel (by decide)).trans (hlast .panel (by decide))
    · exact (show (u.removeReason .cueStop).arb = u.arb from hlast .arb (by decide)).trans (hresumes sh hsh)
    · rw [State.removeReason_tape, htape, show u.clock = s.clock from hframe .clock (by decide)]
    · refine State.onlyChanges.andThen (as := [.panel]) (bs := [.arb, .tape]) ?_ (hframe.andThen hlast (by decide) (by decide))
        (by decide) (by decide)
      intro b hb; cases b <;> first | rfl | simp at hb
  · rw [State.handsetKey_acts hheld hinert]
    obtain rfl | rfl := hk <;> exact congrArg Host.Outcome.next (State.startFocus_eq _ _)

end Sys2Proof.Machine
end

section
/-! A raise and its crossings as the neighbours take them (R143, R146, R148, R149). -/

namespace Sys2Proof.Machine

theorem State.judgeQueue_debt (s : State) : s.judgeQueue.cue.debt = s.cue.debt := by
  unfold State.judgeQueue
  dsimp only
  split
  · rw [addReason_frame _ _ .cue (by decide)]
  split
  · rw [removeReason_frame _ _ .cue (by decide)]
  · rfl

theorem State.flushAll_debt {s : State} (h : s.cue.debt = 0) : s.flushAll.cue.debt = 0 := by
  have hcue : s.flushLink.cue.debt = 0 := by rw [s.flushLink_frame .cue (by decide), h]
  unfold State.flushAll State.reportCue
  dsimp only
  rw [State.judgeQueue_debt, hcue]
  exact hcue

theorem State.addReason_standing_safe (s : State) : (s.addReason .safe).tape.standing.safe = true := by
  rw [State.addReason_tape]
  unfold Tape.adds
  dsimp only
  split <;> rfl

/-- The acts of the crossing to PL 2 (R140, R148). -/
theorem State.crossToSafe_spec (s : State) : s.crossToSafe.arb.queues = noQueues ∧ s.crossToSafe.cue.debt = 0
    ∧ s.crossToSafe.tape.standing.safe = true ∧ (s.crossToSafe.tape.state = .noCassette ↔ s.tape.state = .noCassette) := by
  refine ⟨s.crossToSafe_queues, ?_, State.addReason_standing_safe _, ?_⟩
  · unfold State.crossToSafe
    rw [State.addReason_frame _ _ .cue (by decide)]
    exact State.flushAll_debt rfl
  · exact ((State.flushAll_moves { s with cue := { s.cue with debt := 0 } }).trans (State.addReason_moves .safe _)).absent

theorem State.stopTape_standing (c : StopCause) (s : State) : (s.stopTape c).tape.standing = s.tape.standing := by
  unfold State.stopTape
  split <;> rfl

theorem State.stopTape_stopped {c : StopCause} {s : State} (h : s.tape.state ≠ .noCassette) :
    (s.stopTape c).tape.state = .stopped ∧ (s.stopTape c).tape.lastStop = c := by
  unfold State.stopTape
  split
  · next hnone => exact absurd hnone h
  · next hstopped => exact ⟨hstopped, rfl⟩
  · exact ⟨rfl, rfl⟩

/-- Of the link a completion entry touches the COMPLETION flag alone (R40). -/
theorem State.completeRequest_link (r : Request) (o : ChangeOutcome) (final : Option Nat) (s : State) :
    ∃ done, (s.completeRequest r o final).link = { s.link with flags := { s.link.flags with completion := done } } := by
  unfold State.completeRequest
  split
  · exact ⟨true, rfl⟩
  · exact ⟨s.link.flags.completion, rfl⟩

theorem State.completeAll_link (o : ChangeOutcome) (p : Option Nat) (l : List Request) (s : State) :
    ∃ done, (l.foldl (fun t r => t.completeRequest r o p) s).link
      = { s.link with flags := { s.link.flags with completion := done } } := by
  induction l generalizing s with
  | nil => exact ⟨s.link.flags.completion, rfl⟩
  | cons r l ih =>
    obtain ⟨first, hfirst⟩ := s.completeRequest_link r o p
    obtain ⟨rest, hrest⟩ := ih (s.completeRequest r o p)
    exact ⟨rest, by rw [List.foldl_cons, hrest, hfirst]⟩

theorem State.flushAll_link (s : State) :
    ∃ done, s.flushAll.link = { s.link with flags := { s.link.flags with completion := done } } := by
  obtain ⟨done, h⟩ := State.completeAll_link .aborted s.changer.position s.arb.queues.link s
  refine ⟨done, ?_⟩
  unfold State.flushAll
  rw [State.reportCue_frame _ .link (by decide)]
  exact h

theorem State.handPL_link (old : Nat) (s : State) :
    ∃ done, (s.handPL old).link = { s.link with flags := { s.link.flags with completion := done } } := by
  have hlockout (u : State) : (if old < 3 ∧ 3 ≤ s.prot.pl then u.crossToLockout else u).link = u.link := by
    split
    · exact u.crossToLockout_frame .link (by decide)
    · rfl
  unfold State.handPL
  dsimp only
  rw [hlockout]
  split
  · obtain ⟨done, h⟩ := State.flushAll_link { s with cue := { s.cue with debt := 0 } }
    refine ⟨done, ?_⟩
    unfold State.crossToSafe
    rw [State.addReason_frame _ _ .link (by decide)]
    exact h
  split
  · exact ⟨s.link.flags.completion, State.removeReason_frame _ _ .link (by decide)⟩
  · exact ⟨s.link.flags.completion, rfl⟩

/-- The acts of the crossing to PL 3 (R149). -/
theorem State.crossToLockout_spec (s : State) : s.crossToLockout.arb = s.arb ∧ s.crossToLockout.cue = s.cue
    ∧ s.crossToLockout.tape.standing = s.tape.standing
    ∧ (s.tape.state ≠ .noCassette → s.crossToLockout.tape.state = .stopped ∧ s.crossToLockout.tape.lastStop = .lockout) :=
  ⟨s.crossToLockout_frame .arb (by decide), s.crossToLockout_frame .cue (by decide), s.stopTape_standing .lockout,
    State.stopTape_stopped⟩

/-- The crossings of a rise of PL from `old` (R148, R149). -/
theorem State.handPL_rise {old : Nat} (s : State) :
    (old < 2 → 2 ≤ s.prot.pl → (s.handPL old).arb.queues = noQueues ∧ (s.handPL old).cue.debt = 0
      ∧ (s.handPL old).tape.standing.safe = true)
    ∧ (old < 3 → 3 ≤ s.prot.pl → s.tape.state ≠ .noCassette →
      (s.handPL old).tape.state = .stopped ∧ (s.handPL old).tape.lastStop = .lockout) := by
  unfold State.handPL
  dsimp only
  by_cases hsafe : old < 2 ∧ 2 ≤ s.prot.pl
  · obtain ⟨hqueues, hdebt, hstanding, hnone⟩ := s.crossToSafe_spec
    obtain ⟨harb, hcue, hkept, hstop⟩ := s.crossToSafe.crossToLockout_spec
    rw [if_pos hsafe]
    split
    · rw [harb, hcue, hkept]
      exact ⟨fun _ _ => ⟨hqueues, hdebt, hstanding⟩, fun _ _ hne => hstop (mt hnone.mp hne)⟩
    · next hno => exact ⟨fun _ _ => ⟨hqueues, hdebt, hstanding⟩, fun hold hpl _ => absurd ⟨hold, hpl⟩ hno⟩
  · rw [if_neg hsafe]
    refine ⟨fun hold hpl => absurd ⟨hold, hpl⟩ hsafe, fun hold hpl hne => ?_⟩
    rw [if_pos ⟨hold, hpl⟩, if_neg (by omega)]
    exact s.crossToLockout_spec.2.2.2 hne

/-- A raise of a cause, whole (R143, R146, R148, R149). -/
theorem State.raise_raisedBy (c : Cause) (s : State) : s.raisedBy c c.minLevel (s.raise c) := by
  obtain ⟨hpl, hstack, _, hflag⟩ := s.recordRaise_spec c
  obtain ⟨hsafe, hlockout⟩ := (s.recordRaise c).handPL_rise (old := s.prot.pl)
  have htape : (s.recordRaise c).tape = s.tape := s.recordRaise_frame c .tape (by decide)
  have hrise {n : Nat} (hn : n ≤ 3) (hlow : s.prot.pl < n) (hle : n ≤ min 3 (max (s.prot.pl + 1) c.minLevel)) :
      n ≤ (s.recordRaise c).prot.pl := by
    rw [hpl, if_pos (by omega)]
    exact hle
  have hfault : (s.raise c).link.flags.fault = (s.recordRaise c).link.flags.fault := by
    obtain ⟨done, h⟩ := (s.recordRaise c).handPL_link s.prot.pl
    rw [State.raise, h]
  refine ⟨by rw [State.raise_prot, hpl], by rw [State.raise_prot, hstack], ?_, hfault.trans hflag, fun hlow hle => ?_,
    fun hlow hle hne => ?_⟩
  · rw [State.raise_prot]
    rfl
  · exact hsafe hlow (hrise (by omega) hlow hle)
  · exact hlockout hlow (hrise (le_refl 3) hlow (by omega)) (by rwa [htape])

/-- What a raise made stands through a settling. -/
theorem State.raisedBy.settle {c : Cause} {least : Nat} {s t : State} (h : s.raisedBy c least t) (u : State) :
    s.raisedBy c least (u.settleFrom t) := by
  obtain ⟨hpl, hstack, hlast, hflag, hsafe, hlockout⟩ := h
  obtain ⟨hstack', hpl', hlast'⟩ := u.settleFrom_prot t
  have hframe := u.settleFrom_frame t
  have hfault : (u.settleFrom t).link.flags.fault = t.link.flags.fault := by
    obtain h | h := u.settleFrom_link t <;> rw [h]
  refine ⟨hpl'.trans hpl, hstack'.trans hstack, hlast'.trans hlast, hfault.trans hflag, fun hlow hle => ?_,
    fun hlow hle hne => ?_⟩
  · rw [hframe .arb (by decide), hframe .cue (by decide), hframe .tape (by decide)]
    exact hsafe hlow hle
  · rw [hframe .tape (by decide)]
    exact hlockout hlow hle hne

/-- A live cause that was inactive and is not stacked is raised when it becomes active (R143). -/
theorem State.liveActive_raisedBy {c : Cause} {s : State} (hoff : s.prot.active.get c = false)
    (hfree : ∀ e ∈ s.prot.stack, e.cause ≠ c) :
    s.raisedBy c c.minLevel (s.liveActive c) ∧ (s.liveActive c).prot.active = s.prot.active.put c true := by
  have hstacked : ¬stacked c s.prot.stack = true := by
    simp only [stacked, List.any_eq_true, beq_iff_eq, not_exists, not_and]
    exact hfree
  have heq : s.liveActive c = State.raise c { s with prot := { s.prot with active := s.prot.active.put c true } } := by
    unfold State.liveActive
    rw [if_neg (by rw [hoff]; decide)]
    exact if_neg hstacked
  rw [heq]
  exact ⟨State.raise_raisedBy c _, congrArg Protect.active (State.raise_prot _ _)⟩

/-- A live cause that is stacked, or active already, is not raised again (R144). -/
theorem State.liveActive_stacked {c : Cause} {s : State}
    (h : s.prot.active.get c = true ∨ ∃ e ∈ s.prot.stack, e.cause = c) :
    s.liveActive c = { s with prot := { s.prot with
      active := if s.prot.active.get c = true then s.prot.active else s.prot.active.put c true } } := by
  unfold State.liveActive
  by_cases hon : s.prot.active.get c = true
  · rw [if_pos hon, if_pos hon]
  · obtain ⟨e, he, hcause⟩ := h.resolve_left hon
    have hstacked : stacked c s.prot.stack = true := by
      simp only [stacked, List.any_eq_true, beq_iff_eq]
      exact ⟨e, he, hcause⟩
    rw [if_neg hon, if_neg hon]
    exact if_pos hstacked

end Sys2Proof.Machine
end

section
/-! Cooling and standby: the end of cooldown, the fan, and the entry to COOLING-DOWN (R77 to R87, R177). -/

namespace Sys2Proof.Machine

/-! ## Settling where little changes -/

/-- With the drive and the life mark as they were, a settling touches the cooling block and the fan's activity alone. -/
theorem State.settleFrom_frame_of_drive {s t : State} (hdrive : t.drive = s.drive) (hlife : t.lifeMark = s.lifeMark) :
    t.onlyChanges [.cool, .prot] (s.settleFrom t) := by
  have hstays : t.driveChanged s.drive = t := State.driveChanged_stays (by rw [hdrive])
  have hframe : t.onlyChanges [.cool, .prot] ((t.offChanged s.offReady).dutyChanged s.duty) :=
    (State.offChanged_frame _ _).andThen (State.dutyChanged_frame _ _) (by decide) (by decide)
  have hmark : ((t.offChanged s.offReady).dutyChanged s.duty).lifeMark = s.lifeMark := by
    rw [← hlife]
    unfold State.lifeMark
    rw [hframe .items (by decide), hframe .usage (by decide)]
  unfold State.settleFrom State.lifeChanged
  rw [hstays, hmark]
  simpa [State.raiseFlagIf] using hframe

theorem State.dutyChanged_of_high {d : Nat} {s : State} (hbefore : 30 ≤ d) (hafter : 30 ≤ s.duty) : s.dutyChanged d = s := by
  unfold State.dutyChanged
  rw [if_neg (c := d < 30 ∧ 30 ≤ s.duty) (by omega), if_neg (c := 30 ≤ d ∧ s.duty < 30) (by omega), ite_self]

theorem State.duty_of_protected {s : State} (h : 2 ≤ s.prot.pl) : s.duty = 100 := if_pos h

/-- The fan's stall, and the activities, are not touched by a settling while the duty stays 30 or more. -/
theorem State.settleFrom_stall_of_protected {s t : State} (hbefore : 30 ≤ s.duty) (hpl : 2 ≤ t.prot.pl) :
    (s.settleFrom t).cool.stalled = t.cool.stalled ∧ (s.settleFrom t).cool.stallDue = t.cool.stallDue
      ∧ (s.settleFrom t).prot = t.prot := by
  have hdrive : (t.driveChanged s.drive).cool.stalled = t.cool.stalled
      ∧ (t.driveChanged s.drive).cool.stallDue = t.cool.stallDue := by
    unfold State.driveChanged State.requestCounterSave
    split_ifs <;> exact ⟨rfl, rfl⟩
  have hprot : ((t.driveChanged s.drive).offChanged s.offReady).prot = t.prot :=
    (driveChanged_frame _ _).andThen (cs := [.cool, .lamp, .store]) (offChanged_frame _ _) (by decide) (by decide)
      .prot (by decide)
  have hoff : ((t.driveChanged s.drive).offChanged s.offReady).cool.stalled = t.cool.stalled
      ∧ ((t.driveChanged s.drive).offChanged s.offReady).cool.stallDue = t.cool.stallDue := by
    rw [← hdrive.1, ← hdrive.2]
    unfold State.offChanged
    split_ifs <;> exact ⟨rfl, rfl⟩
  have hduty := State.dutyChanged_of_high (s := (t.driveChanged s.drive).offChanged s.offReady) hbefore
    (by rw [State.duty_of_protected (by rwa [hprot])]; omega)
  have hlife := raiseFlagIf_frame (((((t.driveChanged s.drive).offChanged s.offReady).dutyChanged s.duty).lifeMark
    && !s.lifeMark)) .lamp (((t.driveChanged s.drive).offChanged s.offReady).dutyChanged s.duty)
  have hcool : (s.settleFrom t).cool = ((t.driveChanged s.drive).offChanged s.offReady).cool :=
    Eq.trans (hlife .cool (by decide)) (congrArg State.cool hduty)
  have hprot' : (s.settleFrom t).prot = ((t.driveChanged s.drive).offChanged s.offReady).prot :=
    Eq.trans (hlife .prot (by decide)) (congrArg State.prot hduty)
  exact ⟨by rw [hcool, hoff.1], by rw [hcool, hoff.2], hprot'.trans hprot⟩

/-! ## The fan (R77 to R81) -/

theorem demandOf_between {it : Items} {th : Nat} (hlow : it.fanStart ≤ th) (hhigh : th < it.fanFull) :
    demandOf it th = 30 + 70 * (th - it.fanStart) / (it.fanFull - it.fanStart) ∧ 30 ≤ demandOf it th
      ∧ demandOf it th ≤ 99 := by
  have heq : demandOf it th = 30 + 70 * (th - it.fanStart) / (it.fanFull - it.fanStart) := by
    unfold demandOf
    rw [if_neg (by omega), if_neg (by omega)]
  have hlt : 70 * (th - it.fanStart) / (it.fanFull - it.fanStart) < 70 :=
    Nat.div_lt_of_lt_mul (by rw [Nat.mul_comm]; exact Nat.mul_lt_mul_of_pos_right (by omega) (by omega))
  refine ⟨heq, ?_⟩
  rw [heq]
  generalize 70 * (th - it.fanStart) / (it.fanFull - it.fanStart) = part at hlt
  omega

/-- Settles O34: the duty is its definition read case by case. -/
theorem fanDutyFollowsHeatAndLamp : Obligations.FanDutyFollowsHeatAndLamp := by
  intro s _ hmin
  have hdemand {th : Nat} (hth : s.cool.th = some th) : s.fanDemand = demandOf s.items th := by
    unfold State.fanDemand
    rw [hth]
  have hcool (h : s.cool.power ≠ .coolingDown ∨ ∃ th, s.cool.th = some th ∧ th ≤ s.items.coolTemp) :
      ¬(s.cool.power = .coolingDown ∧ s.hotHousing = true) := by
    rintro ⟨hpower, hhot⟩
    obtain ⟨th, hth, hle⟩ := h.resolve_left (not_not_intro hpower)
    simp only [State.hotHousing, hth, decide_eq_true_iff] at hhot
    omega
  refine ⟨fun h => ?_, fun th hth => ⟨fun hlow => ?_, fun hhigh => ?_, fun hlow hhigh => ?_⟩, State.duty_of_protected,
    fun hpower hhot => ?_, fun hpl h => ?_, fun hlit => ?_, rfl⟩
  · unfold State.fanDemand
    rw [h]
  · rw [hdemand hth]
    exact if_pos hlow
  · rw [hdemand hth]
    unfold demandOf
    rw [if_neg (by omega), if_pos hhigh]
  · rw [hdemand hth]
    exact demandOf_between hlow hhigh
  · have hhot' : s.hotHousing = true := by
      unfold State.hotHousing
      cases hth : s.cool.th with
      | none => rfl
      | some th => exact decide_eq_true (hhot th hth)
    unfold State.duty
    rw [if_pos (show s.cool.power = .coolingDown ∧ s.hotHousing = true from ⟨hpower, hhot'⟩), ite_self]
  · unfold State.duty
    rw [if_neg (by omega), if_neg (hcool h)]
  · unfold State.duty
    rw [if_pos hlit]
    split_ifs <;> omega

/-- A tach pulse that is taken (R80, R81). -/
theorem State.takeTach_eq (s : State) :
    s.takeTach = { s with
      cool := { s.cool with
        speed := s.cool.lastTach.map (fun t => 30000000 / (s.clock - t))
        lastTach := some s.clock
        stallDue := if 30 ≤ s.duty ∧ s.cool.warning = false then some (s.clock + 1500000) else s.cool.stallDue
        stalled := if 30 ≤ s.duty ∧ s.cool.warning = false then false else s.cool.stalled }
      prot := if (30 ≤ s.duty ∧ s.cool.warning = false) ∧ s.cool.stalled = true then
          { s.prot with active := { s.prot.active with fan := false } }
        else s.prot } := by
  have hwatched : s.stallWatched = true ↔ 30 ≤ s.duty ∧ s.cool.warning = false := by simp [State.stallWatched]
  unfold State.takeTach
  by_cases h : 30 ≤ s.duty ∧ s.cool.warning = false
  · simp only [if_pos (hwatched.mpr h), if_pos h]
    cases htach : s.cool.lastTach <;> cases hstalled : s.cool.stalled <;> simp [State.liveChange, h] <;> rfl
  · simp only [if_neg (mt hwatched.mp h), if_neg h]
    cases htach : s.cool.lastTach <;> simp [h]

theorem State.speedTimer_eq {s : State} {last : Nat} (h : s.cool.lastTach = some last) :
    execSpeedTimeout s = .next { s with
      clock := max s.clock (last + 1500000), cool := { s.cool with lastTach := none, speed := none } } := by
  unfold execSpeedTimeout
  rw [h]
  rfl

/-- The expiry of the stall timer with the duty at 30 or more (R81, R143, R144). -/
theorem execStallTimerExpiry_spec {s : State} {due : Nat} (hdue : s.cool.stallDue = some due) (hduty : 30 ≤ s.duty) :
    ∃ t, execStallTimerExpiry s = .next t ∧ t.clock = max s.clock due
      ∧ (s.prot.active.fan = false → (∀ e ∈ s.prot.stack, e.cause ≠ .fanStall) →
          s.raisedBy .fanStall 2 t ∧ t.cool.stalled = true ∧ t.cool.stallDue = none ∧ t.prot.active.fan = true)
      ∧ (s.prot.active.fan = true ∨ (∃ e, s.prot.stack.head? = some e ∧ e.cause = .fanStall) →
          t.prot.stack = s.prot.stack ∧ t.prot.pl = s.prot.pl ∧ t.prot.last = s.prot.last ∧ t.prot.active.fan = true) := by
  let stalled : State := { s.reachAt due with cool := { s.cool with stallDue := none, stalled := true } }
  have hexec : execStallTimerExpiry s = .next ((s.reachAt due).settleFrom (stalled.liveActive .fanStall)) := by
    unfold execStallTimerExpiry
    rw [hdue]
    rfl
  refine ⟨_, hexec, ?_, fun hoff hfree => ?_, fun h => ?_⟩
  · rw [State.settleFrom_clock]
    exact State.liveActive_frame _ _ .clock (by decide)
  · obtain ⟨hraised, hactive⟩ := State.liveActive_raisedBy (s := stalled) (c := .fanStall) hoff hfree
    have hpl : 2 ≤ (stalled.liveActive .fanStall).prot.pl := by
      rw [hraised.1]
      show 2 ≤ if s.prot.pl < 3 then min 3 (max (s.prot.pl + 1) 2) else s.prot.pl
      split <;> omega
    have hcool : (stalled.liveActive .fanStall).cool = stalled.cool := State.liveActive_frame _ _ .cool (by decide)
    obtain ⟨hstalled, hstallDue, hprot⟩ := State.settleFrom_stall_of_protected (s := s.reachAt due) hduty hpl
    refine ⟨hraised.settle (s.reachAt due), ?_, ?_, ?_⟩
    · rw [hstalled, hcool]
    · rw [hstallDue, hcool]
    · rw [hprot, hactive]
      rfl
  · have hstacked := State.liveActive_stacked (s := stalled) (c := .fanStall)
      (h.imp_right fun ⟨e, hhead, hcause⟩ => ⟨e, List.mem_of_head? hhead, hcause⟩)
    have hquiet : (s.reachAt due).settleFrom (stalled.liveActive .fanStall) = stalled.liveActive .fanStall := by
      rw [hstacked]
      exact State.settleFrom_quiet _ _ rfl rfl rfl rfl
    rw [hquiet, hstacked]
    refine ⟨rfl, rfl, rfl, ?_⟩
    show LiveActivity.fan (if s.prot.active.fan = true then s.prot.active else s.prot.active.put .fanStall true) = true
    split
    · assumption
    · rfl

/-- Settles O33: a pulse by the watch of the fan, the stall by the raise it brings. -/
theorem fanTachAndStallTimers : Obligations.FanTachAndStallTimers := by
  refine ⟨fun dt s => ?_, fun s last h => State.speedTimer_eq h, fun s h => ?_, fun s h => ?_,
    fun s due hdue hduty _ => execStallTimerExpiry_spec hdue hduty⟩
  · refine ⟨fun hnone => ?_, fun last hlast hshort => ?_, fun last hlast hlong => ?_⟩
    · show execFanTachPulse dt s = _
      unfold execFanTachPulse
      simp only [hnone]
      rw [State.takeTach_eq, State.elapse_cool, hnone]
      rfl
    · show execFanTachPulse dt s = _
      unfold execFanTachPulse
      simp only [hlast]
      exact if_pos hshort
    · show execFanTachPulse dt s = _
      unfold execFanTachPulse
      simp only [hlast]
      rw [if_neg (show ¬(s.elapse dt).clock - last < 2000 from Nat.not_lt.mpr hlong), State.takeTach_eq, State.elapse_cool, hlast]
      rfl
  · show execSpeedTimeout s = _
    unfold execSpeedTimeout
    rw [h]
  · show execStallTimerExpiry s = _
    unfold execStallTimerExpiry
    rw [h]

end Sys2Proof.Machine
end

section
/-! The end of cooldown, OFF, and the entry to COOLING-DOWN by STANDBY and by the POWER key (R82, R85 to R87, R177). -/

namespace Sys2Proof.Machine

/-! ## The end of cooldown and the time in OFF (R82, R87) -/

theorem State.offReady_iff (s : State) : s.offReady = true ↔ s.cool.power = .coolingDown ∧ s.cool.darkStart = none
    ∧ (s.changer.state = .idle ∨ s.changer.state = .lost) ∧ ∀ r ∈ s.arb.queues.panel, r.standby = false := by
  simp [State.offReady, State.changerFree, and_assoc]

/-- At its minimum time cooldown ends where the housing is below Tcool. -/
theorem State.testCooldownEnd_eq {s : State} {start : Nat} (h : s.cool.darkStart = some start)
    (hmin : start + 1000000 * s.items.cooldownTime ≤ s.clock) :
    s.testCooldownEnd = { s with cool := { s.cool with
      darkStart := if ∃ th, s.cool.th = some th ∧ th < s.items.coolTemp then none else some start } } := by
  have hlate : secs s.items.cooldownTime ≤ s.clock - start := by simp only [secs]; omega
  unfold State.testCooldownEnd
  rw [h]
  cases hth : s.cool.th with
  | none => simp [← h]
  | some th =>
    by_cases hcool : th < s.items.coolTemp
    · simp [hcool, hlate]
    · simp [hcool, ← h]

theorem execCooldownMinTimeReached_spec {s : State} {start : Nat} (h : s.cool.darkStart = some start) :
    ∃ t, execCooldownMinTimeReached s = .next t
      ∧ t.clock = max s.clock (start + 1000000 * s.items.cooldownTime)
      ∧ t.cool.darkStart = (if ∃ th, s.cool.th = some th ∧ th < s.items.coolTemp then none else some start)
      ∧ ((∃ th, s.cool.th = some th ∧ th < s.items.coolTemp) → s.cool.power = .coolingDown →
          (s.changer.state = .idle ∨ s.changer.state = .lost) → (∀ r ∈ s.arb.queues.panel, r.standby = false) →
          t.cool.power = .off
            ∧ t.cool.offDue = some (max s.clock (start + 1000000 * s.items.cooldownTime) + 2000000))
      ∧ (s.cool.power ≠ .coolingDown → t.cool.power = s.cool.power)
      ∧ s.onlyChanges [.cool, .clock, .prot] t := by
  have hcomm : start + secs s.items.cooldownTime = start + 1000000 * s.items.cooldownTime := by simp only [secs]; omega
  let u := s.reachAt (start + 1000000 * s.items.cooldownTime)
  have hexec : execCooldownMinTimeReached s = .next (u.settleFrom u.testCooldownEnd) := by
    unfold execCooldownMinTimeReached
    rw [h]
    dsimp only
    rw [hcomm]
  have htest : u.testCooldownEnd = { u with cool := { u.cool with
      darkStart := if ∃ th, s.cool.th = some th ∧ th < s.items.coolTemp then none else some start } } :=
    State.testCooldownEnd_eq (s := u) h (le_max_right _ _)
  rw [htest] at hexec
  generalize hv : ({ u with cool := { u.cool with
      darkStart := if ∃ th, s.cool.th = some th ∧ th < s.items.coolTemp then none else some start } } : State) = v at hexec
  have hstays : v.driveChanged u.drive = v := State.driveChanged_stays (by rw [← hv]; exact Iff.rfl)
  have hready : u.offReady = false := by
    rw [← Bool.not_eq_true, State.offReady_iff]
    rintro ⟨_, hnone, _⟩
    exact absurd (hnone.symm.trans h) (by simp)
  have hclock : v.clock = max s.clock (start + 1000000 * s.items.cooldownTime) := by rw [← hv]; rfl
  refine ⟨_, hexec, by rw [State.settleFrom_clock, hclock], ?_, fun hends hpower hfree hhome => ?_, fun hpower => ?_, ?_⟩
  · rw [State.settleFrom_darkStart_eq, hstays, ← hv]
  · have hv' : v.offReady = true := by
      rw [State.offReady_iff, ← hv]
      exact ⟨hpower, if_pos hends, hfree, hhome⟩
    rw [State.settleFrom_power_eq, State.settleFrom_offDue_eq, hstays, if_pos ⟨hv', hready⟩, if_pos ⟨hv', hready⟩, hclock]
    exact ⟨rfl, rfl⟩
  · have hkept : v.cool.power = s.cool.power := by rw [← hv]; rfl
    rw [State.settleFrom_power_of_ne (by rw [hkept]; exact hpower), hkept]
  · have hframe : s.onlyChanges [.cool, .clock] v := by
      rw [← hv]
      intro b hb; cases b <;> first | rfl | simp at hb
    exact hframe.andThen (State.settleFrom_frame_of_drive (by rw [← hv]; rfl) (by rw [← hv]; rfl)) (by decide) (by decide)

theorem State.reach_eq (due : Option Nat) (s : State) : s.reach due = { s with clock := max s.clock (due.getD 0) } := by
  cases due with
  | none => simp [State.reach]
  | some d => rfl

/-- Settles O32. -/
theorem cooldownEndsAndOffTimesOut : Obligations.CooldownEndsAndOffTimesOut := by
  refine ⟨fun s start h => execCooldownMinTimeReached_spec h, fun s h => ?_, fun s h => ?_, fun s h => ?_⟩
  · show execCooldownMinTimeReached s = _
    unfold execCooldownMinTimeReached
    rw [h]
  · show execOffTimeout s = _
    unfold execOffTimeout
    split
    · next hoff => exact absurd hoff h
    · rfl
  · show execOffTimeout s = _
    unfold execOffTimeout
    rw [h]
    dsimp only
    rw [State.reach_eq]
    have hquiet (u : State) (hu : u.cool.power = .off) :
        u.settleFrom { u with cool := { u.cool with power := .run, offDue := none } }
          = { u with cool := { u.cool with power := .run, offDue := none } } := by
      refine State.settleFrom_quiet _ _ rfl ?_ ?_ rfl
      · simp [State.offReady, hu]
      · unfold State.duty
        rw [if_neg (c := _ ∧ State.hotHousing u = true) (by rw [hu]; simp)]
        rfl
    exact congrArg Host.Outcome.next (hquiet _ h)

/-! ## The entry to COOLING-DOWN (R85) -/

/-- A command that is taken settles what its body made. -/
theorem linkCommand_settles {code len : Nat} {h : Header} {args : List Byte} {body : State → Answer} {s u : State}
    (ht : s.takes h) (hpl : s.prot.pl < 3) (hlen : args.length = len) (hcode : givesUpState code = false)
    (hbody : body s.framed = .ok u) :
    linkCommand code len h args body s = .next (State.replied h .accepted [] (s.framed.settleFrom u)) := by
  have htests : commandTests code len args body s.framed = .ok u := (commandTests_framed hpl hlen).trans hbody
  rw [linkCommand_takes code len h args body s ht (.inr hcode), htests]
  rfl

/-- The standby HOME joins its queue: it passes R25 in COOLING-DOWN. -/
theorem State.offered_standbyHome (s : State) :
    s.offered standbyHome = { s with arb := if s.prot.pl < 2 ∧ s.arb.queues.panel.length < 2 then
        { s.arb with queues := { s.arb.queues with panel := s.arb.queues.panel ++ [standbyHome] } }
      else s.arb } := by
  rw [s.offered_eq (r := standbyHome) (by decide) (fun h => absurd h (by decide))]
  have hsame : ((s.cool.power = .coolingDown → standbyHome.standby = true) ∧ s.prot.pl < 2
      ∧ (s.arb.queues.get standbyHome.source).length < standbyHome.source.depth)
      ↔ s.prot.pl < 2 ∧ s.arb.queues.panel.length < 2 :=
    ⟨fun h => h.2, fun h => ⟨fun _ => rfl, h⟩⟩
  by_cases h : s.prot.pl < 2 ∧ s.arb.queues.panel.length < 2
  · rw [if_pos h, if_pos (hsame.mpr h)]
    rfl
  · rw [if_neg h, if_neg (mt hsame.mp h)]

theorem State.enterStandby_arb (s : State) :
    s.enterStandby.arb = { s.arb with queues := { s.arb.queues with
      panel := if s.items.homeOnStandby = true ∧ s.prot.pl < 2 ∧ s.arb.queues.panel.length < 2 then
        s.arb.queues.panel ++ [standbyHome] else s.arb.queues.panel } } := by
  have hstop := State.stopTape_frame .standby ({ s with cool := { s.cool with power := .coolingDown } }.writeSwitch .off)
  unfold State.enterStandby
  dsimp only
  generalize ({ s with cool := { s.cool with power := .coolingDown } }.writeSwitch .off).stopTape .standby = u at hstop ⊢
  have harb : u.arb = s.arb := hstop .arb (by decide)
  have hprot : u.prot = s.prot := hstop .prot (by decide)
  by_cases hhome : s.items.homeOnStandby = true
  · rw [if_pos hhome, State.offered_standbyHome, harb, hprot]
    by_cases hroom : s.prot.pl < 2 ∧ s.arb.queues.panel.length < 2
    · rw [if_pos hroom, if_pos (show _ ∧ _ ∧ _ from ⟨hhome, hroom⟩)]
    · rw [if_neg hroom, if_neg (show ¬(_ ∧ _ ∧ _) from fun h => hroom h.2)]
  · rw [if_neg hhome, if_neg (fun h => hhome h.1), harb]

theorem State.enterStandby_blocks (s : State) :
    s.enterStandby.lamp.switch = .off ∧ s.enterStandby.cool = { s.cool with power := .coolingDown }
      ∧ s.enterStandby.tape
        = (({ s with cool := { s.cool with power := .coolingDown } }.writeSwitch .off).stopTape .standby).tape := by
  have hstop := State.stopTape_frame .standby ({ s with cool := { s.cool with power := .coolingDown } }.writeSwitch .off)
  unfold State.enterStandby
  dsimp only
  generalize ({ s with cool := { s.cool with power := .coolingDown } }.writeSwitch .off).stopTape .standby = u at hstop ⊢
  have hlamp : u.lamp.switch = .off := congrArg LampDrive.switch (hstop .lamp (by decide))
  have hcool : u.cool = { s.cool with power := .coolingDown } := hstop .cool (by decide)
  split
  · rw [State.offered_standbyHome]
    exact ⟨hlamp, hcool, rfl⟩
  · exact ⟨hlamp, hcool, rfl⟩

/-- What the entry to COOLING-DOWN makes of s: the switch OFF, the tape stopped, the standby HOME offered, and OFF at
once where nothing is left to wait for (R85, R86). -/
def State.standsBy (s u : State) : Prop :=
  let joins := s.items.homeOnStandby = true ∧ s.prot.pl < 2 ∧ s.arb.queues.panel.length < 2
  u.lamp.switch = .off ∧ u.drive = 0
    ∧ u.arb = { s.arb with queues := { s.arb.queues with
        panel := if joins then s.arb.queues.panel ++ [standbyHome] else s.arb.queues.panel } }
    ∧ (s.tape.state ≠ .noCassette → u.tape.state = .stopped ∧ u.tape.lastStop = .standby)
    ∧ (s.tape.state = .noCassette → u.tape = s.tape)
    ∧ (0 < s.drive → u.cool.darkStart = some s.clock)
    ∧ u.cool.power = (if u.cool.darkStart = none ∧ (s.changer.state = .idle ∨ s.changer.state = .lost)
        ∧ (∀ r ∈ u.arb.queues.panel, r.standby = false) then .off else .coolingDown)
    ∧ u.changer = s.changer ∧ u.fade = s.fade

theorem State.standsBy_settled {s : State} (hrun : s.cool.power = .run) : s.standsBy (s.settleFrom s.enterStandby) := by
  obtain ⟨hswitch, hcool, htape⟩ := s.enterStandby_blocks
  have harb := s.enterStandby_arb
  have hframe := s.enterStandby_frame
  have hdark : s.enterStandby.drive = 0 := State.drive_of_switch_off hswitch
  have hsettled := s.settleFrom_frame s.enterStandby
  have harb' : (s.settleFrom s.enterStandby).arb = s.enterStandby.arb := hsettled .arb (by decide)
  have hlamp : (s.settleFrom s.enterStandby).lamp.switch = .off := by
    rw [State.settleFrom_lamp]
    split <;> exact hswitch
  refine ⟨hlamp, State.drive_of_switch_off hlamp, harb'.trans harb, fun hne => ?_, fun hnone => ?_, fun hlit => ?_, ?_, ?_, ?_⟩
  · rw [hsettled .tape (by decide), htape]
    exact State.stopTape_stopped hne
  · rw [hsettled .tape (by decide), htape]
    unfold State.stopTape
    rw [show (State.writeSwitch .off { s with cool := { s.cool with power := .coolingDown } }).tape.state = .noCassette
      from hnone]
    rfl
  · rw [(State.settleFrom_fell hlit hdark).1, hframe .clock (by decide)]
  · have hkept := State.driveChanged_frame s.drive s.enterStandby
    have hdrive : (s.enterStandby.driveChanged s.drive).cool.power = .coolingDown := by
      have h : (s.enterStandby.driveChanged s.drive).cool.power = s.enterStandby.cool.power := by
        unfold State.driveChanged State.requestCounterSave
        split_ifs <;> rfl
      rw [h, hcool]
    have hbefore : s.offReady = false := by simp [State.offReady, hrun]
    have hready : (s.enterStandby.driveChanged s.drive).offReady = true ↔ (s.settleFrom s.enterStandby).cool.darkStart = none
        ∧ (s.changer.state = .idle ∨ s.changer.state = .lost)
        ∧ ∀ r ∈ (s.settleFrom s.enterStandby).arb.queues.panel, r.standby = false := by
      rw [State.offReady_iff, hdrive, State.settleFrom_darkStart_eq, harb', hkept .changer (by decide),
        hkept .arb (by decide), hframe .changer (by decide)]
      exact and_iff_right rfl
    rw [State.settleFrom_power_eq]
    by_cases hoff : (s.enterStandby.driveChanged s.drive).offReady = true
    · rw [if_pos ⟨hoff, hbefore⟩, if_pos (hready.mp hoff)]
    · rw [if_neg (fun h => hoff h.1), if_neg (mt hready.mpr hoff), hcool]
  · exact Eq.trans (hsettled .changer (by decide)) (hframe .changer (by decide))
  · exact Eq.trans (hsettled .fade (by decide)) (hframe .fade (by decide))

/-- The return to RUN from COOLING-DOWN (R86). -/
theorem State.settled_powerAsked_run {s : State} {on : Option Bool} (hpower : s.cool.power = .coolingDown)
    (hon : on ≠ some true) :
    (s.settleFrom (s.powerAsked on)).cool.power = .run
      ∧ (s.settleFrom (s.powerAsked on)).cool.darkStart = s.cool.darkStart
      ∧ s.onlyChanges [.cool, .prot] (s.settleFrom (s.powerAsked on)) := by
  have hasked : s.powerAsked on = { s with cool := { s.cool with power := .run } } := by
    unfold State.powerAsked
    rw [hpower]
    exact if_neg hon
  rw [hasked]
  refine ⟨State.settleFrom_power_of_ne (by simp), ?_, ?_⟩
  · rw [State.settleFrom_darkStart_eq, State.driveChanged_stays (by exact Iff.rfl)]
  · refine State.onlyChanges.andThen (as := [.cool]) ?_ (State.settleFrom_frame_of_drive rfl rfl) (by decide) (by decide)
    intro b hb; cases b <;> first | rfl | simp at hb

/-- Settles O35: the entry is proved once, for the frame's state and for the key's. -/
theorem standbyEntersCoolingDown : Obligations.StandbyEntersCoolingDown := by
  have hone : (1#8).toNat = 1 := rfl
  refine ⟨fun h s v ht hpl => ⟨fun hv => ?_, fun hv hrun => ?_, fun hv hrun => ?_, fun hv hcooling => ?_,
    fun hv hcooling => ?_⟩, fun s hinert hpl => ?_⟩
  · exact linkCommand_bodyRefuses ht hpl rfl rfl (if_pos hv)
  · subst hv
    have hasked : s.framed.powerAsked (some true) = s.framed.enterStandby := by
      unfold State.powerAsked
      rw [show s.framed.cool.power = .run from hrun]
      rfl
    refine ⟨_, linkCommand_settles ht hpl rfl rfl rfl, ?_⟩
    show s.standsBy (s.framed.settleFrom (s.framed.powerAsked (some true)))
    rw [hasked]
    exact State.standsBy_settled (s := s.framed) hrun
  · subst hv
    have hasked : s.framed.powerAsked (some true) = s.framed := by
      unfold State.powerAsked
      rw [show s.framed.cool.power = s.cool.power from rfl]
      cases hpower : s.cool.power with
      | run => exact absurd hpower hrun
      | coolingDown => rfl
      | off => rfl
    exact linkCommand_accepts ht hpl rfl rfl (congrArg Answer.ok hasked) (State.settleFrom_self _)
  · subst hv
    have hasked : s.framed.powerAsked (some false) = s.framed := by
      unfold State.powerAsked
      rw [show s.framed.cool.power = s.cool.power from rfl]
      cases hpower : s.cool.power with
      | run => rfl
      | coolingDown => exact absurd hpower hcooling
      | off => rfl
    exact linkCommand_accepts ht hpl rfl rfl (congrArg Answer.ok hasked) (State.settleFrom_self _)
  · subst hv
    obtain ⟨hrun, hdark, hframe⟩ := State.settled_powerAsked_run (s := s.framed) (on := some false) hcooling (by decide)
    exact ⟨_, linkCommand_settles ht hpl rfl rfl rfl, hrun, hdark, hframe.mono (by decide)⟩
  · let k := s.putKey .power ⟨true, false⟩
    have hpress : s.panelPress .power (State.powerAsked none) = k.settleFrom (k.powerAsked none) := by
      unfold State.panelPress
      rw [if_neg (by rw [show (s.panel.keys.get .power).inert = false from hinert]; decide), if_neg (by omega)]
      rfl
    have hkeys : (k.settleFrom (k.powerAsked none)).panel = k.panel :=
      ((k.powerAsked_frame none).andThen (k.settleFrom_frame _) (cs := [.cool, .lamp, .tape, .dec, .arb, .cue, .store,
        .prot, .link]) (by decide) (by decide)) .panel (by decide)
    refine ⟨_, congrArg Host.Outcome.next hpress, by rw [hkeys]; rfl, fun hrun => ?_, fun hcooling => ?_, fun hoff => ?_⟩
    · have hasked : k.powerAsked none = k.enterStandby := by
        unfold State.powerAsked
        rw [show k.cool.power = .run from hrun]
        rfl
      show s.standsBy _
      rw [hasked]
      exact State.standsBy_settled (s := k) hrun
    · obtain ⟨hrun, hdark, hframe⟩ := State.settled_powerAsked_run (s := k) (on := none) hcooling (by decide)
      refine ⟨hrun, hdark, State.onlyChanges.andThen (as := [.panel]) ?_ hframe (by decide) (by decide)⟩
      intro b hb; cases b <;> first | rfl | simp at hb
    · have hasked : k.powerAsked none = k := by
        unfold State.powerAsked
        rw [show k.cool.power = .off from hoff]
      rw [hasked, State.settleFrom_self]
      intro b hb; cases b <;> first | rfl | simp at hb

end Sys2Proof.Machine
end

section
/-! The lamp: the drive under its ceilings, the switch, the film guard, and the mains (R45 to R56, R58). -/

namespace Sys2Proof.Machine

/-! ## The ceilings and the drive (R46 to R52) -/

/-- The derate ceiling never falls below its floor. -/
theorem derateOf_ge {it : Items} (h : it.derateFloor ≤ 1000) (th : Nat) : it.derateFloor ≤ derateOf it th := by
  unfold derateOf
  split
  · exact h
  split
  · exact le_refl _
  · next hstart hend =>
    have hpart : (1000 - it.derateFloor) * (th - it.derateStart) / (it.derateEnd - it.derateStart) ≤ 1000 - it.derateFloor :=
      ramp_part_le (by omega)
    omega

theorem State.derateCeiling_ge {s : State} (h : s.items.derateFloor ≤ 1000) : s.items.derateFloor ≤ s.derateCeiling := by
  unfold State.derateCeiling
  split
  · exact le_refl _
  · exact derateOf_ge h _

/-- The lift to the preheat level stays under every ceiling, so the drive does (R52). -/
theorem State.drive_le_ceilings {s : State} (h : LampItemsLaw s.items) :
    s.drive ≤ s.switchCeiling ∧ s.drive ≤ s.derateCeiling ∧ s.drive ≤ s.filmCeiling ∧ s.drive ≤ s.protectCeiling
      ∧ s.drive ≤ s.failedCeiling := by
  obtain ⟨_, hfloor, hfloor', hfilm, hguard, hpreheat⟩ := h
  have hderate := State.derateCeiling_ge hfloor'
  have heff : s.effective ≤ s.switchCeiling ∧ s.effective ≤ s.derateCeiling ∧ s.effective ≤ s.filmCeiling
      ∧ s.effective ≤ s.protectCeiling ∧ s.effective ≤ s.failedCeiling := by
    unfold State.effective State.ceiling
    omega
  unfold State.drive
  split
  · next hlift =>
    obtain ⟨hfull, hfailed, hpl⟩ := hlift
    have hswitch : s.switchCeiling = 1000 := by unfold State.switchCeiling; rw [hfull]
    have hfailed' : s.failedCeiling = 1000 := by unfold State.failedCeiling; rw [hfailed]; rfl
    have hfilm' : 150 ≤ s.filmCeiling := by unfold State.filmCeiling; split <;> omega
    have hprotect : 200 ≤ s.protectCeiling := by unfold State.protectCeiling; split_ifs <;> omega
    omega
  · exact heff

theorem State.drive_of_protected {s : State} (h : 2 ≤ s.prot.pl) : s.drive = 0 := by
  have hprotect : s.protectCeiling = 0 := by
    unfold State.protectCeiling
    rw [if_neg (by omega), if_neg (by omega)]
  unfold State.drive State.effective State.ceiling
  rw [if_neg (by omega), hprotect]
  omega

/-- Settles O28. -/
theorem driveStaysUnderTheCeilings : Obligations.DriveStaysUnderTheCeilings := by
  intro s h
  obtain ⟨hswitch, hderate, hfilm, hprotect, hfailed⟩ := State.drive_le_ceilings h
  exact ⟨rfl, rfl, hswitch, hderate, hfilm, hprotect, hfailed, State.drive_of_protected⟩

/-! ## The switch (R45, R58) -/

/-- Settling spares all of the lamp block but the pulse not yet sent. -/
theorem State.settleFrom_switch (s t : State) :
    (s.settleFrom t).lamp.switch = t.lamp.switch ∧ (s.settleFrom t).lamp.failed = t.lamp.failed
      ∧ (s.settleFrom t).lamp.cycled = t.lamp.cycled ∧ (s.settleFrom t).lamp.failCount = t.lamp.failCount
      ∧ (s.settleFrom t).lamp.guardAcc = t.lamp.guardAcc ∧ (s.settleFrom t).lamp.guardEngaged = t.lamp.guardEngaged
      ∧ (s.settleFrom t).lamp.guardDue = t.lamp.guardDue := by
  rw [State.settleFrom_lamp]
  split <;> exact ⟨rfl, rfl, rfl, rfl, rfl, rfl, rfl⟩

theorem State.writeSwitch_frame (v : LampSwitch) (s : State) : s.onlyChanges [.lamp] (s.writeSwitch v) := by
  intro b hb; cases b <;> first | rfl | simp at hb

/-- The switch that a LAMP byte names (R45). -/
theorem switchOfCode_byte {v : Byte} (h : v.toNat ≤ 2) :
    switchOfCode v.toNat = some (if v = 0#8 then .off else if v = 1#8 then .eco else .full) := by
  have hv : v = BitVec.ofNat 8 v.toNat := by simp
  rw [hv]
  generalize v.toNat = n at h
  interval_cases n <;> rfl

theorem switchOfCode_none {v : Byte} (h : 3 ≤ v.toNat) : switchOfCode v.toNat = none := by
  unfold switchOfCode
  rw [if_neg (by omega), if_neg (by omega), if_neg (by omega)]

/-- Settles O24. -/
theorem lampSwitchAndLampReset : Obligations.LampSwitchAndLampReset := by
  refine ⟨fun h s v ht hpl hv => ?_, fun h s v ht hpl hv hcooling => ?_, fun h s v ht hpl hv hallowed => ?_,
    fun h s ht hpl => ?_⟩
  · refine linkCommand_bodyRefuses ht hpl rfl rfl ?_
    have hcode : switchOfCode (arg [v] 0) = none := switchOfCode_none hv
    simp only [hcode]
  · refine linkCommand_bodyRefuses ht hpl rfl rfl ?_
    obtain rfl | rfl := hv <;> exact if_pos ⟨hcooling, by decide⟩
  · intro clears
    let sw : LampSwitch := if v = 0#8 then .off else if v = 1#8 then .eco else .full
    have hoff : sw = .off ↔ v = 0#8 := by
      simp only [sw]
      split_ifs with h0 h1 <;> simp [h0]
    have hcode : switchOfCode (arg [v] 0) = some sw := switchOfCode_byte hv
    have hno : ¬(s.framed.cool.power = .coolingDown ∧ sw ≠ .off) := fun hno =>
      hallowed.elim (fun h0 => hno.2 (hoff.mpr h0)) (fun hne => hne hno.1)
    obtain ⟨hswitch, hfailed, hcycled, hcount, _⟩ := s.framed.settleFrom_switch (s.framed.writeSwitch sw)
    have hframe := (s.framed.writeSwitch_frame sw).andThen (cs := [.lamp, .cool, .store, .prot, .link])
      (s.framed.settleFrom_frame _) (by decide) (by decide)
    have hclears : (s.lamp.failed = true ∧ s.lamp.cycled = true ∧ s.lamp.switch = .off ∧ sw ≠ .off) ↔ clears := by
      simp only [clears, ne_eq, hoff]
    have hmarks : (s.lamp.failed = true ∧ s.lamp.switch ≠ .off ∧ sw = .off)
        ↔ s.lamp.failed = true ∧ s.lamp.switch ≠ .off ∧ v = 0#8 := by
      rw [hoff]
    refine ⟨_, linkCommand_settles (u := s.framed.writeSwitch sw) ht hpl rfl rfl (by simp only [hcode, if_neg hno]), hswitch, hfailed.trans ?_, hcycled.trans ?_, hcount.trans ?_,
      hframe .fade (by decide), hframe⟩
    · exact if_congr hclears rfl rfl
    · exact if_congr hclears rfl (if_congr hmarks rfl rfl)
    · exact if_congr hclears rfl rfl
  · obtain ⟨_, hfailed, hcycled, hcount, _⟩ := s.framed.settleFrom_switch s.framed.clearFailed
    refine ⟨_, linkCommand_settles ht hpl rfl rfl rfl, fun hf => ?_, fun hf => ?_,
      (s.framed.clearFailed_frame).andThen (s.framed.settleFrom_frame _) (by decide) (by decide)⟩
    · rw [hfailed, hcycled, hcount]
      unfold State.clearFailed
      rw [if_pos (show s.framed.lamp.failed = true from hf)]
      exact ⟨rfl, rfl, rfl⟩
    · have hkept : s.framed.clearFailed = s.framed := if_neg (by rw [show s.framed.lamp.failed = false from hf]; decide)
      rw [hkept, State.settleFrom_self]

/-! ## The film guard (R49, R50) -/

/-- G held to 0 and Gmax, in the integers of R49. -/
theorem guardStep_eq (it : Items) (g e : Nat) :
    guardStep it g e = (let x := ((g : Int) + e - it.filmCeiling)
      if x < 0 then 0 else if (it.guardLimit : Int) < x then it.guardLimit else x.toNat) := by
  dsimp only
  unfold guardStep
  split_ifs <;> omega

/-- Settles O25. -/
theorem guardTickMovesTheAccumulator : Obligations.GuardTickMovesTheAccumulator := by
  intro s e g g'
  have hg : g' = guardStep s.items s.lamp.guardAcc s.effective := (guardStep_eq _ _ _).symm
  let ticked : State := { s.reachAt s.lamp.guardDue with lamp := { s.lamp with guardDue := s.lamp.guardDue + ms 100 } }
  obtain ⟨hswitch, hfailed, _, _, hacc, hengaged, hdue⟩ := s.settleFrom_switch (ticked.putGuard g')
  have hexec : exec .guardTick s = .next (s.settleFrom (ticked.putGuard g')) := by
    rw [hg]
    rfl
  refine ⟨_, hexec, State.settleFrom_clock _ _, hdue, hacc, hengaged, hswitch, hfailed, ?_⟩
  refine State.onlyChanges.andThen (as := [.clock, .lamp]) ?_ (s.settleFrom_frame _) (by decide) (by decide)
  intro b hb; cases b <;> first | rfl | simp at hb

/-! ## The mains tracker and the firing (R55, R56) -/

/-- The lamp block at a zero-crossing, given the tracker's own part: the half-period that begins is fired or not. -/
def State.firesAt (now : Nat) (l : LampDrive) (s : State) : LampDrive :=
  { l with
    lastCrossing := some now
    firingDue := match l.halfPeriod with
      | none => none
      | some h => if l.mainsNormal = true ∧ 0 < s.drive ∧ s.cool.warning = false then
          some (now + min (lawDelay s.law s.drive * h / 1000) (h - 200)) else none }

theorem execZeroCrossing_eq {dt : Nat} {s : State} {l : LampDrive}
    (h : s.lamp.crossing (s.clock + dt) = { l with lastCrossing := some (s.clock + dt) }) :
    execZeroCrossing dt s = .next { s with clock := s.clock + dt, lamp := s.firesAt (s.clock + dt) l } := by
  have hdrive : State.drive { s.elapse dt with lamp := s.lamp.crossing (s.clock + dt) } = s.drive :=
    State.drive_crossing (s.clock + dt) (s.elapse dt)
  have hfire : State.firingAt { s.elapse dt with lamp := s.lamp.crossing (s.clock + dt) }
      = (s.firesAt (s.clock + dt) l).firingDue := by
    unfold State.firingAt
    rw [hdrive, h]
    rfl
  have hexec : execZeroCrossing dt s = .next { s with
      clock := s.clock + dt
      lamp := { s.lamp.crossing (s.clock + dt) with
        firingDue := State.firingAt { s.elapse dt with lamp := s.lamp.crossing (s.clock + dt) } } } := rfl
  rw [hexec, hfire, h]
  rfl

/-- The tracker's table of R55, by the half-period just ended. -/
theorem LampDrive.crossing_measure {now last : Nat} {l : LampDrive} (h : l.lastCrossing = some last) :
    l.crossing now = { l.measure (now - last) with lastCrossing := some now } := by
  unfold LampDrive.crossing
  rw [h]

theorem validHalf_iff (h : Nat) : validHalf h = true ↔ 8000 ≤ h ∧ h ≤ 12000 := by simp [validHalf]

theorem LampDrive.measure_normal_valid {l : LampDrive} {h : Nat} (hn : l.mainsNormal = true) (hv : validHalf h = true) :
    l.measure h = { l with halfPeriod := some h, invalidRun := 0 } := by
  unfold LampDrive.measure
  rw [if_pos hn, if_pos hv]

theorem LampDrive.measure_normal_invalid {l : LampDrive} {h : Nat} (hn : l.mainsNormal = true) (hv : ¬validHalf h = true) :
    l.measure h = if 7 ≤ l.invalidRun then { l with halfPeriod := none, mainsNormal := false, invalidRun := 0, validRun := 0 }
      else { l with halfPeriod := none, invalidRun := l.invalidRun + 1 } := by
  unfold LampDrive.measure
  rw [if_pos hn, if_neg hv]
  exact if_congr (by omega) rfl rfl

theorem LampDrive.measure_lost_valid {l : LampDrive} {h : Nat} (hn : l.mainsNormal = false) (hv : validHalf h = true) :
    l.measure h = if 3 ≤ l.validRun then { l with halfPeriod := some h, mainsNormal := true, invalidRun := 0, validRun := 0 }
      else { l with halfPeriod := some h, validRun := l.validRun + 1 } := by
  unfold LampDrive.measure
  rw [if_neg (by rw [hn]; decide), if_pos hv]
  exact if_congr (by omega) rfl rfl

theorem LampDrive.measure_lost_invalid {l : LampDrive} {h : Nat} (hn : l.mainsNormal = false) (hv : ¬validHalf h = true) :
    l.measure h = { l with halfPeriod := none, validRun := 0 } := by
  unfold LampDrive.measure
  rw [if_neg (by rw [hn]; decide), if_neg hv]

/-- Settles O26: a crossing through the row of the tracker's table that it takes. -/
theorem mainsTrackingAndFiring : Obligations.MainsTrackingAndFiring := by
  refine ⟨fun dt s => ⟨fun hnone => ?_, fun last hlast => ?_⟩, fun s due h => ?_, fun s h => ?_, fun s h => ?_,
    fun s last h => ?_⟩
  · refine execZeroCrossing_eq (l := { s.lamp with halfPeriod := none }) ?_
    unfold LampDrive.crossing
    rw [hnone]
  · have hrow {l : LampDrive} (hl : s.lamp.measure (s.clock + dt - last) = l) : exec (.zeroCrossing dt) s
        = .next { s with clock := s.clock + dt, lamp := s.firesAt (s.clock + dt) l } :=
      execZeroCrossing_eq ((LampDrive.crossing_measure hlast).trans (by rw [hl]))
    have hgood := validHalf_iff (s.clock + dt - last)
    refine ⟨fun hn hv => hrow (LampDrive.measure_normal_valid hn (hgood.mpr hv)),
      fun hn hv hrun => hrow ((LampDrive.measure_normal_invalid hn (mt hgood.mp hv)).trans (if_neg (by omega))),
      fun hn hv hrun => hrow ((LampDrive.measure_normal_invalid hn (mt hgood.mp hv)).trans (if_pos hrun)),
      fun hn hv hrun => hrow ((LampDrive.measure_lost_valid hn (hgood.mpr hv)).trans (if_neg (by omega))),
      fun hn hv hrun => hrow ((LampDrive.measure_lost_valid hn (hgood.mpr hv)).trans (if_pos hrun)),
      fun hn hv => hrow (LampDrive.measure_lost_invalid hn (mt hgood.mp hv))⟩
  · show execFiringPulse s = _
    unfold execFiringPulse
    rw [h]
    rfl
  · show execFiringPulse s = _
    unfold execFiringPulse
    rw [h]
  · show execMainsSilenceExpiry s = _
    unfold execMainsSilenceExpiry
    rw [h]
  · show execMainsSilenceExpiry s = _
    unfold execMainsSilenceExpiry
    rw [h]
    rfl

end Sys2Proof.Machine
end

section
/-! The link FADE (R43, R62, R63, R69, R72). -/

namespace Sys2Proof.Machine

theorem FadeChannel.rampTo_eq_takes (now l t : Nat) (c : FadeChannel) : c.rampTo now l t = c.takes l t now := by
  unfold FadeChannel.rampTo FadeChannel.takes
  by_cases h : t = 0
  · subst h
    rfl
  · rw [if_neg (by omega), if_neg h, if_neg h, if_neg h]
    rfl

/-- A channel that takes a plain fade: a DIPPED one keeps its ramp, and a pending fade is discarded (R63, R69). -/
def FadeChannel.takesPlain (l n now : Nat) (c : FadeChannel) : FadeChannel :=
  if c.state = .dipped then { c with pending := none } else { c.takes l n now with pending := none }

/-- A channel that holds a fade until the changer is free (R62). -/
def FadeChannel.holdsFade (l n : Nat) (c : FadeChannel) : FadeChannel :=
  { c with pending := some ⟨l, n⟩, state := if c.state = .dipped then .dipped else .pending }

theorem State.plainFade_eq (ch : Channel) (l t : Nat) (s : State) :
    s.plainFade ch l t = { s with fade := match ch with
      | .lamp => { s.fade with
          lamp := s.fade.lamp.takesPlain l t s.clock
          watch := s.fade.watch.map (fun w => { w with override := some ⟨l, t⟩ }) }
      | .audio => { s.fade with audio := s.fade.audio.takesPlain l t s.clock } } := by
  have hramp (c : FadeChannel) : (if c.state = .dipped then { c with pending := none }
      else { c.rampTo s.clock l t with pending := none }) = c.takesPlain l t s.clock := by
    rw [FadeChannel.rampTo_eq_takes]
    rfl
  unfold State.plainFade
  dsimp only
  rw [hramp]
  cases ch <;> rfl

theorem State.takeFade_held {ch : Channel} {l t : Nat} {wait : Bool} {s : State} (hwait : wait = true)
    (hbusy : s.changerFree = false) :
    s.takeFade ch l t wait = s.putChannel ch ((s.fade.channel ch).holdsFade (clampLevel l) t) := by
  unfold State.takeFade State.waitFade
  rw [if_pos hwait, if_neg (by rw [hbusy]; decide)]
  rfl

theorem State.takeFade_plain {ch : Channel} {l t : Nat} {wait : Bool} {s : State}
    (h : ¬(wait = true ∧ s.changerFree = false)) : s.takeFade ch l t wait = s.plainFade ch (clampLevel l) t := by
  unfold State.takeFade State.waitFade
  by_cases hwait : wait = true
  · rw [if_pos hwait, if_pos (by simpa [hwait] using h)]
  · rw [if_neg hwait]

theorem State.changerFree_eq_false (s : State) :
    s.changerFree = false ↔ s.changer.state ≠ .idle ∧ s.changer.state ≠ .lost := by
  simp [State.changerFree]

/-- The fade that a FADE frame names, for either channel. -/
theorem execFade_body {h : Header} {s : State} {ch : Channel} {named high low time flags : Byte}
    (hch : channelOfCode named.toNat = some ch) (ht : s.takes h) (hpl : s.prot.pl < 3) :
    execFade h [named, high, low, time, flags] s = .next (State.replied h .accepted [] (s.framed.settleFrom
      (s.framed.takeFade ch (256 * high.toNat + low.toNat) time.toNat (flags.getLsbD 0)))) := by
  have hcode : channelOfCode (arg [named, high, low, time, flags] 0) = some ch := hch
  have hlevel : arg2 [named, high, low, time, flags] 1 = 256 * high.toNat + low.toNat :=
    congrArg (· + low.toNat) (Nat.mul_comm high.toNat 256)
  exact linkCommand_settles ht hpl rfl rfl (by simp only [hcode, hlevel]; rfl)

/-- Settles O22. -/
theorem fadeIsTakenOrHeld : Obligations.FadeIsTakenOrHeld := by
  intro h s named high low time flags ht hpl level waits taken held
  have hbusy : waits ↔ flags.getLsbD 0 = true ∧ s.framed.changerFree = false :=
    and_congr_right fun _ => s.framed.changerFree_eq_false.symm
  have htaken (c : FadeChannel) : c.takesPlain level time.toNat s.clock = taken c := by
    have hzero : time = 0#8 ↔ time.toNat = 0 := ⟨fun hz => hz ▸ rfl, fun hz => BitVec.eq_of_toNat_eq hz⟩
    simp only [FadeChannel.takesPlain, FadeChannel.takes, taken, hzero]
  refine ⟨fun hn => ?_, fun hn hw => ?_, fun hn hw => ?_, fun hn => ?_⟩
  · refine linkCommand_bodyRefuses ht hpl rfl rfl ?_
    have hcode : channelOfCode (arg [named, high, low, time, flags] 0) = none := by
      show channelOfCode named.toNat = none
      unfold channelOfCode
      rw [if_neg (by omega), if_neg (by omega)]
    simp only [hcode]
  · subst hn
    refine ⟨_, execFade_body (ch := .lamp) rfl ht hpl, ?_, ?_⟩
    · rw [State.settleFrom_frame _ _ .fade (by decide), State.takeFade_plain (mt hbusy.mpr hw), State.plainFade_eq, ← htaken]
      rfl
    · exact (State.takeFade_frame _ _ _ _ _).andThen (State.settleFrom_frame _ _) (by decide) (by decide)
  · subst hn
    obtain ⟨hwait, hfree⟩ := hbusy.mp hw
    refine (execFade_body (ch := .lamp) rfl ht hpl).trans ?_
    rw [State.takeFade_held hwait hfree]
    exact congrArg (fun u => Host.Outcome.next (State.replied h .accepted [] u))
      (State.settleFrom_quiet _ _ rfl rfl rfl rfl)
  · subst hn
    refine (execFade_body (ch := .audio) rfl ht hpl).trans ?_
    by_cases hw : waits
    · obtain ⟨hwait, hfree⟩ := hbusy.mp hw
      rw [State.takeFade_held hwait hfree, if_pos hw]
      exact congrArg (fun u => Host.Outcome.next (State.replied h .accepted [] u))
        (State.settleFrom_quiet _ _ rfl rfl rfl rfl)
    · rw [State.takeFade_plain (mt hbusy.mpr hw), if_neg hw, State.plainFade_eq, ← htaken]
      exact congrArg (fun u => Host.Outcome.next (State.replied h .accepted [] u))
        (State.settleFrom_quiet _ _ rfl rfl rfl rfl)

end Sys2Proof.Machine
end

section
/-! The link commands of the arbiter and the settings: requests, FLUSH, MARK, HOLD, RESUME, AUTO, PRIORITY, LOCK, FOLLOW,
show mode and LIMIT-CLEAR (R23 to R41, R74, R98, R175 to R179). -/

namespace Sys2Proof.Machine

/-- The blocks that a settling reads, but for the PANEL queue. -/
def settleReads : List Block := [.fade, .lamp, .cool, .items, .prot, .changer, .usage]

theorem State.duty_congr {s t : State} (hcool : t.cool = s.cool) (hitems : t.items = s.items) (hprot : t.prot = s.prot)
    (hdrive : t.drive = s.drive) : t.duty = s.duty := by
  have hdemand : t.fanDemand = s.fanDemand := by
    unfold State.fanDemand
    rw [hcool, hitems]
  have hhot : t.hotHousing = s.hotHousing := by
    unfold State.hotHousing
    rw [hcool, hitems]
  unfold State.duty
  rw [hprot, hcool, hhot, hdemand, hdrive, hitems]

/-- A step that leaves what a settling reads is settled. -/
theorem State.settleFrom_of_frame {bs : List Block} {s t : State} (h : s.onlyChanges bs t)
    (hreads : ∀ b ∈ settleReads, b ∉ bs) (hpanel : t.arb.queues.panel = s.arb.queues.panel) : s.settleFrom t = t := by
  have hfade : t.fade = s.fade := h .fade (hreads .fade (by decide))
  have hlamp : t.lamp = s.lamp := h .lamp (hreads .lamp (by decide))
  have hcool : t.cool = s.cool := h .cool (hreads .cool (by decide))
  have hitems : t.items = s.items := h .items (hreads .items (by decide))
  have hprot : t.prot = s.prot := h .prot (hreads .prot (by decide))
  have hchanger : t.changer = s.changer := h .changer (hreads .changer (by decide))
  have husage : t.usage = s.usage := h .usage (hreads .usage (by decide))
  have hdrive : t.drive = s.drive := by
    apply State.drive_congr <;> simp only [hfade, hlamp, hcool, hitems, hprot]
  refine State.settleFrom_quiet s t hdrive ?_ ?_ ?_
  · simp only [State.offReady, State.changerFree, hcool, hchanger, hpanel]
  · exact State.duty_congr hcool hitems hprot hdrive
  · simp only [State.lifeMark, hitems, husage]

section LinkBodies

variable {h : Header} {s : State}

/-- A command whose body answers with no data, accepted or refused, and makes nothing that settles. -/
theorem linkCommand_answers {code len : Nat} {args : List Byte} {body : State → Answer} {u : State} {r : ResultCode}
    (ht : s.takes h) (hpl : s.prot.pl < 3) (hlen : args.length = len) (hcode : givesUpState code = false)
    (hbody : body s.framed = ⟨u, r, []⟩) (hquiet : s.framed.settleFrom u = u) :
    linkCommand code len h args body s = .next (State.replied h r [] u) := by
  have htests : commandTests code len args body s.framed = ⟨u, r, []⟩ := (commandTests_framed hpl hlen).trans hbody
  rw [linkCommand_takes code len h args body s ht (.inr hcode), htests]
  exact congrArg (fun v => Host.Outcome.next (State.replied h r [] v)) hquiet

/-! ## PRIORITY, LOCK, FOLLOW, show mode, LIMIT-CLEAR (R31, R32, R74, R98, R179) -/

theorem Priorities.ok_iff (a b c d e : Nat) :
    (Priorities.mk a b c d e).ok = true ↔ ∀ n ∈ [a, b, c, d, e], n ≤ 7 := by
  simp [Priorities.ok, and_assoc]

theorem execPriority_eq (ht : s.takes h) (hpl : s.prot.pl < 3) (a b c d e : Byte) :
    execPriority h [a, b, c, d, e] s = .next (
      if s.arb.lock then s.framed.replied h .locked []
      else if ∀ n ∈ [a.toNat, b.toNat, c.toNat, d.toNat, e.toNat], n ≤ 7 then
        State.replied h .accepted [] { s.framed with arb := { s.arb with
          priority := ⟨a.toNat, b.toNat, c.toNat, d.toNat, e.toNat⟩ } }
      else s.framed.replied h .badArg []) := by
  have hok := Priorities.ok_iff a.toNat b.toNat c.toNat d.toNat e.toNat
  split_ifs with hlock hfive
  · exact linkCommand_bodyRefuses ht hpl rfl rfl (if_pos hlock)
  · exact linkCommand_accepts ht hpl rfl rfl ((if_neg hlock).trans (if_pos (hok.mpr hfive)))
      (State.settleFrom_quiet _ _ rfl rfl rfl rfl)
  · exact linkCommand_bodyRefuses ht hpl rfl rfl ((if_neg hlock).trans (if_neg (mt hok.mp hfive)))

/-- A byte of value 0 or 1. -/
theorem byte_zero_or_one {v : Byte} (h : ¬2 ≤ v.toNat) : v = 0#8 ∨ v = 1#8 := by
  have hv : v = BitVec.ofNat 8 v.toNat := by simp
  rw [hv]
  generalize v.toNat = n at h
  interval_cases n <;> decide

theorem execLock_eq (ht : s.takes h) (hpl : s.prot.pl < 3) (v : Byte) :
    execLock h [v] s = .next (
      if 2 ≤ v.toNat then s.framed.replied h .badArg []
      else if v = 0#8 ∧ s.arb.lock = true ∧ s.items.stickyLock = true then s.framed.replied h .locked []
      else State.replied h .accepted [] { s.framed with arb := { s.arb with lock := decide (v = 1#8) } }) := by
  by_cases hv : 2 ≤ v.toNat
  · rw [if_pos hv]
    exact linkCommand_bodyRefuses ht hpl rfl rfl (if_pos hv)
  · rw [if_neg hv]
    obtain rfl | rfl := byte_zero_or_one hv
    · by_cases hsticky : s.arb.lock = true ∧ s.items.stickyLock = true
      · rw [if_pos ⟨rfl, hsticky⟩]
        exact linkCommand_bodyRefuses ht hpl rfl rfl (if_pos hsticky)
      · rw [if_neg (fun hno => hsticky hno.2)]
        exact linkCommand_accepts ht hpl rfl rfl (if_neg hsticky) (State.settleFrom_quiet _ _ rfl rfl rfl rfl)
    · rw [if_neg (fun hno => absurd hno.1 (by decide))]
      exact linkCommand_accepts ht hpl rfl rfl rfl (State.settleFrom_quiet _ _ rfl rfl rfl rfl)

theorem execFollow_eq (ht : s.takes h) (hpl : s.prot.pl < 3) (on address : Byte) :
    execFollow h [on, address] s = .next (
      if 2 ≤ on.toNat ∨ (on = 1#8 ∧ (31 ≤ address.toNat ∨ address.toNat = s.link.strap.toNat)) then
        s.framed.replied h .badArg []
      else State.replied h .accepted [] { s.framed with link := { s.framed.link with
        following := decide (on = 1#8), partner := if on = 1#8 then some address.toNat else s.link.partner } }) := by
  by_cases hon : 2 ≤ on.toNat
  · rw [if_pos (.inl hon)]
    exact linkCommand_bodyRefuses ht hpl rfl rfl (if_pos hon)
  · obtain rfl | rfl := byte_zero_or_one hon
    · rw [if_neg (by simp)]
      exact linkCommand_accepts ht hpl rfl rfl rfl (State.settleFrom_quiet _ _ rfl rfl rfl rfl)
    · by_cases hbad : 31 ≤ address.toNat ∨ address.toNat = s.link.strap.toNat
      · rw [if_pos (.inr ⟨rfl, hbad⟩)]
        exact linkCommand_bodyRefuses ht hpl rfl rfl (if_pos hbad)
      · rw [if_neg (by simpa using hbad)]
        exact linkCommand_accepts ht hpl rfl rfl (if_neg hbad) (State.settleFrom_quiet _ _ rfl rfl rfl rfl)

theorem clearLatch_modify (n : Nat) (slots : List ScanSlot) :
    slots.modify n ScanSlot.clearLatch = slots.mapIdx (fun i sl =>
      if i = n then { sl with latchedHigh := false, latchedLow := false } else sl) := by
  refine List.ext_getElem? fun i => ?_
  rw [List.getElem?_modify, List.getElem?_mapIdx]
  cases slots[i]? with
  | none => simp
  | some sl => by_cases hi : n = i <;> simp [hi, ScanSlot.clearLatch, eq_comm]

theorem execLimitClear_eq (ht : s.takes h) (hpl : s.prot.pl < 3) (n : Byte) :
    execLimitClear h [n] s = .next (
      if n.toNat ≤ 7 ∨ n = 255#8 then State.replied h .accepted [] { s.framed with scan := { s.scan with
        slots := s.scan.slots.mapIdx (fun i sl =>
          if n = 255#8 ∨ i = n.toNat then { sl with latchedHigh := false, latchedLow := false } else sl) } }
      else s.framed.replied h .badArg []) := by
  by_cases hone : n.toNat ≤ 7
  · have hn : n ≠ 255#8 := by
      rintro rfl
      exact absurd hone (by decide)
    have hslots : s.scan.slots.mapIdx (fun i sl =>
        if n = 255#8 ∨ i = n.toNat then { sl with latchedHigh := false, latchedLow := false } else sl)
        = s.scan.slots.modify n.toNat ScanSlot.clearLatch := by
      simp only [clearLatch_modify, hn, false_or]
    rw [if_pos (.inl hone), hslots]
    exact linkCommand_accepts ht hpl rfl rfl (if_pos hone) (State.settleFrom_quiet _ _ rfl rfl rfl rfl)
  · by_cases hall : n = 255#8
    · subst hall
      have hslots : s.scan.slots.mapIdx (fun i sl =>
          if (255#8 : Byte) = 255#8 ∨ i = (255#8 : Byte).toNat then
            { sl with latchedHigh := false, latchedLow := false } else sl)
          = s.scan.slots.map ScanSlot.clearLatch := by
        refine List.ext_getElem? fun i => ?_
        rw [List.getElem?_mapIdx, List.getElem?_map]
        simp only [true_or, if_true]
        rfl
      rw [if_pos (.inr rfl), hslots]
      exact linkCommand_accepts ht hpl rfl rfl rfl (State.settleFrom_quiet _ _ rfl rfl rfl rfl)
    · have hnat : ¬n.toNat = 255 := fun hv => hall (BitVec.eq_of_toNat_eq hv)
      rw [if_neg (not_or.mpr ⟨hone, hall⟩)]
      exact linkCommand_bodyRefuses ht hpl rfl rfl ((if_neg hone).trans (if_neg hnat))

theorem execShowModeLapse_eq {due : Nat} (hdue : s.link.silenceDue = some due) :
    execShowModeLapse s = .next { s with
      clock := max s.clock due
      arb := { s.arb with lock := s.arb.lock && s.items.stickyLock }
      link := { s.link with showMode := false, silenceDue := none, flags := { s.link.flags with showStore := true } } } := by
  have hlock : (if s.items.stickyLock then s.arb.lock else false) = (s.arb.lock && s.items.stickyLock) := by
    cases s.items.stickyLock <;> simp
  unfold execShowModeLapse
  rw [hdue, ← hlock]
  rfl

end LinkBodies

/-- Settles O47. -/
theorem linkSettingsAreWritten : Obligations.LinkSettingsAreWritten := by
  refine ⟨fun h s ht hpl => ⟨fun a b c d e => execPriority_eq ht hpl a b c d e, execLock_eq ht hpl, execFollow_eq ht hpl,
    ?_, ?_, execLimitClear_eq ht hpl⟩, fun s hnone => ?_, fun s due hdue => execShowModeLapse_eq hdue⟩
  · rw [Nat.mul_comm 1000000]
    exact linkCommand_accepts ht hpl rfl rfl rfl (State.settleFrom_quiet _ _ rfl rfl rfl rfl)
  · exact linkCommand_accepts ht hpl rfl rfl rfl (State.settleFrom_quiet _ _ rfl rfl rfl rfl)
  · show execShowModeLapse s = _
    unfold execShowModeLapse
    rw [hnone]

end Sys2Proof.Machine
end

section
/-! MARK, HOLD, RESUME, AUTO, the dwell timer, and the requests of the link with FLUSH (R23 to R26, R33 to R41, R175). -/

namespace Sys2Proof.Machine

section LinkBodies

variable {h : Header} {s : State}

/-! ## AUTO and the dwell timer (R36, R37) -/

/-- The dwell timer's duration at a position, the gap having none (R37). -/
theorem State.dwellTime_eq (p : Nat) (s : State) :
    s.dwellTime p = (s.changer.map[p - 1]?).bind (fun e =>
      if p ≠ 0 ∧ e.state = .inGate then
        (match e.dwellPreset with
          | some d => some (100000 * d)
          | none => if s.items.defaultDwell = 0 then none else some (100000 * s.items.defaultDwell))
      else none) := by
  unfold State.dwellTime State.entryAt
  by_cases hp : p = 0
  · cases s.changer.map[p - 1]? <;> simp [hp]
  · rw [if_neg hp]
    cases s.changer.map[p - 1]? with
    | none => rfl
    | some e =>
      by_cases hgate : e.state = .inGate
      · cases hd : e.dwellPreset <;> simp [hp, hgate, hd, tenths, Nat.mul_comm]
      · simp [hgate]

theorem State.startDwell_eq {s : State} (hauto : s.arb.autoMode = true) (hhold : s.arb.hold = false) :
    s.startDwell = { s with arb := { s.arb with
      dwellDue := match s.changer.position.bind (fun p => s.dwellTime p) with
        | none => s.arb.dwellDue
        | some d => some (s.clock + d) } } := by
  unfold State.startDwell
  rw [hauto]
  cases s.changer.position.bind (fun p => s.dwellTime p) with
  | none => rfl
  | some d => simp [hhold]

/-- AUTO on outside hold (R36, R37). -/
theorem State.writeAuto_on {s : State} (hhold : s.arb.hold = false) :
    s.writeAuto true = { s with arb := { s.arb with
      autoMode := true
      dwellDue := if s.arb.autoMode = false ∧ s.changer.state = .idle then
          (match s.changer.position.bind (fun p => s.dwellTime p) with
            | none => s.arb.dwellDue
            | some d => some (s.clock + d))
        else s.arb.dwellDue } } := by
  unfold State.writeAuto
  rw [if_neg (by rw [hhold]; decide), if_pos rfl]
  by_cases hstart : s.arb.autoMode = false ∧ s.changer.state = .idle
  · rw [if_pos hstart, if_pos hstart]
    exact State.startDwell_eq (s := { s with arb := { s.arb with autoMode := true } }) rfl hhold
  · rw [if_neg hstart, if_neg hstart]

/-- A change of the arbiter that spares the queues is settled. -/
theorem State.settleFrom_of_arb {s t : State} (hframe : s.onlyChanges [.arb, .tape] t)
    (hqueues : t.arb.queues = s.arb.queues) : s.settleFrom t = t :=
  State.settleFrom_of_frame hframe (by decide) (by rw [hqueues])

theorem State.takeHold_queues (s : State) : s.takeHold.arb.queues = s.arb.queues := by
  rw [s.takeHold_holds.1.1]
  split <;> rfl

theorem State.takeResume_queues (s : State) : s.takeResume.arb.queues = s.arb.queues := by
  unfold State.takeResume
  split
  · dsimp only
    rw [State.removeReason_frame _ _ .arb (by decide)]
  · rfl

theorem execAuto_eq (ht : s.takes h) (hpl : s.prot.pl < 3) {v : Byte} {on : Bool} {a : Arbiter}
    (hv : v = if on then 1#8 else 0#8) (hauto : s.framed.writeAuto on = { s.framed with arb := a })
    (hqueues : a.queues = s.arb.queues) :
    execAuto h [v] s = .next (State.replied h .accepted [] { s.framed with arb := a }) := by
  have hsmall : ¬1 < v.toNat := by
    subst hv
    cases on <;> decide
  have hon : (v.toNat == 1) = on := by
    subst hv
    cases on <;> rfl
  refine linkCommand_accepts ht hpl rfl rfl ?_ (State.settleFrom_of_arb ?_ hqueues)
  · refine (if_neg hsmall).trans ?_
    show Answer.ok (s.framed.writeAuto (v.toNat == 1)) = _
    rw [hon, hauto]
  · intro b hb; cases b <;> first | rfl | simp at hb

end LinkBodies

/-- Settles O46. -/
theorem markHoldResumeAutoAndDwell : Obligations.MarkHoldResumeAutoAndDwell := by
  refine ⟨fun h s ht hpl => ⟨?_, ?_, ?_, fun v hv => ?_, fun hhold => ?_, fun hhold => ?_, fun hhold => ?_, fun hhold => ?_⟩,
    fun s hnone => ?_, fun s due hdue => ?_⟩
  · have hmark := linkCommand_accepts (body := fun t => .ok t.markPosition) (code := 5) (len := 0) (args := []) ht hpl rfl rfl
      (congrArg Answer.ok s.framed.markPosition_eq) (by
        refine State.settleFrom_of_arb (by intro b hb; cases b <;> first | rfl | simp at hb) ?_
        cases s.framed.changer.position <;> rfl)
    refine hmark.trans ?_
    show Host.Outcome.next (State.replied h .accepted [] { s.framed with arb := match s.changer.position with
      | none => s.arb
      | some n => { s.arb with stack := (n :: s.arb.stack).take 6 } }) = _
    cases s.changer.position <;> rfl
  · obtain ⟨hholds, hframe⟩ := s.framed.takeHold_holds
    exact ⟨_, linkCommand_accepts ht hpl rfl rfl rfl (State.settleFrom_of_arb hframe s.framed.takeHold_queues), hholds, hframe⟩
  · obtain ⟨hresumes, htape, hframe⟩ := s.framed.takeResume_resumes
    exact ⟨_, linkCommand_accepts ht hpl rfl rfl rfl (State.settleFrom_of_arb hframe s.framed.takeResume_queues), hresumes,
      htape, hframe⟩
  · exact linkCommand_bodyRefuses ht hpl rfl rfl (if_pos hv)
  · exact execAuto_eq (on := true) ht hpl rfl (if_pos hhold) rfl
  · exact execAuto_eq (on := false) ht hpl rfl (if_pos hhold) rfl
  · exact execAuto_eq (on := false) ht hpl rfl (if_neg (by rw [show s.framed.arb.hold = false from hhold]; decide)) rfl
  · intro dwell
    have hdwell : s.framed.changer.position.bind (fun p => s.framed.dwellTime p) = dwell := by
      simp only [State.dwellTime_eq]
      rfl
    have hon := State.writeAuto_on (s := s.framed) hhold
    rw [hdwell] at hon
    exact execAuto_eq (on := true) ht hpl rfl hon rfl
  · show execDwellExpiry s = _
    unfold execDwellExpiry
    rw [hnone]
  · show execDwellExpiry s = _
    unfold execDwellExpiry
    rw [hdue]
    dsimp only
    rw [State.offered_plain .stepFwd (src := .dwell) _ (by decide) (by decide)]
    have hroom : (s.cool.power ≠ .coolingDown ∧ s.prot.pl < 2 ∧ s.arb.queues.dwell.length < 1)
        ↔ s.cool.power ≠ .coolingDown ∧ s.prot.pl < 2 ∧ s.arb.queues.dwell = [] := by
      rw [Nat.lt_one_iff, List.length_eq_zero_iff]
    by_cases hjoin : s.cool.power ≠ .coolingDown ∧ s.prot.pl < 2 ∧ s.arb.queues.dwell = []
    · rw [if_pos hjoin, if_pos (by exact hroom.mpr hjoin)]
      have hempty : ((s.reachAt due).cancelDwell.arb.queues.get .dwell) = [] := hjoin.2.2
      rw [hempty]
      rfl
    · rw [if_neg hjoin, if_neg (by exact mt hroom.mp hjoin)]
      rfl

/-! ## The requests of the link (R24 to R26) -/

theorem State.refuses_link (s : State) (r : Request) (hlink : r.source = .link) (hstandby : r.standby = false)
    (hslot : r.kind ≠ .goto → r.target = none) : s.refuses r = s.linkRefusal r.target := by
  have hgoto : (r.source = .link ∧ r.kind = .goto ∧ s.items.traySize < r.target.getD 0) ↔ s.items.traySize < r.target.getD 0 := by
    refine ⟨fun hr => hr.2.2, fun hr => ⟨hlink, ?_, hr⟩⟩
    by_contra hk
    rw [hslot hk] at hr
    exact absurd hr (Nat.not_lt_zero _)
  unfold State.refuses State.linkRefusal
  rw [hlink, hstandby]
  rw [hlink] at hgoto
  exact if_congr (and_iff_left rfl) rfl (if_congr Iff.rfl rfl (if_congr hgoto rfl rfl))

/-- A LINK request joins its queue, or is answered by the test of R25 that failed. -/
theorem linkCommand_offers {code len : Nat} {h : Header} {args : List Byte} {body : State → Answer} {s : State}
    {r : Request} (ht : s.takes h) (hpl : s.prot.pl < 3) (hlen : args.length = len) (hcode : givesUpState code = false)
    (hlink : r.source = .link) (hstandby : r.standby = false) (hslot : r.kind ≠ .goto → r.target = none)
    (hbody : body s.framed = s.framed.linkOffer r) :
    linkCommand code len h args body s = .next (match s.linkRefusal r.target with
      | some code => s.framed.replied h code []
      | none => State.replied h .accepted [] { s.framed with arb := { s.arb with queues := { s.arb.queues with
          link := s.arb.queues.link ++ [r] } } }) := by
  have hrefuses : s.framed.refuses r = s.linkRefusal r.target := s.framed.refuses_link r hlink hstandby hslot
  have hjoin : s.framed.join r = { s.framed with arb := { s.arb with queues := { s.arb.queues with
      link := s.arb.queues.link ++ [r] } } } := by
    unfold State.join
    rw [hlink]
    rfl
  cases hr : s.linkRefusal r.target with
  | some c =>
    refine linkCommand_answers ht hpl hlen hcode ?_ (State.settleFrom_self _)
    rw [hbody]
    unfold State.linkOffer State.offer
    rw [hrefuses, hr]
  | none =>
    refine linkCommand_answers ht hpl hlen hcode ?_ (State.settleFrom_quiet _ _ rfl rfl rfl rfl)
    rw [hbody, ← hjoin]
    unfold State.linkOffer State.offer
    rw [hrefuses, hr, hlink]
    rfl

/-! ## FLUSH (R41) -/

theorem lastEight_append (l m : List Completion) : lastEight (lastEight l ++ m) = lastEight (l ++ m) := by
  have hlen : (l.drop (l.length - 8)).length = l.length - (l.length - 8) := List.length_drop
  unfold lastEight
  rw [List.length_append, List.length_append, hlen, ← List.drop_append_of_le_length (by omega), List.drop_drop]
  congr 1
  omega

theorem lastEight_of_length_le {l : List Completion} (h : l.length ≤ 8) : lastEight l = l := by
  unfold lastEight
  rw [show l.length - 8 = 0 by omega, List.drop_zero]

/-- The completion entries of the requests of a list that the link made (R30). -/
def linkCompletions (o : ChangeOutcome) (p : Option Nat) (l : List Request) : List Completion :=
  (l.filter (fun r => r.source == .link)).map (fun r => ⟨r.tag.getD 0#8, o, p⟩)

/-- A flush adds one completion entry for each LINK request, oldest first (R41). -/
theorem State.completeAll_eq (o : ChangeOutcome) (p : Option Nat) (l : List Request) {s : State}
    (h : s.arb.completions.length ≤ 8) :
    l.foldl (fun t r => t.completeRequest r o p) s = { s with
      arb := { s.arb with completions := lastEight (s.arb.completions ++ linkCompletions o p l) }
      link := { s.link with flags := { s.link.flags with
        completion := s.link.flags.completion || !(linkCompletions o p l).isEmpty } } } := by
  induction l generalizing s with
  | nil =>
    simp only [List.foldl_nil, linkCompletions, List.filter_nil, List.map_nil, List.append_nil, List.isEmpty_nil,
      Bool.not_true, Bool.or_false, lastEight_of_length_le h]
  | cons r l ih =>
    rw [List.foldl_cons]
    by_cases hlink : r.source = .link
    · have hmade : linkCompletions o p (r :: l) = ⟨r.tag.getD 0#8, o, p⟩ :: linkCompletions o p l := by
        simp [linkCompletions, hlink]
      have hone : s.completeRequest r o p = s.addCompletion ⟨r.tag.getD 0#8, o, p⟩ := if_pos hlink
      rw [hone, ih (length_lastEight _), hmade]
      have hlist : (s.addCompletion ⟨r.tag.getD 0#8, o, p⟩).arb.completions
          = lastEight (s.arb.completions ++ [⟨r.tag.getD 0#8, o, p⟩]) := rfl
      rw [hlist, lastEight_append, List.append_assoc, List.singleton_append, List.isEmpty_cons, Bool.not_false,
        Bool.or_true]
      rfl
    · have hmade : linkCompletions o p (r :: l) = linkCompletions o p l := by simp [linkCompletions, hlink]
      have hnone : s.completeRequest r o p = s := if_neg hlink
      rw [hnone, ih h, hmade]

theorem State.flushLink_eq {s : State} (h : s.arb.completions.length ≤ 8) :
    s.flushLink = { s with
      arb := { s.arb with
        queues := { s.arb.queues with link := [] }
        completions := lastEight (s.arb.completions
          ++ linkCompletions .aborted s.changer.position s.arb.queues.link) }
      link := { s.link with flags := { s.link.flags with
        completion := s.link.flags.completion
          || !(linkCompletions .aborted s.changer.position s.arb.queues.link).isEmpty } } } := by
  unfold State.flushLink
  rw [State.completeAll_eq _ _ _ h]
  rfl

/-- Debt that is lawful waits: there is room for no owed step. -/
theorem State.convertDebt_of_full {s : State} (h : 0 < s.cue.debt → 4 ≤ s.arb.queues.cue.length) (n : Nat) :
    State.convertDebt n s = s := by
  cases n with
  | zero => rfl
  | succ n =>
    refine if_neg fun hroom => ?_
    have := h hroom.2
    omega

theorem State.judgeQueue_frame_tape (s : State) : s.onlyChanges [.cue, .tape] s.judgeQueue := by
  unfold State.judgeQueue
  dsimp only
  split
  · refine State.onlyChanges.andThen (as := [.cue]) ?_ (State.addReason_frame_tape _ _) (by decide) (by decide)
    intro b hb; cases b <;> first | rfl | simp at hb
  split
  · refine State.onlyChanges.andThen (as := [.cue]) ?_ (State.removeReason_frame_tape _ _) (by decide) (by decide)
    intro b hb; cases b <;> first | rfl | simp at hb
  · intro b hb; cases b <;> first | rfl | simp at hb

/-- Settles O45: the four commands by one lemma on the offer, FLUSH by the fold of its completion entries. -/
theorem linkRequestsJoinOrAreRefused : Obligations.LinkRequestsJoinOrAreRefused := by
  intro h s ht hpl joins
  refine ⟨fun direction flags tag => ?_, fun slot flags tag => ?_, fun flags tag => ?_, fun flags tag => ?_,
    fun hlen hdebt => ?_⟩
  · by_cases hd : 2 ≤ direction.toNat
    · rw [if_pos hd]
      exact linkCommand_bodyRefuses ht hpl rfl rfl (if_pos hd)
    · rw [if_neg hd]
      have hzero : direction = 0#8 ↔ direction.toNat = 0 := ⟨fun hz => hz ▸ rfl, fun hz => BitVec.eq_of_toNat_eq hz⟩
      have hkind : (if direction = 0#8 then ReqKind.stepFwd else .stepRev)
          = if direction.toNat = 0 then .stepFwd else .stepRev := if_congr hzero rfl rfl
      rw [hkind]
      exact linkCommand_offers (r := linkRequest (if direction.toNat = 0 then .stepFwd else .stepRev) none flags.toNat tag)
        ht hpl rfl rfl rfl rfl (fun _ => rfl) (if_neg hd)
  · exact linkCommand_offers (r := linkRequest .goto (some slot.toNat) flags.toNat tag) ht hpl rfl rfl rfl rfl
      (fun hk => absurd rfl hk) rfl
  · exact linkCommand_offers (r := linkRequest .ret none flags.toNat tag) ht hpl rfl rfl rfl rfl (fun _ => rfl) rfl
  · exact linkCommand_offers (r := linkRequest .home none flags.toNat tag) ht hpl rfl rfl rfl rfl (fun _ => rfl) rfl
  · have hflush := State.flushLink_eq (s := s.framed) hlen
    have hreport : s.framed.flushLink.reportCue = s.framed.flushLink.judgeQueue := by
      refine congrArg State.judgeQueue (State.convertDebt_of_full ?_ _)
      rw [hflush]
      exact fun hpos => (hdebt.2.2 hpos).ge
    have hjudge := s.framed.flushLink.judgeQueue_frame_tape
    have hframe : s.framed.onlyChanges [.arb, .link, .cue, .tape] s.framed.flushLink.judgeQueue :=
      (s.framed.flushLink_frame).andThen hjudge (by decide) (by decide)
    have hpanel : s.framed.flushLink.judgeQueue.arb.queues.panel = s.framed.arb.queues.panel := by
      rw [hjudge .arb (by decide), hflush]
    refine ⟨s.framed.flushLink.judgeQueue, linkCommand_accepts ht hpl rfl rfl (congrArg Answer.ok hreport)
      (State.settleFrom_of_frame hframe (by decide) hpanel), ?_, ?_, ?_, hframe⟩
    · rw [hjudge .arb (by decide), hflush]
      rfl
    · rw [hjudge .link (by decide), hflush]
      rfl
    · rw [State.judgeQueue_debt, hflush]
      rfl

end Sys2Proof.Machine
end

section
/-! What every frame meets at the port: the receiver, the address, the tests of R172, and the frames that are discarded
(R75, R76, R169 to R173). -/

namespace Sys2Proof.Machine

/-! ## Commands of the table (R172) -/

/-- Every command of the table is a link command of its code and length, RESET-PART where it does not reset at once. -/
theorem exec_linkInstr {code : Nat} {h : Header} {args : List Byte} {c : Instr} {s : State}
    (hc : linkInstr code h args = some c) (hreset : code = 33 → s.resetsAtOnce h args = false) :
    code ≤ 33 ∧ ∃ body, exec c s = linkCommand code (argLength code) h args body s := by
  unfold linkInstr at hc
  split at hc
  case h_33 =>
    cases hc
    have hno : ¬s.resetsAtOnce h args = true := by rw [hreset rfl]; decide
    exact ⟨le_refl _, _, congrArg Host.Outcome.next (if_neg hno)⟩
  case h_34 => cases hc
  all_goals
    cases hc
    exact ⟨by decide, _, rfl⟩

theorem State.resetsAtOnce_deaf {h : Header} {args : List Byte} {s : State} (hr : s.link.reply ≠ []) :
    s.resetsAtOnce h args = false := by
  simp [State.resetsAtOnce, State.receiverOn, hr]

theorem State.resetsAtOnce_args {h : Header} {args : List Byte} {s : State} (ha : args ≠ []) :
    s.resetsAtOnce h args = false := by
  simp [State.resetsAtOnce, ha]

theorem State.frameKind_foreign {h : Header} {s : State} (hall : h.addr ≠ 31#5) (hown : h.addr ≠ s.link.strap) :
    s.frameKind h = if s.link.following = true ∧ s.link.partner = some h.addr.toNat then .partner else .other := by
  unfold State.frameKind
  rw [if_neg hall, if_neg hown]

theorem State.resetsAtOnce_foreign {h : Header} {args : List Byte} {s : State} (hall : h.addr ≠ 31#5)
    (hown : h.addr ≠ s.link.strap) : s.resetsAtOnce h args = false := by
  unfold State.resetsAtOnce
  rw [State.frameKind_foreign hall hown]
  split_ifs <;> exact Bool.and_false _

theorem givesUpState_iff (code : Nat) : givesUpState code = true ↔ code = 28 ∨ code = 29 ∨ code = 30 := by
  simp [givesUpState, or_assoc]

theorem takenAtLockout_iff (code : Nat) : takenAtLockout code = true ↔ code = 28 ∨ code = 22 ∨ code = 33 := by
  simp [takenAtLockout, or_assoc]

/-- A refusal by one of the tests changes nothing but what the port does itself. -/
theorem linkCommand_refuses {code len : Nat} {h : Header} {args : List Byte} {body : State → Answer} {s : State}
    {r : ResultCode} (ht : s.takes h) (hreads : h.addr ≠ 31#5 ∨ givesUpState code = false)
    (htests : commandTests code len args body s.framed = .refuse r s.framed) :
    linkCommand code len h args body s = .next (s.framed.replied h r []) := by
  rw [linkCommand_takes code len h args body s ht hreads, htests]
  exact congrArg (fun v => Host.Outcome.next (State.replied h r [] v)) s.framed.settleFrom_self

theorem linkCommand_broadcastRead {code len : Nat} {h : Header} {args : List Byte} {body : State → Answer} {s : State}
    (hr : s.link.reply = []) (hall : h.addr = 31#5) (hread : givesUpState code = true) :
    linkCommand code len h args body s = .next s.endFrame.heardMaster := by
  have hon : s.receiverOn = true := by simp [State.receiverOn, hr]
  have hkind : s.frameKind h = .broadcast := if_pos hall
  unfold linkCommand State.commandFrame
  rw [if_pos hon, hkind]
  exact congrArg Host.Outcome.next (if_pos ⟨rfl, hread⟩)

theorem State.endFrame_heardMaster_eq (s : State) : s.endFrame.heardMaster = { s with link := { s.link with
    rxFrame := []
    silenceDue := if s.link.showMode then some (s.clock + 1000000 * s.items.silenceTime) else s.link.silenceDue } } := by
  have hcomm : secs s.items.silenceTime = 1000000 * s.items.silenceTime := Nat.mul_comm _ _
  unfold State.heardMaster
  rw [← hcomm]
  by_cases hshow : s.link.showMode = true
  · rw [if_pos (show s.endFrame.link.showMode = true from hshow), if_pos hshow]
    rfl
  · rw [if_neg (show ¬s.endFrame.link.showMode = true from hshow), if_neg hshow]
    rfl

/-- A frame of a foreign address: a partner's is followed, any other is dropped. -/
theorem linkCommand_foreign {code len : Nat} {h : Header} {args : List Byte} {body : State → Answer} {s : State}
    (hr : s.link.reply = []) (hall : h.addr ≠ 31#5) (hown : h.addr ≠ s.link.strap) :
    linkCommand code len h args body s = .next (if s.link.following = true ∧ s.link.partner = some h.addr.toNat then
      s.endFrame.followPartner h false code args else s.endFrame) := by
  have hon : s.receiverOn = true := by simp [State.receiverOn, hr]
  unfold linkCommand State.commandFrame
  rw [if_pos hon, State.frameKind_foreign hall hown]
  split_ifs <;> rfl

theorem execPartnerFrame_partner {h : Header} {cont : Bool} {code : BitVec 6} {args : List Byte} {s : State}
    (hr : s.link.reply = []) (hall : h.addr ≠ 31#5) (hown : h.addr ≠ s.link.strap)
    (hpartner : s.link.following = true ∧ s.link.partner = some h.addr.toNat) :
    execPartnerFrame h cont code args s = .next (s.endFrame.followPartner h cont code.toNat args) :=
  if_pos ⟨by simp [State.receiverOn, hr], (State.frameKind_foreign hall hown).trans (if_pos hpartner)⟩

/-- A frame that is taken, whatever is made of it. -/
theorem State.commandFrame_takes {code : Nat} {h : Header} {args : List Byte} {take : State → Answer} {s : State}
    (ht : s.takes h) (hread : givesUpState code = false) :
    s.commandFrame code h args take
      = State.replied h (take s.framed).code (take s.framed).data (s.framed.settleFrom (take s.framed).st) := by
  obtain ⟨hr, haddr⟩ := ht
  have hon : s.receiverOn = true := by simp [State.receiverOn, hr]
  have htake (kind : FrameKind) : s.takeOwn kind code h take
      = Answer.send kind h { take s.framed with st := s.framed.settleFrom (take s.framed).st } := by
    unfold State.takeOwn
    rw [if_neg (by rw [hread]; simp), State.endFrame_heardMaster_closed]
  unfold State.commandFrame
  rw [if_pos hon]
  by_cases hall : h.addr = 31#5
  · rw [show s.frameKind h = .broadcast from if_pos hall]
    refine (htake .broadcast).trans ?_
    unfold Answer.send State.replied
    rw [if_neg (by simp), if_neg (fun hno => hno.1 hall)]
  · rw [show s.frameKind h = .own from (if_neg hall).trans (if_pos (haddr.resolve_left hall))]
    refine (htake .own).trans ?_
    exact if_congr ⟨fun hown => ⟨hall, hown.2⟩, fun hown => ⟨rfl, hown.2⟩⟩ rfl rfl

theorem knownCode_iff (code : BitVec 6) : knownCode code = true ↔ 1 ≤ code.toNat ∧ code.toNat ≤ 33 := by
  simp [knownCode]

/-- Settles O43. -/
theorem commandsAreTestedInOrder : Obligations.CommandsAreTestedInOrder := by
  refine ⟨fun code h args s c hc => ⟨fun hr => ?_, fun ht hall hread => ?_, fun ht hreads hpl h28 h22 h33 => ?_,
    fun ht hreads hpl hlen => ?_, fun hr hall hown => ?_⟩, fun h code args s => ⟨fun ht hcode => ?_, fun hlow hhigh => ?_⟩⟩
  · obtain ⟨_, body, hexec⟩ := exec_linkInstr hc (fun _ => State.resetsAtOnce_deaf hr)
    rw [hexec]
    exact congrArg Host.Outcome.next (if_neg (by simp [State.receiverOn, hr]))
  · obtain ⟨_, body, hexec⟩ := exec_linkInstr (s := s) hc (fun h33 => absurd h33 (by omega))
    rw [hexec, linkCommand_broadcastRead ht.1 hall ((givesUpState_iff code).mpr hread), State.endFrame_heardMaster_eq]
  · obtain ⟨_, body, hexec⟩ := exec_linkInstr (s := s) hc (fun h => absurd h h33)
    have hlock : takenAtLockout code = false := by
      rw [← Bool.not_eq_true, takenAtLockout_iff]
      omega
    rw [hexec]
    exact linkCommand_refuses ht (hreads.imp_right fun hno => by rwa [← Bool.not_eq_true, givesUpState_iff])
      (if_pos ⟨hpl, hlock⟩)
  · obtain ⟨_, body, hexec⟩ := exec_linkInstr (s := s) hc (fun h33 => State.resetsAtOnce_args fun hnil => hlen (by
      rw [hnil, h33]
      rfl))
    have hpast : ¬(3 ≤ s.framed.prot.pl ∧ takenAtLockout code = false) := by
      rintro ⟨hhigh, hlock⟩
      rw [← Bool.not_eq_true, takenAtLockout_iff] at hlock
      exact hpl.elim (fun hlow => absurd hlow (Nat.not_lt.mpr hhigh)) hlock
    rw [hexec]
    exact linkCommand_refuses ht (hreads.imp_right fun hno => by rwa [← Bool.not_eq_true, givesUpState_iff])
      ((if_neg hpast).trans (if_pos hlen))
  · obtain ⟨hmax, body, hexec⟩ := exec_linkInstr (s := s) hc (fun _ => State.resetsAtOnce_foreign hall hown)
    rw [hexec, linkCommand_foreign hr hall hown]
    by_cases hpartner : s.link.following = true ∧ s.link.partner = some h.addr.toNat
    · have hcode : (BitVec.ofNat 6 code).toNat = code := by
        rw [BitVec.toNat_ofNat]
        exact Nat.mod_eq_of_lt (by omega)
      have hheard := execPartnerFrame_partner (cont := false) (code := BitVec.ofNat 6 code) (args := args) hr hall hown hpartner
      rw [if_pos hpartner, if_pos hpartner]
      rw [hcode] at hheard
      exact hheard.symm
    · rw [if_neg hpartner, if_neg hpartner]
      rfl
  · have hunknown : ¬knownCode code = true := by
      rw [knownCode_iff]
      obtain rfl | hcode := hcode
      · decide
      · omega
    have hread : givesUpState code.toNat = false := by
      rw [← Bool.not_eq_true, givesUpState_iff]
      obtain rfl | hcode := hcode
      · decide
      · omega
    refine Eq.trans (if_neg hunknown) (congrArg Host.Outcome.next ?_)
    rw [State.commandFrame_takes ht hread]
    exact congrArg (State.replied h .unknownCommand []) s.framed.settleFrom_self
  · exact if_pos ((knownCode_iff code).mpr ⟨hlow, hhigh⟩)

end Sys2Proof.Machine
end

section
/-! What the port discards and counts, and how a partner frame is followed (R75, R76, R169, R170, R173). -/

namespace Sys2Proof.Machine

/-! ## Bytes that make no frame (R169, R170) -/

theorem State.discardFrame_eq {g : List Byte} {s : State} (hr : s.link.reply = []) :
    s.discardFrame g = if s.link.rxFrame ++ g = [] then s
      else { s with link := { s.link with rxFrame := [], errCount := min 65535 (s.link.errCount + 1) } } := by
  have hon : s.receiverOn = true := by simp [State.receiverOn, hr]
  unfold State.discardFrame
  by_cases hall : s.link.rxFrame ++ g = []
  · rw [if_neg (fun hno => hno.2 hall), if_pos hall]
  · rw [if_pos ⟨hon, hall⟩, if_neg hall]
    rfl

theorem State.discardFrame_deaf {g : List Byte} {s : State} (hr : s.link.reply ≠ []) : s.discardFrame g = s :=
  if_neg fun hno => hr (by simpa [State.receiverOn] using hno.1)

theorem byteSum_eq (l : List Byte) : byteSum l = (l.map BitVec.toNat).sum := by
  have h (n : Nat) : l.foldl (fun n b => n + b.toNat) n = n + (l.map BitVec.toNat).sum := by
    induction l generalizing n with
    | nil => simp
    | cons b l ih => simp [ih, Nat.add_assoc]
  exact (h 0).trans (Nat.zero_add _)

/-- A check byte makes the sum of the bytes before it and itself 0 modulo 256. -/
theorem eq_checkByte_iff (b : Byte) (l : List Byte) :
    b = checkByte l ↔ ((l ++ [b]).map BitVec.toNat).sum % 256 = 0 := by
  have hb := b.isLt
  have hsum : ((l ++ [b]).map BitVec.toNat).sum = byteSum l + b.toNat := by simp [byteSum_eq]
  rw [hsum, BitVec.toNat_eq, checkByte, BitVec.toNat_neg, BitVec.toNat_ofNat]
  generalize byteSum l = n
  omega

theorem frameComplete_iff (f : List Byte) :
    frameComplete f = true ↔ f[0]? = some 0xD3#8 ∧ ∃ n, f[3]? = some n ∧ f.length = n.toNat + 5 := by
  simp only [frameComplete, Bool.and_eq_true, beq_iff_eq, decide_eq_true_iff, List.getD_eq_getElem?_getD]
  constructor
  · rintro ⟨⟨hstart, hlen⟩, hlength⟩
    have h0 : f[0]? = some f[0] := List.getElem?_eq_getElem (by omega)
    have h3 : f[3]? = some f[3] := List.getElem?_eq_getElem (by omega)
    rw [h0] at hstart ⊢
    rw [h3] at hlength ⊢
    exact ⟨congrArg some hstart, f[3], rfl, hlength.symm⟩
  · rintro ⟨hstart, n, hn, hlength⟩
    rw [hstart, hn]
    exact ⟨⟨rfl, by omega⟩, hlength.symm⟩

theorem frameValid_iff {f : List Byte} (hlen : 5 ≤ f.length) :
    frameValid f = true ↔ ((f.drop 1).map BitVec.toNat).sum % 256 = 0 ∧ ∃ b, f[2]? = some b ∧ b.getLsbD 6 = false := by
  have h2 : f[2]? = some f[2] := List.getElem?_eq_getElem (by omega)
  have hlast : f[f.length - 1]? = some f[f.length - 1] := List.getElem?_eq_getElem (by omega)
  have hsplit : f.drop 1 = (f.take (f.length - 1)).drop 1 ++ [f[f.length - 1]] := by
    rw [← List.drop_append_of_le_length (by simp; omega), List.take_append_getElem (by omega)]
    congr 1
    rw [List.take_of_length_le (by omega)]
  simp only [frameValid, Bool.and_eq_true, beq_iff_eq, List.getD_eq_getElem?_getD, h2, hlast, Option.getD_some,
    eq_checkByte_iff, ← hsplit, Bool.not_eq_true', Option.some.injEq, exists_eq_left']

theorem execFrameDiscarded_eq {g : List Byte} {s : State} (hr : s.link.reply = []) :
    execFrameDiscarded g s = .next (if (frameComplete (s.link.rxFrame ++ g) = true ∧ frameValid (s.link.rxFrame ++ g) = false)
      then { s with link := { s.link with rxFrame := [], errCount := min 65535 (s.link.errCount + 1) } } else s) := by
  have hon : s.receiverOn = true := by simp [State.receiverOn, hr]
  unfold execFrameDiscarded
  by_cases hbad : frameComplete (s.link.rxFrame ++ g) = true ∧ frameValid (s.link.rxFrame ++ g) = false
  · rw [if_pos hbad]
    exact if_pos ⟨hon, hbad⟩
  · rw [if_neg hbad]
    exact if_neg fun hno => hbad hno.2

/-! ## Partner frames (R75, R76) -/

/-- A partner's frame is a mirrored fade of its LAMP channel. -/
def mirrorsFade (h : Header) (cont : Bool) (code : BitVec 6) (ch : Byte) : Prop :=
  code = 7#6 ∧ cont = false ∧ ch = 0#8 ∧ (h.mirror = 1#2 ∨ h.mirror = 2#2)

theorem partnerFade_eq {h : Header} {cont : Bool} {code : BitVec 6} {ch high low time flags : Byte}
    (hm : mirrorsFade h cont code ch) : partnerFade h cont code.toNat [ch, high, low, time, flags]
      = some (if h.mirror = 1#2 then 1000 - min (256 * high.toNat + low.toNat) 1000
          else min (256 * high.toNat + low.toNat) 1000, time.toNat, flags.getLsbD 0) := by
  obtain ⟨rfl, rfl, rfl, hmirror⟩ := hm
  have hlevel : clampLevel (arg2 [0#8, high, low, time, flags] 1) = min (256 * high.toNat + low.toNat) 1000 :=
    congrArg (fun n => min (n + low.toNat) 1000) (Nat.mul_comm high.toNat 256)
  unfold partnerFade
  rw [if_pos ⟨rfl, rfl, rfl, rfl⟩, hlevel]
  obtain hone | htwo := hmirror
  · rw [if_pos hone, if_pos hone]
    rfl
  · have hne : ¬h.mirror = 1#2 := by rw [htwo]; decide
    rw [if_neg hne, if_neg hne]
    exact if_pos htwo

theorem partnerFade_none {h : Header} {cont : Bool} {code : BitVec 6} {ch high low time flags : Byte}
    (hm : ¬mirrorsFade h cont code ch) : partnerFade h cont code.toNat [ch, high, low, time, flags] = none := by
  unfold partnerFade
  split
  · next hfade =>
    obtain ⟨hcode, hcont, _, hch⟩ := hfade
    have hcode' : code = 7#6 := BitVec.eq_of_toNat_eq hcode
    have hch' : ch = 0#8 := BitVec.eq_of_toNat_eq hch
    rw [if_neg (fun hone => hm ⟨hcode', hcont, hch', .inl hone⟩), if_neg (fun htwo => hm ⟨hcode', hcont, hch', .inr htwo⟩)]
  · rfl

/-- Settles O42. -/
theorem portDiscardsAndPartnerFrames : Obligations.PortDiscardsAndPartnerFrames := by
  refine ⟨fun s g len => ?_, fun h cont code args s hno => ?_, fun h cont code ch high low time flags s hr hall hown hfollow
    hpartner => ?_⟩
  · intro all bad whole sound
    refine ⟨fun hr => ⟨?_, ?_, ?_, ?_⟩, fun hr => ⟨?_, ?_, ?_, fun hfine => ?_, fun hwhole hsound => ?_⟩, fun hheld => ?_⟩
    · exact congrArg Host.Outcome.next (State.discardFrame_deaf hr)
    · exact congrArg Host.Outcome.next (State.discardFrame_deaf hr)
    · show execLengthByteAbove8 g len s = _
      unfold execLengthByteAbove8
      rw [State.discardFrame_deaf hr, ite_self]
    · exact if_neg fun hno => hr (by simpa [State.receiverOn] using hno.1)
    · exact congrArg Host.Outcome.next (State.discardFrame_eq hr)
    · exact congrArg Host.Outcome.next (State.discardFrame_eq hr)
    · show execLengthByteAbove8 g len s = _
      unfold execLengthByteAbove8
      rw [State.discardFrame_eq hr]
      by_cases hlong : 8 < len.toNat ∧ all.length = 3
      · have hne : ¬s.link.rxFrame ++ g = [] := fun hnil => absurd (hlong.2.symm.trans (congrArg List.length hnil)) (by simp)
        rw [if_neg hne, if_pos hlong, if_pos hlong]
      · rw [if_neg hlong, if_neg hlong]
    · refine (execFrameDiscarded_eq hr).trans (congrArg Host.Outcome.next (if_neg fun hbad => ?_))
      have hwhole := (frameComplete_iff all).mp hbad.1
      have hlength : 5 ≤ all.length := by
        obtain ⟨_, n, _, hlength⟩ := hwhole
        omega
      have hvalid := (frameValid_iff hlength).mpr (hfine.resolve_left (not_not_intro hwhole))
      exact absurd (hvalid.symm.trans hbad.2) (by decide)
    · have hlength : 5 ≤ all.length := by
        obtain ⟨_, n, _, hlength⟩ := hwhole
        omega
      have hinvalid : frameValid all = false := by
        rw [← Bool.not_eq_true, frameValid_iff hlength]
        exact hsound
      exact (execFrameDiscarded_eq hr).trans
        (congrArg Host.Outcome.next (if_pos ⟨(frameComplete_iff all).mpr hwhole, hinvalid⟩))
    · refine congrArg Host.Outcome.next ?_
      obtain hnone | hbusy := hheld
      · exact State.makeDueReset_of_none hnone
      · obtain hsame | ⟨_, _, hfree, _⟩ := State.makeDueReset_cases { s with link := { s.link with reply := [] } }
        · exact hsame.1
        · obtain ⟨hsaving, hwaiting⟩ : s.store.saving.isSome = false ∧ s.store.waiting = false := by
            simpa [State.resetHeldUp] using hfree
          rw [hsaving, hwaiting] at hbusy
          exact absurd hbusy (by decide)
  · refine if_neg fun hyes => hno ?_
    obtain ⟨hon, hkind⟩ := hyes
    have hr : s.link.reply = [] := by simpa [State.receiverOn] using hon
    unfold State.frameKind at hkind
    split_ifs at hkind with hall hown hpartner
    exact ⟨hr, hall, hown, hpartner⟩
  · intro heard mirrors asked level c waits
    have hexec : exec (.partnerFrame h cont code [ch, high, low, time, flags]) s
        = .next (heard.followPartner h cont code.toNat [ch, high, low, time, flags]) :=
      execPartnerFrame_partner hr hall hown ⟨hfollow, hpartner⟩
    have hle : level ≤ 1000 := by
      simp only [level, asked]
      split <;> omega
    have hbusy : waits ↔ flags.getLsbD 0 = true ∧ heard.changerFree = false :=
      and_congr_right fun _ => heard.changerFree_eq_false.symm
    have hfollows (hm : mirrors) : heard.followPartner h cont code.toNat [ch, high, low, time, flags]
        = heard.settleFrom (heard.takeFade .lamp level time.toNat (flags.getLsbD 0)) := by
      obtain ⟨hcode, hcont, hch, hmirror, hpl⟩ := hm
      unfold State.followPartner
      rw [partnerFade_eq ⟨hcode, hcont, hch, hmirror⟩]
      exact if_neg (Nat.not_le.mpr hpl)
    have hclamp : clampLevel level = level := min_eq_left hle
    rw [hexec]
    refine ⟨fun hm => congrArg Host.Outcome.next ?_, fun hm hw => congrArg Host.Outcome.next ?_, fun hm hw => ⟨_, rfl, ?_, ?_⟩⟩
    · unfold State.followPartner
      by_cases hfade : mirrorsFade h cont code ch
      · have hpl : 3 ≤ heard.prot.pl := by
          by_contra hlow
          exact hm ⟨hfade.1, hfade.2.1, hfade.2.2.1, hfade.2.2.2, Nat.not_le.mp hlow⟩
        rw [partnerFade_eq hfade]
        exact if_pos hpl
      · rw [partnerFade_none hfade]
    · obtain ⟨hwait, hfree⟩ := hbusy.mp hw
      rw [hfollows hm, State.takeFade_held hwait hfree, hclamp]
      exact State.settleFrom_quiet _ _ rfl rfl rfl rfl
    · have hzero : time = 0#8 ↔ time.toNat = 0 := ⟨fun hz => hz ▸ rfl, fun hz => BitVec.eq_of_toNat_eq hz⟩
      rw [hfollows hm, State.settleFrom_frame _ _ .fade (by decide), State.takeFade_plain (mt hbusy.mpr hw),
        State.plainFade_eq, hclamp]
      simp only [FadeChannel.takesPlain, FadeChannel.takes, hzero]
      rfl
    · rw [hfollows hm]
      exact (State.takeFade_frame _ _ _ _ _).andThen (State.settleFrom_frame _ _) (by decide) (by decide)

end Sys2Proof.Machine
end

section
/-! Continuation sequences: the lamp law and the scan slots, written whole or not at all (R53, R100, R101, R174). -/

namespace Sys2Proof.Machine

/-! ## Heads and continuations (R174) -/

/-- The part as the port leaves it once a frame is heard, with q for its pending sequence. -/
def State.framedWith (q : Option PendingSeq) (s : State) : State :=
  { s.framed with link := { s.framed.link with seq := q } }

theorem State.endFrame_heardMaster_framed (s : State) : s.endFrame.heardMaster = s.framedWith s.link.seq :=
  s.endFrame_heardMaster_eq

/-- The frame kind of a frame that is taken, and the replies that it gets. -/
theorem execContinuationFrame_takes {h : Header} {s : State} (code : BitVec 6) (args : List Byte) (ht : s.takes h) :
    ∃ kind : FrameKind, (kind == .broadcast) = decide (h.addr = 31#5)
      ∧ (∀ a : Answer, Answer.send kind h a = State.replied h a.code a.data a.st)
      ∧ exec (.continuationFrame h code args) s = .next (s.takeContinuation kind h code.toNat args) := by
  obtain ⟨hr, haddr⟩ := ht
  have hon : s.receiverOn = true := by simp [State.receiverOn, hr]
  by_cases hall : h.addr = 31#5
  · have hkind : s.frameKind h = .broadcast := if_pos hall
    refine ⟨.broadcast, (decide_eq_true hall).symm, fun a => ?_, ?_⟩
    · exact (if_neg (by simp)).trans (if_neg fun hno => hno.1 hall).symm
    · show execContinuationFrame h code args s = _
      unfold execContinuationFrame
      rw [if_pos hon, hkind]
  · have hkind : s.frameKind h = .own := (if_neg hall).trans (if_pos (haddr.resolve_left hall))
    refine ⟨.own, (decide_eq_false hall).symm, fun a => ?_, ?_⟩
    · exact if_congr ⟨fun hown => ⟨hall, hown.2⟩, fun hown => ⟨rfl, hown.2⟩⟩ rfl rfl
    · show execContinuationFrame h code args s = _
      unfold execContinuationFrame
      rw [if_pos hon, hkind]

section Continuations
variable {kind : FrameKind} {h : Header} {code : Nat} {args : List Byte} {s : State} {q : PendingSeq}

theorem State.takeContinuation_none (hseq : s.link.seq = none) :
    s.takeContinuation kind h code args = (s.framedWith none).linkError := by
  unfold State.takeContinuation
  dsimp only
  rw [s.endFrame_heardMaster_framed, hseq]
  rfl

theorem State.takeContinuation_otherKind (hseq : s.link.seq = some q) (hkind : q.broadcast ≠ (kind == .broadcast)) :
    s.takeContinuation kind h code args = (s.framedWith (some q)).linkError := by
  unfold State.takeContinuation
  dsimp only
  rw [s.endFrame_heardMaster_framed, hseq]
  exact if_pos hkind

theorem State.takeContinuation_misfit (hseq : s.link.seq = some q) (hkind : q.broadcast = (kind == .broadcast))
    (hmisfit : code ≠ q.command.code ∨ args.length ≠ 8) :
    s.takeContinuation kind h code args = (s.framedWith none).linkError := by
  unfold State.takeContinuation
  dsimp only
  rw [s.endFrame_heardMaster_framed, hseq]
  exact (if_neg (not_not.mpr hkind)).trans (if_pos hmisfit)

theorem State.takeContinuation_more (hseq : s.link.seq = some q) (hkind : q.broadcast = (kind == .broadcast))
    (hfits : code = q.command.code ∧ args.length = 8) (hmore : 1 < q.due) :
    s.takeContinuation kind h code args = Answer.send kind h (.ok (s.framedWith (some { q with
      bytes := q.bytes ++ args, due := q.due - 1, replyBits := q.replyBits ++ [h.reply] }))) := by
  unfold State.takeContinuation
  dsimp only
  rw [s.endFrame_heardMaster_framed, hseq]
  exact (if_neg (not_not.mpr hkind)).trans ((if_neg (by simp [hfits])).trans (if_pos hmore))

/-- The last continuation hands the string to its owner. -/
theorem State.takeContinuation_last (hseq : s.link.seq = some q) (hkind : q.broadcast = (kind == .broadcast))
    (hfits : code = q.command.code ∧ args.length = 8) (hlast : q.due ≤ 1) {u : State} {r : ResultCode}
    (happly : s.framed.applySequence q.command (q.bytes ++ args) = ⟨u, r, []⟩) (hquiet : s.framed.settleFrom u = u) :
    s.takeContinuation kind h code args = Answer.send kind h ⟨u, r, []⟩ := by
  unfold State.takeContinuation
  dsimp only
  rw [s.endFrame_heardMaster_framed, hseq]
  refine (if_neg (not_not.mpr hkind)).trans ((if_neg (by simp [hfits])).trans ((if_neg (Nat.not_lt.mpr hlast)).trans ?_))
  show Answer.send kind h { s.framed.applySequence q.command (q.bytes ++ args) with
    st := s.framed.settleFrom (s.framed.applySequence q.command (q.bytes ++ args)).st } = _
  rw [happly]
  exact congrArg (fun v => Answer.send kind h ⟨v, r, []⟩) hquiet

end Continuations

/-! ## The lamp law (R53) -/

theorem nonIncreasing_iff (l : List Nat) :
    nonIncreasing l = true ↔ ∀ i, i + 1 < l.length → l.getD (i + 1) 0 ≤ l.getD i 0 := by
  match l with
  | [] => simp [nonIncreasing]
  | [a] => simp [nonIncreasing]
  | a :: b :: rest =>
    rw [nonIncreasing, Bool.and_eq_true, decide_eq_true_iff, nonIncreasing_iff (b :: rest)]
    constructor
    · rintro ⟨hab, hrest⟩ (_ | i) hi
      · exact hab
      · exact hrest i (Nat.lt_of_succ_lt_succ hi)
    · exact fun hall => ⟨hall 0 (by simp), fun i hi => hall (i + 1) (Nat.succ_lt_succ hi)⟩

theorem lawEntries_getD (bytes : List Byte) {i : Nat} (hi : i < 11) :
    (lawEntries bytes).getD i 0 = arg2 bytes (2 * i) := by
  simp [lawEntries, hi]

theorem lawOk_lawEntries (bytes : List Byte) : lawOk (lawEntries bytes) = true ↔
    (∀ i ∈ List.range 10, arg2 bytes (2 * i + 2) ≤ arg2 bytes (2 * i)) ∧ arg2 bytes 0 ≤ 1000 ∧ 50 ≤ arg2 bytes 20 := by
  have hlen : (lawEntries bytes).length = 11 := by simp [lawEntries]
  unfold lawOk
  rw [Bool.and_eq_true, Bool.and_eq_true, decide_eq_true_iff, decide_eq_true_iff, nonIncreasing_iff, hlen,
    lawEntries_getD bytes (by decide), lawEntries_getD bytes (by decide), and_assoc]
  refine and_congr ⟨fun hall i hi => ?_, fun hall i hi => ?_⟩ Iff.rfl
  · have hlt := List.mem_range.mp hi
    have hstep := hall i (by omega)
    rwa [lawEntries_getD bytes (by omega), lawEntries_getD bytes (by omega), Nat.mul_add] at hstep
  · rw [lawEntries_getD bytes (by omega), lawEntries_getD bytes (by omega), Nat.mul_add]
    exact hall i (List.mem_range.mpr (by omega))

/-! ## The scan slots (R100, R101) -/

/-- The write of a slot ends its delivered high condition. -/
def endsHigh (r : Role) (p : ScanSlot × ScanSlot) : Bool := decide (p.1.cfg.role = r) && p.1.highCond && !p.2.highCond

/-- The live causes of the scan roles, some of them ended. -/
def LiveActivity.lessRoles (a : LiveActivity) (ended : Role → Bool) : LiveActivity :=
  { a with
    housing := a.housing && !ended .housing
    gate := a.gate && !ended .gate
    overcurrent := a.overcurrent && !ended .lampCurrent }

theorem LiveActivity.lessRoles_none {a : LiveActivity} {ended : Role → Bool} (h : ∀ r, ended r = false) :
    a.lessRoles ended = a := by
  simp [LiveActivity.lessRoles, h]

theorem LiveActivity.lessRoles_single (a : LiveActivity) (role : Role) : a.lessRoles (fun r => decide (role = r)) =
    match role.cause with
    | none => a
    | some c => a.put c false := by
  cases role <;> simp [LiveActivity.lessRoles, Role.cause, LiveActivity.put]

theorem State.tellInactive_eq (p : ScanSlot × ScanSlot) (s : State) : s.tellInactive p.1 p.2 =
    { s with prot := { s.prot with active := s.prot.active.lessRoles (endsHigh · p) } } := by
  by_cases hend : p.1.highCond = true ∧ p.2.highCond = false
  · have hroles : (endsHigh · p) = fun r => decide (p.1.cfg.role = r) := by
      funext r
      simp [endsHigh, hend]
    rw [hroles, LiveActivity.lessRoles_single]
    unfold State.tellInactive
    cases p.1.cfg.role.cause with
    | none => rfl
    | some c => exact if_pos hend
  · have hnone (r : Role) : endsHigh r p = false := by
      simpa [endsHigh] using fun _ => not_and.mp hend
    rw [LiveActivity.lessRoles_none hnone]
    unfold State.tellInactive
    cases p.1.cfg.role.cause with
    | none => rfl
    | some c => exact if_neg hend

theorem State.tellInactive_fold (l : List (ScanSlot × ScanSlot)) (s : State) :
    l.foldl (fun t p => t.tellInactive p.1 p.2) s =
      { s with prot := { s.prot with active := s.prot.active.lessRoles (fun r => l.any (endsHigh r)) } } := by
  induction l generalizing s with
  | nil => simp [LiveActivity.lessRoles]
  | cons p l ih =>
    rw [List.foldl_cons, ih, s.tellInactive_eq]
    simp [LiveActivity.lessRoles, Bool.and_assoc]

/-- The slots after slot n is written (R100, R101). -/
def writtenSlots (n : Nat) (cfg : SlotConfig) (i : Nat) (sl : ScanSlot) : ScanSlot :=
  if i = n then sl.written cfg else sl.loseRole cfg.role

theorem State.writeSlot_eq (n : Nat) (cfg : SlotConfig) (s : State) : s.writeSlot n cfg =
    { s with
      scan := { s.scan with slots := s.scan.slots.mapIdx (writtenSlots n cfg) }
      prot := { s.prot with active := s.prot.active.lessRoles (fun r =>
        (s.scan.slots.zip (s.scan.slots.mapIdx (writtenSlots n cfg))).any (endsHigh r)) } } :=
  State.tellInactive_fold _ _

theorem any_zip_mapIdx {α β : Type} (l : List α) (f : Nat → α → β) (p : α × β → Bool) {n : Nat} (hn : l.length = n) :
    (l.zip (l.mapIdx f)).any p = (List.range n).any (fun i => (l[i]?).any (fun a => p (a, f i a))) := by
  subst hn
  rw [Bool.eq_iff_iff, List.any_eq_true, List.any_eq_true]
  constructor
  · rintro ⟨⟨a, b⟩, hmem, hp⟩
    obtain ⟨i, hi, hget⟩ := List.mem_iff_getElem.mp hmem
    have hlt : i < l.length := by simpa using hi
    simp only [List.getElem_zip, List.getElem_mapIdx, Prod.mk.injEq] at hget
    obtain ⟨rfl, rfl⟩ := hget
    exact ⟨i, List.mem_range.mpr hlt, by simpa [hlt] using hp⟩
  · rintro ⟨i, hi, hp⟩
    have hlt : i < l.length := List.mem_range.mp hi
    refine ⟨(l[i], f i l[i]), List.mem_iff_getElem.mpr ⟨i, by simpa using hlt, by simp⟩, ?_⟩
    simpa [hlt] using hp

theorem roleOfCode_eq (n : Nat) : roleOfCode n = if n ≤ 5 then
    some ([Role.none, .housing, .gate, .lampCurrent, .supply, .cueLevel].getD n .none) else none := by
  by_cases hn : n ≤ 5
  · rw [if_pos hn]
    interval_cases n <;> rfl
  · unfold roleOfCode
    iterate 6 rw [if_neg (by omega)]
    rw [if_neg hn]

theorem slotWriteOk_iff (e : Nat) (old new : SlotConfig) : slotWriteOk e old new = true ↔
    new.input ≤ 5 ∧ e ≤ 1 ∧ new.offset ≤ 4095 ∧ new.low ≤ 4095 ∧ new.high ≤ 4095
      ∧ ¬(0 < new.low ∧ new.high < 4095 ∧ new.high ≤ new.low) ∧ (new.role = .none ∨ new.enable = true)
      ∧ (old.role = .housing → new.role = .housing ∧ new.enable = true) := by
  have hhousing : (old.role = .housing → new.role = .housing ∧ new.enable = true)
      ↔ (¬(old.role = .housing) ∨ new.role = .housing) ∧ (¬(old.role = .housing) ∨ new.enable = true) := by
    rw [← or_and_left, imp_iff_not_or]
  rw [hhousing]
  simp [slotWriteOk, and_assoc]
  intros
  omega

/-- The tests of R100 on a whole SCAN-SLOT string for the slot sl. -/
theorem State.applySlot_eq (bytes : List Byte) {s : State} (hlen : s.scan.slots.length = 8) {role : Role}
    (hrole : role = [Role.none, .housing, .gate, .lampCurrent, .supply, .cueLevel].getD (arg bytes 3) .none) :
    s.applySlot bytes =
      if arg bytes 3 ≤ 5 ∧ arg bytes 0 ≤ 7 ∧ arg bytes 10 = arg bytes 0
          ∧ ∀ sl, s.scan.slots[arg bytes 0]? = some sl → slotWriteOk (arg bytes 2) sl.cfg (slotConfigOf bytes role) = true then
        .ok (s.writeSlot (arg bytes 0) (slotConfigOf bytes role))
      else .refuse .badArg s := by
  unfold State.applySlot
  dsimp only
  rw [roleOfCode_eq, ← hrole]
  by_cases hcode : arg bytes 3 ≤ 5
  · rw [if_pos hcode]
    by_cases hslot : arg bytes 0 < s.scan.slots.length
    · rw [List.getElem?_eq_getElem hslot]
      refine if_congr ⟨?_, ?_⟩ rfl rfl
      · rintro ⟨h7, hsame, hok⟩
        refine ⟨hcode, h7, hsame, fun sl hsl => ?_⟩
        cases hsl
        exact hok
      · rintro ⟨_, h7, hsame, hok⟩
        exact ⟨h7, hsame, hok _ rfl⟩
    · rw [List.getElem?_eq_none (Nat.not_lt.mp hslot), if_neg (by omega)]
  · rw [if_neg hcode, if_neg (fun hno => hcode hno.1)]
    cases s.scan.slots[arg bytes 0]? <;> rfl

/-- Settles O44. -/
theorem sequencesWriteLawAndSlots : Obligations.SequencesWriteLawAndSlots := by
  constructor
  · intro h s args ht hpl opens
    exact ⟨fun hlen => linkCommand_accepts ht hpl hlen rfl rfl (State.settleFrom_quiet _ _ rfl rfl rfl rfl),
      fun hlen => linkCommand_accepts ht hpl hlen rfl rfl (State.settleFrom_quiet _ _ rfl rfl rfl rfl)⟩
  intro h s code args ht wrong
  obtain ⟨kind, hkind, hsend, hexec⟩ := execContinuationFrame_takes code args ht
  rw [hexec]
  refine ⟨fun hnone => congrArg Host.Outcome.next (State.takeContinuation_none hnone), ?_⟩
  intro q hseq fits b word
  rw [← hkind]
  have hfits : fits ↔ code.toNat = q.command.code ∧ args.length = 8 := by
    refine and_congr_left fun _ => ?_
    rw [← BitVec.toNat_inj]
    cases q.command <;> rfl
  have hword (i : Nat) : arg2 (q.bytes ++ args) i = word i :=
    congrArg (· + b (i + 1)) (Nat.mul_comm (b i) 256)
  have hpl3 (hpl : s.prot.pl < 3) : ¬3 ≤ s.framed.prot.pl := Nat.not_le.mpr hpl
  refine ⟨fun hne => ?_, fun heq hmis => ?_, fun heq hfit hmore => ?_, fun heq hfit hlast hpl => ?_,
    fun heq hfit hlast hpl hcmd => ?_, fun heq hfit hlast hpl hcmd hslots => ?_⟩
  · exact congrArg Host.Outcome.next (State.takeContinuation_otherKind hseq hne)
  · refine congrArg Host.Outcome.next (State.takeContinuation_misfit hseq heq ?_)
    rw [hfits] at hmis
    omega
  · rw [State.takeContinuation_more hseq heq (hfits.mp hfit) hmore, hsend]
    rfl
  · rw [State.takeContinuation_last hseq heq (hfits.mp hfit) hlast (if_pos hpl) s.framed.settleFrom_self, hsend]
  · intro law good
    have happly : s.framed.applySequence q.command (q.bytes ++ args)
        = if good then .ok { s.framed with law := law } else .refuse .badArg s.framed := by
      unfold State.applySequence
      rw [if_neg (hpl3 hpl), hcmd]
      have hlaw : lawEntries (q.bytes ++ args) = law := List.map_congr_left fun i _ => hword (2 * i)
      show State.applyLaw (q.bytes ++ args) s.framed = _
      unfold State.applyLaw
      dsimp only
      rw [← hlaw]
      refine if_congr ?_ rfl rfl
      simp only [lawOk_lawEntries, hword]
      rfl
    by_cases hgood : good
    · rw [if_pos hgood] at happly ⊢
      rw [State.takeContinuation_last hseq heq (hfits.mp hfit) hlast happly (State.settleFrom_quiet _ _ rfl rfl rfl rfl), hsend]
    · rw [if_neg hgood] at happly ⊢
      rw [State.takeContinuation_last hseq heq (hfits.mp hfit) hlast happly s.framed.settleFrom_self, hsend]
  · intro role cfg holdsHousing good after ends
    have hcfg : slotConfigOf (q.bytes ++ args) role = cfg := by
      simp only [slotConfigOf, hword, cfg]
      rfl
    have hok : (b 3 ≤ 5 ∧ b 0 ≤ 7 ∧ b 10 = b 0 ∧ ∀ sl, s.scan.slots[b 0]? = some sl →
        slotWriteOk (b 2) sl.cfg cfg = true) ↔ good := by
      constructor
      · rintro ⟨h3, h0, h10, hall⟩
        obtain ⟨sl, hsl⟩ : ∃ sl, s.scan.slots[b 0]? = some sl := ⟨_, List.getElem?_eq_getElem (by omega)⟩
        obtain ⟨h1, h2, hoff, hlow, hhigh, hpair, hen, _⟩ := (slotWriteOk_iff _ _ _).mp (hall sl hsl)
        exact ⟨h0, h10, h1, h2, h3, hoff, hlow, hhigh, hpair, hen, fun ⟨sl', hsl', hrole⟩ =>
          ((slotWriteOk_iff _ _ _).mp (hall sl' hsl')).2.2.2.2.2.2.2 hrole⟩
      · rintro ⟨h0, h10, h1, h2, h3, hoff, hlow, hhigh, hpair, hen, hhousing⟩
        exact ⟨h3, h0, h10, fun sl hsl => (slotWriteOk_iff _ _ _).mpr
          ⟨h1, h2, hoff, hlow, hhigh, hpair, hen, fun hrole => hhousing ⟨sl, hsl, hrole⟩⟩⟩
    have happly : s.framed.applySequence q.command (q.bytes ++ args)
        = if good then .ok (s.framed.writeSlot (b 0) cfg) else .refuse .badArg s.framed := by
      unfold State.applySequence
      rw [if_neg (hpl3 hpl), hcmd]
      refine ((s.framed.applySlot_eq (q.bytes ++ args) hslots rfl).trans (if_congr ?_ ?_ rfl))
      · rw [← hok, ← hcfg]
        rfl
      · rw [← hcfg]
        rfl
    refine ⟨fun hbad => ?_, fun hgood => ?_⟩
    · rw [if_neg hbad] at happly
      rw [State.takeContinuation_last hseq heq (hfits.mp hfit) hlast happly s.framed.settleFrom_self, hsend]
    · rw [if_pos hgood] at happly
      have hends (r : Role) : (s.framed.scan.slots.zip (s.framed.scan.slots.mapIdx (writtenSlots (b 0) cfg))).any (endsHigh r)
          = ends r := any_zip_mapIdx _ _ _ hslots
      have hquiet : s.framed.settleFrom (s.framed.writeSlot (b 0) cfg) = s.framed.writeSlot (b 0) cfg := by
        rw [State.writeSlot_eq]
        exact State.settleFrom_quiet _ _ rfl rfl rfl rfl
      rw [State.takeContinuation_last hseq heq (hfits.mp hfit) hlast happly hquiet, hsend, State.writeSlot_eq]
      simp only [hends]
      rfl

end Sys2Proof.Machine
end

section
/-! The tape's travel, its end sensors and its commands (R108 to R115, R134). -/

namespace Sys2Proof.Machine

/-! ## Travel and the end sensors (R108 to R110, R115) -/

theorem TransportState.driven_iff (st : TransportState) : st.driven = true ↔ st ∈ [.play, .fastFwd, .rewind, .seek] := by
  cases st <;> simp [TransportState.driven]

theorem TransportState.mode_of_driven {st : TransportState} (h : st.driven = true) : st.mode ≠ .off := by
  cases st <;> simp_all [TransportState.driven, TransportState.mode]

/-- The tape stands still, with a cause, once the transport was decoding. -/
theorem State.tapeEnds_eq {st : TransportState} (hst : st = .stopped ∨ st = .ended) {s : State}
    (hmode : s.tape.state.mode ≠ .off) (why : StopCause) : s.tapeEnds st why = { s with
      tape := { s.tape with
        state := st, pause := noPause, tachDue := none, seekTarget := none, lastStop := why }
      dec := { s.dec with trackers := idleTrackers } } := by
  have hoff : (st.mode = s.tape.state.mode) = False := by
    rw [eq_iff_iff, iff_false]
    obtain rfl | rfl := hst <;> exact hmode.symm
  unfold State.tapeEnds State.setTransport
  simp only [hoff, if_false]
  obtain rfl | rfl := hst <;> rfl

theorem tapeMove_eq (d : Direction) (n : Nat) :
    tapeMove d n = if decide (d = .forward) = true then min (n + 1) 65535 else n - 1 := by
  cases d <;> simp [tapeMove]

theorem seekArrived_iff (d : Direction) (n target : Nat) :
    seekArrived d n target = true ↔ if decide (d = .forward) = true then target ≤ n else n ≤ target := by
  cases d <;> simp [seekArrived]

theorem State.atLeader_eq {s : State} (hmode : s.tape.state.mode ≠ .off) : s.atLeader = { s with
    tape := { s.tape with
      state := .stopped, counter := 0, pause := noPause, tachDue := none, seekTarget := none, lastStop := .leader }
    dec := { s.dec with trackers := idleTrackers } } :=
  State.tapeEnds_eq (s := { s with tape := { s.tape with counter := 0 } }) (.inl rfl) hmode .leader

/-- What a pulse of the tape tach makes of the counter and the tach timer (R108, R109). -/
def State.travels (s : State) : State := { s with tape := { s.tape with
  counter := tapeMove s.tape.direction s.tape.counter
  tachDue := if s.tape.state.driven then some (s.clock + secs 1) else s.tape.tachDue } }

theorem execTapeTachPulse_plain {s : State} (hpresent : s.tape.state ≠ .noCassette) (hseek : s.tape.state ≠ .seek) :
    execTapeTachPulse s = .next s.travels := by
  unfold execTapeTachPulse
  rw [if_neg hpresent]
  dsimp only
  split
  · next hst _ => exact absurd hst hseek
  · rfl

theorem execTapeTachPulse_seek {s : State} (hseek : s.tape.state = .seek) {target : Nat}
    (htarget : s.tape.seekTarget = some target) : execTapeTachPulse s = .next
      (if seekArrived s.tape.direction s.travels.tape.counter target then s.travels.tapeEnds .stopped .seekArrived
      else s.travels) := by
  unfold execTapeTachPulse
  rw [if_neg (by rw [hseek]; decide)]
  dsimp only
  split
  · next target' htarget' =>
    cases htarget.symm.trans htarget'
    rfl
  · next hno => exact absurd htarget (hno target hseek)

/-- Settles O36. -/
theorem tapeTachAndEndSensors : Obligations.TapeTachAndEndSensors := by
  intro s forward driven n moved arrived idle ends
  have hdriven : s.tape.state.driven = true ↔ driven := s.tape.state.driven_iff
  have hn : tapeMove s.tape.direction s.tape.counter = n := tapeMove_eq _ _
  have harrived (target : Nat) : seekArrived s.tape.direction n target = true ↔ arrived target := seekArrived_iff _ _ _
  have hmoved : s.travels = moved := by
    simp only [State.travels, hn, hdriven]
    rfl
  refine ⟨fun hno => if_pos hno, fun hno hseek => ?_, fun hseek target htarget hat => ?_,
    fun hseek target htarget hat => ?_, fun leader trailer hnone => ?_, fun hd due hdue leader trailer => ?_, ?_⟩
  · exact (execTapeTachPulse_plain hno hseek).trans (congrArg Host.Outcome.next hmoved)
  · refine (execTapeTachPulse_seek hseek htarget).trans (congrArg Host.Outcome.next ?_)
    rw [hmoved, if_pos (show seekArrived s.tape.direction moved.tape.counter target = true from (harrived target).mpr hat),
      State.tapeEnds_eq (.inl rfl) (by
      show s.tape.state.mode ≠ .off
      rw [hseek]
      decide)]
    rfl
  · refine (execTapeTachPulse_seek hseek htarget).trans (congrArg Host.Outcome.next ?_)
    rw [hmoved]
    exact if_neg (mt (harrived target).mp hat)
  · show execTapeTachTimerExpiry leader trailer s = _
    unfold execTapeTachTimerExpiry
    cases hdue : s.tape.tachDue with
    | none => rfl
    | some due =>
      obtain hno | hno := hnone
      · rw [hdue] at hno
        cases hno
      · exact if_neg (mt hdriven.mp hno)
  · have hmode : s.tape.state.mode ≠ .off := TransportState.mode_of_driven (hdriven.mpr hd)
    show execTapeTachTimerExpiry leader trailer s = _
    unfold execTapeTachTimerExpiry
    simp only [hdue, hdriven.mpr hd, if_true]
    have hends {st : TransportState} (hst : st = .stopped ∨ st = .ended) (why : StopCause) :
        (s.reachAt due).tapeEnds st why = ends (max s.clock due) s.tape.counter st why false :=
      State.tapeEnds_eq (s := s.reachAt due) hst hmode why
    rw [hends (.inl rfl), hends (.inr rfl), State.atLeader_eq (s := s.reachAt due) hmode]
    cases hdir : s.tape.direction with
    | forward =>
      rw [if_pos (show forward = true from decide_eq_true hdir)]
      cases trailer <;> rfl
    | reverse =>
      rw [if_neg (show ¬forward = true by simp [forward, hdir])]
      cases leader <;> rfl
  · have hleader (hmode : s.tape.state.mode ≠ .off) : s.atLeader = ends s.clock 0 .stopped .leader false :=
      State.atLeader_eq hmode
    show execLeaderReached s = _
    unfold execLeaderReached
    cases hst : s.tape.state
    case rewind => exact congrArg Host.Outcome.next (hleader (by rw [hst]; decide))
    case seek =>
      cases hdir : s.tape.direction with
      | forward =>
        exact congrArg Host.Outcome.next (if_neg (by simp [forward, hdir])).symm
      | reverse =>
        refine congrArg Host.Outcome.next ((hleader (by rw [hst]; decide)).trans (if_pos (by simp [forward, hdir])).symm)
    all_goals exact congrArg Host.Outcome.next (if_neg (by simp)).symm

/-! ## The link TAPE and SEEK-CUE (R111 to R115, R134) -/

/-- The transport enters a state; the trackers stay where the decoding mode does. -/
def State.entersTape (st : TransportState) (d : Direction) (pause : PauseSet) (seek : Option Nat) (sameMode : Bool)
    (s : State) : State :=
  { s with
    tape := { s.tape with
      state := st, direction := d, pause := pause, seekTarget := seek
      tachDue := if st ∈ [.play, .fastFwd, .rewind, .seek] then some (s.clock + 1000000) else none }
    dec := if sameMode then s.dec else { s.dec with trackers := idleTrackers } }

theorem State.setTransport_eq (st : TransportState) (s : State) : s.setTransport st =
    s.entersTape st (st.directionFrom s.tape.direction) (if st.playing then s.tape.pause else noPause)
      (if st = .seek then s.tape.seekTarget else none) (decide (st.mode = s.tape.state.mode)) := by
  unfold State.setTransport State.entersTape
  simp only [TransportState.driven_iff, decide_eq_true_eq]
  rfl

/-- The tape stops in place with a cause. -/
def State.stopsTape (why : StopCause) (s : State) : State :=
  let u := s.entersTape .stopped s.tape.direction noPause none (decide (s.tape.state ∈ [.stopped, .ended]))
  { u with tape := { u.tape with lastStop := why } }

theorem TransportState.mode_off_iff {st : TransportState} (h : st ≠ .noCassette) :
    st.mode = .off ↔ st ∈ [.stopped, .ended] := by
  cases st <;> simp_all [TransportState.mode]

theorem TransportState.mode_search_iff (st : TransportState) : st.mode = .search ↔ st ∈ [.fastFwd, .rewind, .seek] := by
  cases st <;> simp [TransportState.mode]

theorem State.tapeEnds_stopped {s : State} (hpresent : s.tape.state ≠ .noCassette) (why : StopCause) :
    s.tapeEnds .stopped why = s.stopsTape why := by
  unfold State.tapeEnds State.stopsTape
  rw [State.setTransport_eq]
  have hoff : decide (TransportState.stopped.mode = s.tape.state.mode) = decide (s.tape.state ∈ [.stopped, .ended]) :=
    decide_eq_decide.mpr (eq_comm.trans (TransportState.mode_off_iff hpresent))
  rw [hoff]
  rfl

theorem State.setTransport_search {st : TransportState} (hst : st.mode = .search) (s : State) : s.setTransport st =
    s.entersTape st (st.directionFrom s.tape.direction) noPause (if st = .seek then s.tape.seekTarget else none)
      (decide (s.tape.state ∈ [.fastFwd, .rewind, .seek])) := by
  have hsearch : decide (st.mode = s.tape.state.mode) = decide (s.tape.state ∈ [.fastFwd, .rewind, .seek]) := by
    rw [hst]
    exact decide_eq_decide.mpr (eq_comm.trans s.tape.state.mode_search_iff)
  have hstill : ¬st.playing = true := by
    cases st <;> simp_all [TransportState.mode, TransportState.playing]
  rw [State.setTransport_eq, if_neg hstill, hsearch]

theorem State.tapeOp_stop {s : State} (hpresent : s.tape.state ≠ .noCassette) :
    s.tapeOp .stop = if s.tape.state = .stopped then s else s.stopsTape .command := by
  rw [← s.tapeEnds_stopped hpresent]
  unfold State.tapeOp State.stopTape
  cases hst : s.tape.state
  case noCassette => exact absurd hst hpresent
  all_goals rfl

theorem State.tapeOp_warned {op : TapeOp} {s : State} (hwarn : s.cool.warning = true) (hop : op ≠ .stop) :
    s.tapeOp op = s := by
  cases op
  case stop => exact absurd rfl hop
  all_goals exact if_pos hwarn

section Drives
variable {s : State} (hpresent : s.tape.state ≠ .noCassette) (hwarn : s.cool.warning = false)
include hwarn

theorem State.tapeOp_play_play (hst : s.tape.state = .play) : s.tapeOp .play = s := by
  unfold State.tapeOp
  simp only [hwarn, hst, Bool.false_eq_true, if_false]

/-- PLAY on a paused tape takes the CUE-STOP reason away (R113). -/
theorem State.tapeOp_play_paused (hst : s.tape.state = .paused) : s.tapeOp .play =
    if s.tape.pause.cueStop = false then s
    else if { s.tape.pause with cueStop := false } = noPause then s.entersTape .play .forward noPause none true
    else { s with tape := { s.tape with pause := { s.tape.pause with cueStop := false } } } := by
  have hplay : s.tapeOp .play = s.removeReason .cueStop := by
    unfold State.tapeOp
    simp only [hwarn, hst, Bool.false_eq_true, if_false]
  have hplaying : s.tape.state.playing = true := by rw [hst]; rfl
  rw [hplay]
  unfold State.removeReason
  by_cases hset : s.tape.pause.cueStop = false
  · rw [if_pos hset, if_neg (by simp [PauseSet.get, hset])]
    rfl
  · rw [if_neg hset, if_pos ⟨hplaying, by simpa [PauseSet.get] using hset⟩]
    refine if_ctx_congr Iff.rfl (fun hleft => ?_) fun _ => rfl
    rw [State.setTransport_eq]
    have hmode : decide (TransportState.play.mode = s.tape.state.mode) = true := by rw [hst]; rfl
    show s.entersTape .play .forward { s.tape.pause with cueStop := false } none
      (decide (TransportState.play.mode = s.tape.state.mode)) = _
    rw [hmode, show ({ s.tape.pause with cueStop := false } : PauseSet) = noPause from hleft]

/-- PLAY elsewhere builds the set of pause reasons from the standing ones (R111). -/
theorem State.tapeOp_play_enters (hpresent : s.tape.state ≠ .noCassette) (hplay : s.tape.state ≠ .play)
    (hpaused : s.tape.state ≠ .paused) : s.tapeOp .play =
      s.entersTape (if s.tape.standing.toPause = noPause then .play else .paused) .forward s.tape.standing.toPause none
        false := by
  have henter : s.tapeOp .play = s.enterPlay := by
    unfold State.tapeOp
    rw [hwarn]
    dsimp only
    split <;> simp_all
  have hmode {st : TransportState} (hst : st.playing = true) : decide (st.mode = s.tape.state.mode) = false := by
    cases st <;> cases hs : s.tape.state <;> simp_all [TransportState.playing, TransportState.mode]
  rw [henter]
  unfold State.enterPlay
  dsimp only
  by_cases hset : s.tape.standing.toPause = noPause
  · rw [if_pos hset, State.setTransport_eq, hmode rfl]
    rfl
  · rw [if_neg hset, State.setTransport_eq, hmode rfl]
    rfl

include hpresent

theorem State.tapeOp_fastFwd : s.tapeOp .fastFwd = if s.tape.state = .fastFwd then s
    else s.entersTape .fastFwd .forward noPause none (decide (s.tape.state ∈ [.fastFwd, .rewind, .seek])) := by
  have hset : s.tapeOp .fastFwd = if s.tape.state = .fastFwd then s else s.setTransport .fastFwd := by
    unfold State.tapeOp
    rw [hwarn]
    cases hst : s.tape.state
    case noCassette => exact absurd hst hpresent
    all_goals rfl
  rw [hset, State.setTransport_search rfl]
  rfl

theorem State.tapeOp_rewind : s.tapeOp .rewind = if s.tape.state = .rewind then s
    else s.entersTape .rewind .reverse noPause none (decide (s.tape.state ∈ [.fastFwd, .rewind, .seek])) := by
  have hset : s.tapeOp .rewind = if s.tape.state = .rewind then s else s.setTransport .rewind := by
    unfold State.tapeOp
    rw [hwarn]
    cases hst : s.tape.state
    case noCassette => exact absurd hst hpresent
    all_goals rfl
  rw [hset, State.setTransport_search rfl]
  rfl

end Drives

theorem State.beginSeek_eq {s : State} (hpresent : s.tape.state ≠ .noCassette) (target : Nat) : s.beginSeek target =
    if s.tape.counter = target then s.stopsTape .seekArrived
    else s.entersTape .seek (if s.tape.counter < target then .forward else .reverse) noPause (some target)
      (decide (s.tape.state ∈ [.fastFwd, .rewind, .seek])) := by
  rw [← s.tapeEnds_stopped hpresent]
  unfold State.beginSeek
  rw [State.setTransport_search (st := .seek) rfl]
  rfl

section Answers
variable {h : Header} {s : State} (ht : s.takes h) (hpl : s.prot.pl < 3)
include ht hpl

theorem execTape_moves {v : Byte} {op : TapeOp} (hop : tapeOpOfCode v.toNat = some op)
    (hpresent : s.tape.state ≠ .noCassette) (hrun : s.cool.power = .coolingDown → op = .stop) :
    exec (.tape h [v]) s = .next (State.replied h .accepted [] (s.framed.tapeOp op)) := by
  have hcode : tapeOpOfCode (arg [v] 0) = some op := hop
  have hstandby : ¬(s.framed.cool.power = .coolingDown ∧ op ≠ .stop) := fun hno => hno.2 (hrun hno.1)
  refine linkCommand_accepts ht hpl rfl rfl ?_
    (State.settleFrom_of_frame (State.tapeOp_frame op _) (by decide)
      (congrArg (·.queues.panel) (State.tapeOp_frame op s.framed .arb (by decide))))
  simp only [hcode]
  exact (if_neg hpresent).trans (if_neg hstandby)

theorem execSeekCue_entry {n : Byte} {e : CueEntry} (hpresent : s.tape.state ≠ .noCassette)
    (hrun : s.cool.power ≠ .coolingDown) (hentry : s.entryOfOrdinal n.toNat = some e) :
    exec (.seekCue h [n]) s = .next (State.replied h .accepted []
      (if s.cool.warning = true then s.framed else s.framed.beginSeek (e.position - s.items.preroll))) := by
  have hcode : s.framed.entryOfOrdinal (arg [n] 0) = some e := hentry
  have hframe : s.framed.onlyChanges [.tape, .dec]
      (if s.cool.warning = true then s.framed else s.framed.beginSeek (e.position - s.items.preroll)) := by
    split
    · exact .refl _ _
    · exact State.beginSeek_frame _ _
  refine linkCommand_accepts ht hpl rfl rfl ?_ (State.settleFrom_of_frame hframe (by decide)
    (congrArg (·.queues.panel) (hframe .arb (by decide))))
  simp only [hcode]
  refine (if_neg hpresent).trans ((if_neg hrun).trans ?_)
  exact (apply_ite Answer.ok _ _ _).symm

end Answers

theorem tapeOpOfCode_lt {n : Nat} (h : n < 4) : ∃ op, tapeOpOfCode n = some op ∧ (op = .stop ↔ n = 1) := by
  interval_cases n <;> exact ⟨_, rfl, by decide⟩

/-- Settles O37. -/
theorem tapeCommandsMoveTheTape : Obligations.TapeCommandsMoveTheTape := by
  intro h s ht hpl idle enter none4 off search stopped present moves
  refine ⟨fun v => ⟨fun hv => ?_, fun hv hno => ?_, fun hv hp hstop hcool => ?_, fun hv hm hstop hwarn => ?_⟩,
    fun hp => ?_, fun hm hwarn => ⟨?_, ?_⟩, fun hm hwarn hst => ?_, fun hm hwarn hst => ?_, fun hm hwarn hplay hpaused => ?_,
    fun n => ⟨fun hno => ?_, fun hp hcool => ?_, fun hm hn => ?_, fun hm hn e he => ?_⟩⟩
  · refine linkCommand_bodyRefuses ht hpl rfl rfl ?_
    have hcode : tapeOpOfCode (arg [v] 0) = none := by
      show tapeOpOfCode v.toNat = none
      unfold tapeOpOfCode
      iterate 4 rw [if_neg (by omega)]
    simp only [hcode]
  · obtain ⟨op, hop, _⟩ := tapeOpOfCode_lt hv
    refine linkCommand_bodyRefuses ht hpl rfl rfl ?_
    have hcode : tapeOpOfCode (arg [v] 0) = some op := hop
    simp only [hcode]
    exact if_pos (not_not.mp hno)
  · obtain ⟨op, hop, hone⟩ := tapeOpOfCode_lt hv
    refine linkCommand_bodyRefuses ht hpl rfl rfl ?_
    have hcode : tapeOpOfCode (arg [v] 0) = some op := hop
    simp only [hcode]
    exact (if_neg hp).trans (if_pos ⟨hcool, fun hno => hstop (BitVec.eq_of_toNat_eq (hone.mp hno))⟩)
  · obtain ⟨op, hop, hone⟩ := tapeOpOfCode_lt hv
    have hmoves : op ≠ .stop := fun hno => hstop (BitVec.eq_of_toNat_eq (hone.mp hno))
    rw [execTape_moves ht hpl hop hm.1 fun hno => absurd hno hm.2, State.tapeOp_warned (s := s.framed) hwarn hmoves]
  · rw [execTape_moves ht hpl (op := .stop) rfl hp fun _ => rfl, State.tapeOp_stop (s := s.framed) hp]
    rfl
  · rw [execTape_moves ht hpl (op := .fastFwd) rfl hm.1 fun hno => absurd hno hm.2,
      State.tapeOp_fastFwd (s := s.framed) hm.1 hwarn]
    rfl
  · rw [execTape_moves ht hpl (op := .rewind) rfl hm.1 fun hno => absurd hno hm.2,
      State.tapeOp_rewind (s := s.framed) hm.1 hwarn]
    rfl
  · rw [execTape_moves ht hpl (op := .play) rfl hm.1 fun hno => absurd hno hm.2,
      State.tapeOp_play_play (s := s.framed) hwarn hst]
  · intro left
    rw [execTape_moves ht hpl (op := .play) rfl hm.1 fun hno => absurd hno hm.2,
      State.tapeOp_play_paused (s := s.framed) hwarn hst]
    rfl
  · intro set
    rw [execTape_moves ht hpl (op := .play) rfl hm.1 fun hno => absurd hno hm.2,
      State.tapeOp_play_enters (s := s.framed) hwarn hm.1 hplay hpaused]
    rfl
  · exact linkCommand_bodyRefuses ht hpl rfl rfl (if_pos (not_not.mp hno))
  · exact linkCommand_bodyRefuses ht hpl rfl rfl ((if_neg hp).trans (if_pos hcool))
  · have hnone : s.framed.entryOfOrdinal (arg [n] 0) = none :=
      State.entryOfOrdinal_eq_none (hn.imp_left (congrArg BitVec.toNat))
    refine linkCommand_bodyRefuses ht hpl rfl rfl ((if_neg hm.1).trans ((if_neg hm.2).trans ?_))
    rw [hnone]
  · have hpos : n.toNat ≠ 0 := fun hz => hn (BitVec.eq_of_toNat_eq hz)
    have hentry : s.entryOfOrdinal n.toNat = some e := (if_neg hpos).trans he
    intro target
    rw [execSeekCue_entry ht hpl hm.1 hm.2 hentry, State.beginSeek_eq (s := s.framed) hm.1]
    refine ⟨fun hwarn => ?_, fun hwarn hat => ?_, fun hwarn haway => ?_⟩
    · rw [if_pos hwarn]
    · rw [hwarn, if_neg (by decide), if_pos (show s.framed.tape.counter = e.position - s.items.preroll from hat)]
      rfl
    · rw [hwarn, if_neg (by decide), if_neg (show ¬s.framed.tape.counter = e.position - s.items.preroll from haway)]
      rfl

end Sys2Proof.Machine
end

section
/-! The usage counters, SET-COUNTER, SAVE and the store (R182 to R187). -/

namespace Sys2Proof.Machine

/-! ## What a counter brings about -/

/-- A step that leaves the drive, the readiness for OFF and the fan duty settles the life mark alone. -/
theorem State.settleFrom_life {s t : State} (hd : t.drive = s.drive) (ho : t.offReady = s.offReady)
    (hu : t.duty = s.duty) : s.settleFrom t = t.lifeChanged s.lifeMark := by
  have hdrive : t.driveChanged s.drive = t := State.driveChanged_stays (by rw [hd])
  have hoff : t.offChanged s.offReady = t := by
    rw [← ho, State.offChanged, if_neg (by simp)]
  have hduty : t.dutyChanged s.duty = t := by
    rw [← hu, State.dutyChanged, if_neg (c := t.duty < 30 ∧ 30 ≤ t.duty) (by omega),
      if_neg (c := 30 ≤ t.duty ∧ t.duty < 30) (by omega)]
    exact ite_self t
  rw [State.settleFrom, hdrive, hoff, hduty]

/-- A step that leaves the blocks of the lamp, the changer and the requests settles the life mark alone. -/
theorem State.settleFrom_of_counts {bs : List Block} {s t : State} (h : s.onlyChanges bs t)
    (hreads : ∀ b ∈ [Block.fade, .lamp, .cool, .items, .prot, .changer, .arb], b ∉ bs) :
    s.settleFrom t = t.lifeChanged s.lifeMark := by
  have hfade : t.fade = s.fade := h .fade (hreads .fade (by decide))
  have hlamp : t.lamp = s.lamp := h .lamp (hreads .lamp (by decide))
  have hcool : t.cool = s.cool := h .cool (hreads .cool (by decide))
  have hitems : t.items = s.items := h .items (hreads .items (by decide))
  have hprot : t.prot = s.prot := h .prot (hreads .prot (by decide))
  have hchanger : t.changer = s.changer := h .changer (hreads .changer (by decide))
  have harb : t.arb = s.arb := h .arb (hreads .arb (by decide))
  have hdrive : t.drive = s.drive := by
    apply State.drive_congr <;> simp only [hfade, hlamp, hcool, hitems, hprot]
  refine State.settleFrom_life hdrive ?_ (State.duty_congr hcool hitems hprot hdrive)
  simp only [State.offReady, State.changerFree, hcool, hchanger, harb]

theorem State.lifeChanged_frame (before : Bool) (s : State) : s.onlyChanges [.link] (s.lifeChanged before) :=
  s.raiseFlagIf_frame _ _

theorem State.lifeChanged_counterFlag (before : Bool) (s : State) :
    (s.lifeChanged before).link.flags.counter = s.link.flags.counter := by
  unfold State.lifeChanged State.raiseFlagIf
  split <;> rfl

theorem State.lifeChanged_reached {before : Bool} {s : State} (hbefore : before = false) (hmark : s.lifeMark = true) :
    (s.lifeChanged before).link.flags.lamp = true := by
  unfold State.lifeChanged State.raiseFlagIf
  rw [hbefore, hmark]
  rfl

/-- A counter that gains 1 where the condition holds. -/
def Counter.gainIf (on : Bool) (c : Counter) : Counter := if on then c.gain else c

/-- The counter wraps where the condition holds. -/
def Counter.wrapsIf (on : Bool) (c : Counter) : Bool := on && decide (counterMax ≤ c.value)

theorem Counter.gainIf_true {on : Bool} (h : on = true) (c : Counter) : c.gained (c.gainIf on) := by
  have hmax : c.value ≥ counterMax ↔ ¬c.value < 4294967295 := Nat.not_lt.symm
  unfold Counter.gained Counter.gainIf Counter.gain
  rw [if_pos h]
  split_ifs <;> first | rfl | omega

theorem State.gainCounterIf_eq (on : Bool) (i : CounterIndex) (s : State) : s.gainCounterIf on i = { s with
    usage := { s.usage with counters := s.usage.counters.put i ((s.usage.counters.get i).gainIf on) }
    link := { s.link with flags := { s.link.flags with
      counter := s.link.flags.counter || (s.usage.counters.get i).wrapsIf on } } } := by
  unfold State.gainCounterIf State.gainCounter State.raiseFlagIf State.raiseFlag
  cases on with
  | false =>
    have hput : s.usage.counters.put i (s.usage.counters.get i) = s.usage.counters := by cases i <;> rfl
    simp [Counter.gainIf, Counter.wrapsIf, hput]
  | true =>
    by_cases hwrap : counterMax ≤ (s.usage.counters.get i).value <;>
      simp [Counter.gainIf, Counter.wrapsIf, hwrap, State.putCounter, Attention.put]

/-- A minute of the condition is full at this tick (R182). -/
def minuteFull (on : Bool) (acc : Nat) : Bool := on && decide (59 ≤ acc)

theorem minuteTick_eq (on : Bool) (acc : Nat) :
    minuteTick on acc = (if on then (if 60 ≤ acc + 1 then 0 else acc + 1) else acc, minuteFull on acc) := by
  have hfull : 60 ≤ acc + 1 ↔ 59 ≤ acc := by omega
  unfold minuteTick minuteFull
  cases on with
  | false => rfl
  | true => by_cases h : 59 ≤ acc <;> simp [h, hfull]

theorem femTick_eq (e acc : Nat) : femTick e acc =
    (if 60000 ≤ acc + e then acc + e - 60000 else acc + e, decide (60000 ≤ acc + e)) := by
  unfold femTick
  split_ifs with h <;> simp [h]

/-- The counters and accumulators at a second tick (R182, R183), before a save of LAMP-MIN. -/
def State.ticked (s : State) : State :=
  let fem := decide (60000 ≤ s.usage.femAcc + s.effective)
  let lamp := minuteFull (decide (0 < s.drive)) s.usage.lampAcc
  let fan := minuteFull (decide (0 < s.duty)) s.usage.fanAcc
  let tape := minuteFull (decide (s.tape.state = .play)) s.usage.tapeAcc
  let c := s.usage.counters
  { s with
    usage := { s.usage with
      uptime := s.usage.uptime + 1
      femAcc := if 60000 ≤ s.usage.femAcc + s.effective then s.usage.femAcc + s.effective - 60000
        else s.usage.femAcc + s.effective
      lampAcc := if 0 < s.drive then (if 60 ≤ s.usage.lampAcc + 1 then 0 else s.usage.lampAcc + 1) else s.usage.lampAcc
      fanAcc := if 0 < s.duty then (if 60 ≤ s.usage.fanAcc + 1 then 0 else s.usage.fanAcc + 1) else s.usage.fanAcc
      tapeAcc := if s.tape.state = .play then (if 60 ≤ s.usage.tapeAcc + 1 then 0 else s.usage.tapeAcc + 1)
        else s.usage.tapeAcc
      counters := { c with
        lampFem := c.lampFem.gainIf fem, lampMin := c.lampMin.gainIf lamp, fanMin := c.fanMin.gainIf fan
        tapeMin := c.tapeMin.gainIf tape } }
    link := { s.link with flags := { s.link.flags with counter := s.link.flags.counter || (c.lampFem.wrapsIf fem ||
      (c.lampMin.wrapsIf lamp || (c.fanMin.wrapsIf fan || c.tapeMin.wrapsIf tape))) } } }

theorem State.tickCounters_eq (s : State) : s.tickCounters =
    if minuteFull (decide (0 < s.drive)) s.usage.lampAcc = true ∧ s.ticked.usage.counters.lampMin.value % 10 = 0 then
      s.ticked.requestCounterSave
    else s.ticked := by
  have hplay : (s.tape.state == .play) = decide (s.tape.state = .play) := rfl
  unfold State.tickCounters
  simp only [hplay, minuteTick_eq, femTick_eq, State.gainCounterIf_eq, Bool.or_assoc, decide_eq_true_eq]
  rfl

/-! ## SET-COUNTER (R184) -/

/-- The counter of an index byte, in the order of section 12.1. -/
theorem counterOfIndex_lt {n : Nat} (h : n < 8) : ∃ i, counterOfIndex n = some i
    ∧ (∀ c : Counters, c.all[n]? = some (c.get i)) ∧ ∀ (c : Counters) (v : Counter), (c.put i v).all = c.all.set n v := by
  interval_cases n <;> exact ⟨_, rfl, fun _ => rfl, fun _ _ => rfl⟩

theorem counterOfIndex_none {n : Nat} (h : 8 ≤ n) : counterOfIndex n = none := by
  unfold counterOfIndex
  iterate 8 rw [if_neg (by omega)]

theorem State.putCounter_frame (i : CounterIndex) (v : Counter) (s : State) : s.onlyChanges [.usage] (s.putCounter i v) := by
  intro b hb; cases b <;> first | rfl | simp at hb

theorem State.makeDueReset_of_held {s : State} (h : s.resetHeldUp = true) : s.makeDueReset = s := by
  obtain hsame | ⟨_, _, hfree, _⟩ := s.makeDueReset_cases
  · exact hsame.1
  · rw [h] at hfree
    cases hfree

/-- The moment of a second tick, from which the next one is due (R182). -/
def State.atTick (s : State) : State := { s with
  clock := max s.clock s.usage.secondDue
  usage := { s.usage with secondDue := s.usage.secondDue + 1000000 } }

/-- Settles O41. -/
theorem countersAreKeptAndSaved : Obligations.CountersAreKeptAndSaved := by
  refine ⟨?_, fun h s i a b c d keep ht hpl => ⟨fun hbad => ?_, fun hi hkeep old hold => ?_⟩, ?_⟩
  · intro s fem next gains c
    have hcounts : s.onlyChanges [.clock, .usage, .store, .link] s.atTick.tickCounters := by
      have hstart : s.onlyChanges [.clock, .usage] s.atTick := by
        intro b hb; cases b <;> first | rfl | simp at hb
      exact hstart.andThen (State.tickCounters_frame _) (by decide) (by decide)
    have hlife := State.lifeChanged_frame s.lifeMark s.atTick.tickCounters
    have hticked : s.atTick.ticked.onlyChanges [.store] s.atTick.tickCounters := by
      rw [State.tickCounters_eq]
      split
      · exact State.requestCounterSave_frame _
      · exact .refl _ _
    have husage : (s.atTick.tickCounters.lifeChanged s.lifeMark).usage = s.atTick.ticked.usage :=
      Eq.trans (hlife .usage (by decide)) (hticked .usage (by decide))
    have hflag : (s.atTick.tickCounters.lifeChanged s.lifeMark).link.flags.counter = s.atTick.ticked.link.flags.counter :=
      (State.lifeChanged_counterFlag _ _).trans (congrArg (·.flags.counter) (hticked .link (by decide)))
    have hstore : (s.atTick.tickCounters.lifeChanged s.lifeMark).store = s.atTick.tickCounters.store := hlife .store (by decide)
    have hgains {on : Prop} (_ : Decidable on) {b : Bool} (hb : b = true ↔ on) (k : Counter) :
        if on then k.gained (k.gainIf b) else k.gainIf b = k := by
      split_ifs with hon
      · exact Counter.gainIf_true (hb.mpr hon) k
      · exact if_neg (mt hb.mp hon)
    have hfull {on : Prop} (_ : Decidable on) (acc : Nat) : minuteFull (decide on) acc = true ↔ on ∧ 59 ≤ acc := by
      simp [minuteFull]
    refine ⟨s.atTick.tickCounters.lifeChanged s.lifeMark,
      congrArg Host.Outcome.next (State.settleFrom_of_counts hcounts (by decide)), ?_⟩
    rw [husage, hflag, hstore, State.lifeChanged_frame _ _ .clock (by decide)]
    refine ⟨rfl, rfl, rfl, rfl, rfl, rfl, hgains _ (by rw [decide_eq_true_iff]; rfl) _, hgains _ (hfull _ _) _,
      hgains _ (hfull _ _) _, hgains _ (hfull _ _) _, rfl, rfl, rfl, rfl, fun hbelow hreached => ?_, ?_, fun hsave => ?_,
      fun hno => ?_, ?_, ?_⟩
    · have hbefore : s.lifeMark = false := decide_eq_false (Nat.not_le.mpr hbelow)
      have hmark : s.atTick.tickCounters.lifeMark = true := by
        unfold State.lifeMark
        rw [hcounts .items (by decide), hticked .usage (by decide)]
        exact decide_eq_true hreached
      exact State.lifeChanged_reached hbefore hmark
    · refine congrArg (s.link.flags.counter || ·) ?_
      rw [Bool.eq_iff_iff]
      simp only [Counter.wrapsIf, minuteFull, Bool.or_eq_true, Bool.and_eq_true, decide_eq_true_iff, and_assoc]
      rfl
    · obtain ⟨hlit, hacc, hten⟩ := hsave
      have hasks : s.atTick.tickCounters = s.atTick.ticked.requestCounterSave :=
        (State.tickCounters_eq _).trans (if_pos ⟨(hfull _ _).mpr ⟨hlit, hacc⟩, hten⟩)
      rw [hasks]
      split_ifs with hnone
      · exact State.requestCounterSave_saving _
      · exact congrArg State.store (if_pos (show s.store.saving.isSome = true from Option.isSome_iff_ne_none.mpr hnone))
    · have hquiet : s.atTick.tickCounters = s.atTick.ticked :=
        (State.tickCounters_eq _).trans (if_neg fun hyes =>
          hno ⟨((hfull _ _).mp hyes.1).1, ((hfull _ _).mp hyes.1).2, hyes.2⟩)
      rw [hquiet]
      rfl
    · exact State.tickCounters_frame _ .clock (by decide)
    · exact hcounts.andThen hlife (by decide) (by decide)
  · refine linkCommand_bodyRefuses ht hpl rfl rfl ?_
    by_cases hi : 8 ≤ i.toNat
    · have hnone : counterOfIndex (arg [i, a, b, c, d, keep] 0) = none := counterOfIndex_none hi
      simp only [hnone]
    · obtain ⟨idx, hidx, _⟩ := counterOfIndex_lt (Nat.not_le.mp hi)
      have hsome : counterOfIndex (arg [i, a, b, c, d, keep] 0) = some idx := hidx
      simp only [hsome]
      exact if_pos (hbad.resolve_left hi)
  · obtain ⟨idx, hidx, hall, hput⟩ := counterOfIndex_lt hi
    cases (hall s.usage.counters).symm.trans hold
    have hsome : counterOfIndex (arg [i, a, b, c, d, keep] 0) = some idx := hidx
    have hvalue : arg4 [i, a, b, c, d, keep] 1 = 16777216 * a.toNat + 65536 * b.toNat + 256 * c.toNat + d.toNat := by
      show (a.toNat * 256 + b.toNat) * 65536 + (c.toNat * 256 + d.toNat) = _
      omega
    have hkept : (arg [i, a, b, c, d, keep] 5 == 1) = decide (keep = 1#8) :=
      decide_eq_decide.mpr ⟨fun h => BitVec.eq_of_toNat_eq h, fun h => h ▸ rfl⟩
    refine ⟨_, linkCommand_settles (u := s.framed.putCounter idx ⟨arg4 [i, a, b, c, d, keep] 1,
      (s.usage.counters.get idx).overflow && arg [i, a, b, c, d, keep] 5 == 1⟩) ht hpl rfl rfl ?_, ?_, ?_, ?_⟩
    · simp only [hsome]
      exact if_neg (Nat.not_lt.mpr (Nat.le_of_lt_succ hkeep))
    · rw [State.settleFrom_frame _ _ .usage (by decide), hvalue, hkept]
      exact hput _ _
    · rw [State.settleFrom_frame _ _ .usage (by decide)]
      rfl
    · have hcounts := State.putCounter_frame idx ⟨arg4 [i, a, b, c, d, keep] 1,
        (s.usage.counters.get idx).overflow && arg [i, a, b, c, d, keep] 5 == 1⟩ s.framed
      rw [State.settleFrom_of_counts hcounts (by decide)]
      exact hcounts.andThen (State.lifeChanged_frame _ _) (by decide) (by decide)
  · intro s counters
    refine ⟨fun h ht hpl => ?_, fun hnone => ?_, fun image himage due hdue hheld => ?_⟩
    · by_cases hbusy : s.store.saving.isSome = true
      · rw [if_pos hbusy]
        exact linkCommand_bodyRefuses ht hpl rfl rfl (if_pos hbusy)
      · rw [if_neg hbusy]
        exact linkCommand_accepts ht hpl rfl rfl (if_neg hbusy) (State.settleFrom_quiet _ _ rfl rfl rfl rfl)
    · show execSaveComplete s = _
      unfold execSaveComplete
      rw [hnone]
    · show execSaveComplete s = _
      unfold execSaveComplete
      simp only [himage, hdue]
      refine congrArg Host.Outcome.next ?_
      cases hwait : s.store.waiting with
      | true =>
        rw [if_pos rfl, if_pos rfl]
        exact State.makeDueReset_of_held (by simp [State.resetHeldUp, State.startCounterSave, State.startSave])
      | false =>
        rw [if_neg (by decide), if_neg (by decide)]
        obtain hnone | hbusy | hwaits := hheld
        · exact State.makeDueReset_of_none hnone
        · exact State.makeDueReset_of_held (by simp [State.resetHeldUp, State.reach, State.reachAt, hbusy])
        · rw [hwait] at hwaits
          cases hwaits

end Sys2Proof.Machine
end

section
/-! SET writes one item within its tests (R2, R3, R48, R50, R89, R130, R177). -/

namespace Sys2Proof.Machine

/-- The items that are on or off. -/
def flagItems : List Nat := [1, 2, 3, 7, 8, 20, 27, 30, 31]

theorem flagItem_le {i v : Nat} (hflag : i ∈ flagItems) (hv : itemValueOk i v = true) : v = 0 ∨ v = 1 := by
  have hrange : itemRanges[i]? = some (0, 1) ∧ i ≠ 19 := by
    fin_cases hflag <;> decide
  have := itemValueOk_range hv hrange.1 hrange.2
  omega

theorem Items.write_values_flag {i v : Nat} (it : Items) (hflag : i ∈ flagItems) (hv : v = 0 ∨ v = 1) :
    (it.write i v).values = it.values.set i v := by
  obtain rfl | rfl := hv <;> fin_cases hflag <;> rfl

theorem Items.write_values_partner (v : Nat) (it : Items) : (it.write 19 v).values = it.values.set 19 v := by
  have hopt : (optOfValue v).getD 4294967295 = v := by
    unfold optOfValue
    split_ifs with h
    · exact h.symm
    · rfl
  conv_rhs => rw [← hopt]
  rfl

theorem Items.write_values_number {i v : Nat} (it : Items) (hi : i < 34) (hflag : i ∉ flagItems) (hpartner : i ≠ 19) :
    (it.write i v).values = it.values.set i v := by
  interval_cases i <;> first | rfl | exact absurd (by decide) hflag | exact absurd rfl hpartner

/-- A write within the item's range changes that item alone, as SET carries it. -/
theorem Items.write_values {i v : Nat} (it : Items) (hi : i < 34) (hv : itemValueOk i v = true) :
    (it.write i v).values = it.values.set i v := by
  by_cases hflag : i ∈ flagItems
  · exact it.write_values_flag hflag (flagItem_le hflag hv)
  · by_cases hpartner : i = 19
    · subst hpartner
      exact it.write_values_partner v
    · exact it.write_values_number hi hflag hpartner

theorem itemValueOk_iff (i v : Nat) : itemValueOk i v = true ↔
    (∃ r, itemRanges[i]? = some r ∧ r.1 ≤ v ∧ v ≤ r.2) ∨ (i = 19 ∧ v = 4294967295) := by
  unfold itemValueOk
  cases hr : itemRanges[i]? with
  | none =>
    have hi : i ≠ 19 := fun h19 => by
      rw [h19] at hr
      cases hr
    simp [hi]
  | some r => simp [absent4]

theorem State.itemPairOk_iff (i v : Nat) (s : State) : s.itemPairOk i v = true ↔
    (i = 11 → v < s.items.derateEnd) ∧ (i = 12 → s.items.derateStart < v) ∧ (i = 21 → v < s.items.fanFull)
      ∧ (i = 22 → s.items.fanStart < v)
      ∧ (i = 28 → List.Pairwise (fun (x y : CueEntry) => x.position + v < y.position) s.cue.entries) := by
  unfold State.itemPairOk
  split
  case h_5 => simp [spacedBy_iff]
  all_goals simp_all

theorem State.sizeWritable_iff (s : State) : s.sizeWritable = true ↔
    s.changer.trayPresent = false ∨ (s.changer.state = .idle ∧ s.changer.position = some 0) := by
  simp [State.sizeWritable]

/-! ## What an accepted write leaves -/

theorem State.itemActs_items (i v : Nat) (s : State) : (s.itemActs i v).items = s.items := by
  obtain ⟨_, heq⟩ | ⟨_, heq⟩ | ⟨_, _, heq⟩ := s.itemActs_cases i v
  · rw [heq]
  · rw [heq]
    rfl
  · rw [heq]

theorem State.itemActs_changer (i v : Nat) (s : State) : (s.itemActs i v).changer =
    if i = 0 then { s.changer with map := freshMap v } else s.changer := by
  obtain ⟨h0, heq⟩ | ⟨h14, heq⟩ | ⟨h0, _, heq⟩ := s.itemActs_cases i v
  · rw [heq, if_pos h0]
  · rw [heq, if_neg (by omega)]
    rfl
  · rw [heq, if_neg h0]

theorem State.itemActs_arb (i v : Nat) (s : State) : (s.itemActs i v).arb =
    if i = 0 then { s.arb with stack := [] } else s.arb := by
  obtain ⟨h0, heq⟩ | ⟨h14, heq⟩ | ⟨h0, _, heq⟩ := s.itemActs_cases i v
  · rw [heq, if_pos h0]
  · rw [heq, if_neg (by omega)]
    rfl
  · rw [heq, if_neg h0]

theorem State.itemActs_lamp (i v : Nat) (s : State) : (s.itemActs i v).lamp =
    if i = 14 then { s.lamp with
      guardAcc := min s.lamp.guardAcc v
      guardEngaged := guardLatch s.items s.lamp.guardEngaged (min s.lamp.guardAcc v) } else s.lamp := by
  obtain ⟨h0, heq⟩ | ⟨h14, heq⟩ | ⟨_, h14, heq⟩ := s.itemActs_cases i v
  · rw [heq, if_neg (by omega)]
  · rw [heq, if_pos h14]
    rfl
  · rw [heq, if_neg h14]

theorem State.itemActs_frame (i v : Nat) (s : State) : s.onlyChanges [.changer, .arb, .lamp] (s.itemActs i v) := by
  unfold State.itemActs
  split
  all_goals intro b hb; cases b <;> first | rfl | simp at hb

/-- The guard once the accumulator is held to a new limit (R50). -/
theorem guardLatch_held (it : Items) (engaged : Bool) (g : Nat) : guardLatch it engaged (min g it.guardLimit) =
    if it.guardLimit ≤ g then true else if g ≤ it.guardLimit * 3 / 4 then false else engaged := by
  unfold guardLatch
  by_cases hfull : it.guardLimit ≤ g
  · rw [if_pos hfull, if_pos (min_eq_right hfull)]
  · rw [if_neg hfull, min_eq_left (Nat.le_of_not_le hfull), if_neg (show ¬g = it.guardLimit by omega)]

theorem State.settleFrom_guard (s t : State) : (s.settleFrom t).lamp.guardAcc = t.lamp.guardAcc
    ∧ (s.settleFrom t).lamp.guardEngaged = t.lamp.guardEngaged := by
  rw [State.settleFrom_lamp]
  split_ifs <;> exact ⟨rfl, rfl⟩

/-! ## The slot items (R3) -/

theorem slotValueOk_iff {i : Nat} (v : Nat) (h40 : 40 ≤ i) (h42 : i ≤ 42) : slotValueOk i v = true ↔
    if i = 40 then v ≤ 1 else if i = 41 then v ≤ 1000 ∨ v = 4294967295 else (1 ≤ v ∧ v ≤ 999) ∨ v = 4294967295 := by
  interval_cases i <;> simp [slotValueOk, absent4]

theorem TrayEntry.write_eq {i : Nat} (v : Nat) (e : TrayEntry) (h40 : 40 ≤ i) (h42 : i ≤ 42) : e.write i v =
    if i = 40 then { e with skip := decide (v = 1) }
    else if i = 41 then { e with lampPreset := if v = 4294967295 then none else some v }
    else { e with dwellPreset := if v = 4294967295 then none else some v } := by
  interval_cases i <;> rfl

theorem arg4_bytes (item index a b c d : Byte) : arg4 [item, index, a, b, c, d] 2 =
    16777216 * a.toNat + 65536 * b.toNat + 256 * c.toNat + d.toNat := by
  show (a.toNat * 256 + b.toNat) * 65536 + (c.toNat * 256 + d.toNat) = _
  omega

/-- SET of a stored item takes the tests of section 12.4 in order. -/
theorem execSet_item {h : Header} {s : State} {item index a b c d : Byte} {v : Nat} {r : ResultCode} (ht : s.takes h)
    (hpl : s.prot.pl < 3) (hi : item.toNat < 34) (hv : arg4 [item, index, a, b, c, d] 2 = v)
    (hrefuse : s.framed.setItem item.toNat index.toNat v = .refuse r s.framed) :
    exec (.set h [item, index, a, b, c, d]) s = .next (s.framed.replied h r []) := by
  refine linkCommand_bodyRefuses ht hpl rfl rfl ((if_pos (Nat.le_of_lt_succ hi)).trans ?_)
  rw [hv]
  exact hrefuse

/-- Settles O49. -/
theorem setWritesOneItem : Obligations.SetWritesOneItem := by
  intro h s item index a b c d ht hpl i v ranges inRange paired atHome cmd none_
  have hv : arg4 [item, index, a, b, c, d] 2 = v := arg4_bytes item index a b c d
  have hvalue : itemValueOk i v = true ↔ inRange := itemValueOk_iff i v
  have hpair : s.framed.itemPairOk i v = true ↔ paired := State.itemPairOk_iff i v s.framed
  have hhome : s.framed.sizeWritable = true ↔ atHome := s.framed.sizeWritable_iff
  have hindex : index ≠ 0#8 ↔ index.toNat ≠ 0 := not_congr ⟨fun hz => hz ▸ rfl, fun hz => BitVec.eq_of_toNat_eq hz⟩
  refine ⟨fun hi => ?_, fun hi hbad => ?_, fun hi h0 hr haway => ?_, fun hi h0 hr hp hat => ?_, fun h40 h42 hbad => ?_,
    fun h40 h42 hpos hle => ?_⟩
  · refine linkCommand_bodyRefuses ht hpl rfl rfl ((if_neg ?_).trans (if_neg ?_))
    · show ¬i ≤ 33
      omega
    · show ¬(40 ≤ i ∧ i ≤ 42)
      omega
  · refine execSet_item ht hpl hi hv ?_
    unfold State.setItem
    by_cases h0 : index.toNat ≠ 0
    · exact if_pos h0
    · refine (if_neg h0).trans (if_pos ?_)
      rw [← Bool.not_eq_true, ← Bool.not_eq_true, hvalue, hpair]
      exact hbad.resolve_left (mt hindex.mp h0)
  · have hi : item.toNat < 34 := by
      show i < 34
      omega
    have hp : paired := by
      refine ⟨?_, ?_, ?_, ?_, ?_⟩ <;> (intro h11; omega)
    refine execSet_item ht hpl hi hv ?_
    unfold State.setItem
    refine (if_neg (mt hindex.mpr (not_not.mpr h0))).trans ((if_neg ?_).trans (if_pos ⟨‹i = 0›, ?_⟩))
    · rw [← Bool.not_eq_true, ← Bool.not_eq_true, hvalue, hpair]
      exact fun hno => hno.elim (fun h => h hr) (fun h => h hp)
    · rw [← Bool.not_eq_true, hhome]
      exact haway
  · have hok : itemValueOk i v = true := hvalue.mpr hr
    have hbody : s.framed.setItem i index.toNat v
        = .ok (State.itemActs i v { s.framed with items := s.items.write i v }) := by
      unfold State.setItem
      refine (if_neg (mt hindex.mpr (not_not.mpr h0))).trans ((if_neg ?_).trans (if_neg ?_))
      · rw [← Bool.not_eq_true, ← Bool.not_eq_true, hvalue, hpair]
        exact fun hno => hno.elim (fun h => h hr) (fun h => h hp)
      · rw [← Bool.not_eq_true, hhome]
        exact fun hno => hno.2 (hat hno.1)
    have hwritten : s.framed.onlyChanges [.items] { s.framed with items := s.items.write i v } := by
      intro b hb; cases b <;> first | rfl | simp at hb
    have hacts := State.itemActs_frame i v { s.framed with items := s.items.write i v }
    refine ⟨_, linkCommand_settles (u := State.itemActs i v { s.framed with items := s.items.write i v }) ht hpl rfl rfl
      ((if_pos (Nat.le_of_lt_succ hi)).trans (by rw [hv]; exact hbody)), ?_, ?_, ?_, ?_, ?_, ?_, ?_⟩
    · rw [State.settleFrom_frame _ _ .items (by decide), State.itemActs_items]
      exact s.items.write_values hi hok
    · rw [State.settleFrom_frame _ _ .changer (by decide), State.itemActs_changer]
      split_ifs <;> rfl
    · intro hzero
      rw [State.settleFrom_frame _ _ .changer (by decide), State.itemActs_changer, if_pos hzero]
      exact ⟨List.length_replicate, freshMap_entry v⟩
    · rw [State.settleFrom_frame _ _ .arb (by decide), State.itemActs_arb]
      rfl
    · rw [(State.settleFrom_guard _ _).1, State.itemActs_lamp]
      split_ifs <;> rfl
    · rw [(State.settleFrom_guard _ _).2, State.itemActs_lamp]
      by_cases h14 : i = 14
      · have hlatch := guardLatch_held (s.items.write i v) s.lamp.guardEngaged s.lamp.guardAcc
        rw [Items.write_guardLimit, if_pos h14] at hlatch
        rw [if_pos h14, if_pos h14]
        exact hlatch
      · rw [if_neg h14, if_neg h14]
        rfl
    · exact (hwritten.andThen (cs := [.items, .changer, .arb, .lamp]) hacts (by decide) (by decide)).andThen (State.settleFrom_frame _ _) (by decide) (by decide)
  · refine linkCommand_bodyRefuses ht hpl rfl rfl ((if_neg ?_).trans ((if_pos ⟨h40, h42⟩).trans (if_pos ?_)))
    · show ¬i ≤ 33
      omega
    · exact hbad.imp_left fun (h0 : index = 0#8) => show index.toNat = 0 from h0 ▸ rfl
  · have hslot : ¬i ≤ 33 := by omega
    have hindexOk : ¬(index.toNat = 0 ∨ s.items.traySize < index.toNat) := by
      rw [hindex] at hpos
      omega
    intro good value
    have hgood : slotValueOk i v = true ↔ good := slotValueOk_iff v h40 h42
    refine ⟨fun hbad => ?_, fun hok => ?_⟩
    · refine linkCommand_bodyRefuses ht hpl rfl rfl ((if_neg hslot).trans ((if_pos ⟨h40, h42⟩).trans ((if_neg hindexOk).trans
        (if_pos ?_))))
      rw [hv, ← Bool.not_eq_true]
      exact mt hgood.mp hbad
    · have hvalue : slotValueOk i v ≠ false := by
        rw [hgood.mpr hok]
        decide
      refine linkCommand_accepts ht hpl rfl rfl ((if_neg hslot).trans ((if_pos ⟨h40, h42⟩).trans ((if_neg hindexOk).trans
        ((if_neg ?_).trans (congrArg Answer.ok ?_))))) (State.settleFrom_quiet _ _ rfl rfl rfl rfl)
      · rw [hv]
        exact hvalue
      · rw [hv]
        show { s.framed with changer := { s.changer with
          map := s.changer.map.modify (index.toNat - 1) (TrayEntry.write i v) } } = _
        rw [modify_ordinal_eq_mapIdx (hindex.mp hpos)]
        simp only [TrayEntry.write_eq v _ h40 h42]
        rfl

end Sys2Proof.Machine
end

section
/-! The stages of a change: counted steps, stalls, gate readings and the search of a homing (R9 to R14, R18, R19). -/

namespace Sys2Proof.Machine

/-! ## Counted steps (R1, R12, R13, R19) -/

theorem ringStep_eq {t p : Nat} (h : p ≤ t) (d : Direction) : ringStep d t p =
    if d = .forward then (if p = t then 0 else p + 1) else if p = 0 then t else p - 1 := by
  cases d with
  | forward => exact (if_congr ⟨fun hle => Nat.le_antisymm h hle, fun heq => Nat.le_of_eq heq.symm⟩ rfl rfl).trans (if_pos rfl).symm
  | reverse => rfl

/-- The changer where a rotation has reached its end (R12, R13). -/
def Changer.arrives (o : ChangeOutcome) (now : Nat) (motors : Bool) (c : Changer) : Changer :=
  if c.position = some 0 then { c with
    state := .settle, stageDue := some (now + 40000), drive := none, lift := false, dropRelease := false
    record := c.record.map (fun r => { r with outcome := some o }) }
  else { c with
    state := .drop, stageDue := some (now + 150000), drive := none, lift := false, dropRelease := motors }

theorem State.arrive_eq (o : ChangeOutcome) (s : State) :
    s.arrive o = s.putChanger (s.changer.arrives o s.clock s.motorsAllowed) := by
  unfold State.arrive Changer.arrives
  split_ifs <;> rfl

/-- The changer's readings of the gate and the home mark, as a command brings them. -/
def State.sensed (sense : Sense) (s : State) : State := { s with changer := { s.changer with sense := sense } }

theorem State.sensed_eq (sense : Sense) (s : State) :
    { s with changer := { s.changer with sense := sense } } = s.sensed sense := rfl

section Pulse
variable {m : Bool} {s : State} {r : ChangeRecord} {p : Nat}

theorem execIndexPulse_rotate (hst : s.changer.state = .rotate) (hr : s.changer.record = some r)
    (hp : s.changer.position = some p) : execIndexPulse m s = .next ((s.sensed { s.changer.sense with homeMark := m }).rotateStep r p) := by
  unfold execIndexPulse
  simp only [State.sensed_eq]
  simp only [hst, hr, hp]

theorem execIndexPulse_returning (hst : s.changer.state = .returning) (hr : s.changer.record = some r)
    (hp : s.changer.position = some p) : execIndexPulse m s = .next ((s.sensed { s.changer.sense with homeMark := m }).returnStep r p) := by
  unfold execIndexPulse
  simp only [State.sensed_eq]
  simp only [hst, hr, hp]

theorem execIndexPulse_search (hst : s.changer.state = .homing) (hr : s.changer.record = some r)
    (hlift : s.changer.homingLift = false) (hsteps : r.homingSteps < s.items.traySize + 2) :
    execIndexPulse m s = .next (s.settleFrom ((s.sensed { s.changer.sense with homeMark := m }).homingStep r)) := by
  unfold execIndexPulse
  simp only [State.sensed_eq]
  simp only [hst, hr]
  exact if_neg (c := s.changer.homingLift = true ∨ s.items.traySize + 2 ≤ r.homingSteps) (by simp [hlift, hsteps])

theorem execIndexPulse_still (hst : s.changer.state ∈ [.lost, .jammed, .dipping, .lift, .drop, .settle]) :
    execIndexPulse m s = .next (s.sensed { s.changer.sense with homeMark := m }) := by
  unfold execIndexPulse
  dsimp only
  split <;> simp_all [State.sensed]

end Pulse

theorem State.takePendings_settle_frame (s t : State) :
    t.onlyChanges [.fade, .cool, .lamp, .store, .prot, .link] (s.settleFrom t.takePendings) :=
  t.takePendings_frame.andThen (State.settleFrom_frame _ _) (by decide) (by decide)

/-- Settles O12. -/
theorem indexPulseCountsOneStep : Obligations.IndexPulseCountsOneStep := by
  refine ⟨?_, fun m s hst => ?_, fun m s hst => execIndexPulse_still hst⟩
  · intro m s r hr p hp hle d hd up down on back moved arrived
    have hon : ringStep (r.direction.getD .forward) (s.sensed { s.changer.sense with homeMark := m }).items.traySize p = on := by
      rw [hd]
      exact ringStep_eq hle d
    have hback : ringStep (r.direction.getD .forward).opposite (s.sensed { s.changer.sense with homeMark := m }).items.traySize p = back := by
      rw [hd]
      refine (ringStep_eq hle _).trans ?_
      cases d <;> rfl
    have harrives (n : Nat) (r' : ChangeRecord) (o : ChangeOutcome) :
        (moved n r').arrives o s.clock (!s.cool.warning) = arrived n r' o := by
      refine if_congr ?_ rfl rfl
      exact Option.some_inj
    refine ⟨fun hst hmore => ?_, fun hst hlast => ?_, fun hst hmore => ?_, fun hst hlast => ?_⟩
    · refine (execIndexPulse_rotate hst hr hp).trans (congrArg Host.Outcome.next ?_)
      unfold State.rotateStep
      rw [hon]
      exact if_neg (Nat.not_le.mpr hmore)
    · refine (execIndexPulse_rotate hst hr hp).trans (congrArg Host.Outcome.next ?_)
      unfold State.rotateStep
      rw [hon]
      refine (if_pos hlast).trans ((State.arrive_eq _ _).trans ?_)
      rw [← harrives]
      rfl
    · refine (execIndexPulse_returning hst hr hp).trans (congrArg Host.Outcome.next ?_)
      unfold State.returnStep
      rw [hback]
      exact if_neg (show r.stepsBack - 1 ≠ 0 by omega)
    · refine (execIndexPulse_returning hst hr hp).trans (congrArg Host.Outcome.next ?_)
      unfold State.returnStep
      rw [hback]
      refine (if_pos (show r.stepsBack - 1 = 0 by omega)).trans ((State.arrive_eq _ _).trans ?_)
      rw [← harrives]
      rfl
  · have hexec : exec (.indexPulse m) s = .next (s.settleFrom (s.sensed { s.changer.sense with homeMark := m }).lostByHand) := by
      show execIndexPulse m s = _
      unfold execIndexPulse
      simp only [State.sensed_eq]
      simp only [hst]
    have hlater := State.takePendings_settle_frame s (s.sensed { s.changer.sense with homeMark := m }).enterLost
    refine ⟨_, hexec, (hlater .changer (by decide)).trans rfl, (hlater .arb (by decide)).trans rfl, ?_⟩
    have hlost : s.onlyChanges [.changer, .arb] (s.sensed { s.changer.sense with homeMark := m }).enterLost := by
      intro b hb; cases b <;> first | rfl | simp at hb
    exact hlost.andThen hlater (by decide) (by decide)

/-! ## Stalls in ROTATE (R12, R13) -/

theorem State.motors_ite {α : Type} (s : State) (a : Option α) :
    (if s.motorsAllowed = true then a else none) = if s.cool.warning = true then none else a := by
  unfold State.motorsAllowed
  cases s.cool.warning <;> rfl

theorem Direction.opposite_eq : Direction.opposite = fun d => if d = .forward then .reverse else .forward := by
  funext d
  cases d <;> rfl

/-- Settles O15. -/
theorem rotationStallRetriesThenReturns : Obligations.RotationStallRetriesThenReturns := by
  intro s hst r hr now back
  have hexec : exec .rotateStepTimeout s = .next (
      if r.stepsMade = 0 ∧ r.retryUsed = false then
        { s with
          clock := now
          changer := { s.changer with record := some { r with retryUsed := true }, stageDue := some (now + 150000) } }
      else State.startReturn r { s with clock := now }) := by
    show execRotateStepTimeout s = _
    unfold execRotateStepTimeout
    dsimp only
    rw [State.reach_eq]
    split
    · next hrec =>
      cases hr.symm.trans hrec
      exact (apply_ite Host.Outcome.next _ _ _).symm
    · next hno => exact absurd hr (hno r hst)
  rw [hexec]
  refine ⟨fun hfirst hunused => ?_, fun hlater => ?_, fun hfirst hused => ?_⟩
  · rw [if_pos ⟨hfirst, hunused⟩]
  · rw [if_neg fun hno => hlater hno.1]
    refine congrArg Host.Outcome.next ?_
    unfold State.startReturn
    refine (if_neg hlater).trans ?_
    rw [State.motors_ite, Direction.opposite_eq]
    rfl
  · rw [if_neg fun hno => by rw [hused] at hno; cases hno.2]
    refine congrArg Host.Outcome.next ?_
    unfold State.startReturn
    refine (if_pos hfirst).trans ((State.arrive_eq _ _).trans ?_)
    unfold Changer.arrives
    by_cases hgap : s.changer.position = some 0
    · rw [if_pos hgap, if_pos (by exact hgap)]
      rfl
    · rw [if_neg hgap, if_neg (by exact hgap)]
      rfl

/-! ## Gate readings in LIFT and DROP (R4, R9, R10, R14, R18) -/

theorem putEntryState_eq_mapIdx (p : Nat) (st : EntryState) (map : List TrayEntry) :
    putEntryState p st map = map.mapIdx (fun i e => if i + 1 = p then { e with state := st } else e) := by
  unfold putEntryState
  by_cases hp : p = 0
  · subst hp
    exact List.ext_getElem? fun i => by simp
  · rw [if_neg hp, modify_ordinal_eq_mapIdx hp]

theorem State.markEntry_eq {s : State} {p : Nat} (st : EntryState) (hp : s.changer.position = some p) :
    s.markEntry st = s.putChanger { s.changer with
      map := s.changer.map.mapIdx (fun i e => if i + 1 = p then { e with state := st } else e) } := by
  rw [← putEntryState_eq_mapIdx]
  unfold State.markEntry
  split
  · next hno =>
    rw [hp] at hno
    cases hno
  · next p' hp' =>
    cases hp.symm.trans hp'
    rfl

/-- The steps ahead from one position to another on a ring of t slots and the gap (R10). -/
def stepsAhead (t p n : Nat) : Nat := (n + (t + 1) - p) % (t + 1)

theorem planRotation_eq (t p n : Nat) : planRotation t p n =
    (if 2 * stepsAhead t p n ≤ t + 1 then Direction.forward else .reverse,
      if 2 * stepsAhead t p n ≤ t + 1 then stepsAhead t p n else t + 1 - stepsAhead t p n) := by
  have hlt : stepsAhead t p n < t + 1 := Nat.mod_lt _ (Nat.succ_pos t)
  show (if stepsAhead t p n ≤ t + 1 - stepsAhead t p n then _ else _) = _
  by_cases h : 2 * stepsAhead t p n ≤ t + 1
  · rw [if_pos h, if_pos h, if_pos (by omega)]
    rfl
  · rw [if_neg h, if_neg h, if_neg (by omega)]
    rfl

/-- A change whose slide has been lifted turns to its target, or settles when it stands there (R9, R10). -/
theorem State.liftDone_eq {s : State} {r : ChangeRecord} {p n : Nat} (hr : s.changer.record = some r)
    (hp : s.changer.position = some p) (hn : r.target = some n) :
    s.liftDone = if n = p then s.enterSettle .done else s.startRotate r p n := by
  unfold State.liftDone
  rw [hr, hp]
  dsimp only
  rw [hn]

theorem State.startRotate_eq (r : ChangeRecord) (p n : Nat) (s : State) : s.startRotate r p n =
    s.putChanger { s.changer with
      state := .rotate, stageDue := some (s.clock + 150000), lift := false
      drive := if s.cool.warning = true then none
        else some (if 2 * stepsAhead s.items.traySize p n ≤ s.items.traySize + 1 then .forward else .reverse)
      record := some { r with
        direction := some (if 2 * stepsAhead s.items.traySize p n ≤ s.items.traySize + 1 then .forward else .reverse)
        planned := if 2 * stepsAhead s.items.traySize p n ≤ s.items.traySize + 1 then stepsAhead s.items.traySize p n
          else s.items.traySize + 1 - stepsAhead s.items.traySize p n } } := by
  unfold State.startRotate
  dsimp only
  rw [planRotation_eq, State.motors_ite]
  rfl

/-- The changer at the end of a drop (R14). -/
def Changer.dropped (slide : Bool) (r : ChangeRecord) (p now : Nat) (c : Changer) : Changer := { c with
  state := .settle, stageDue := some (now + 40000), drive := none, lift := false, dropRelease := false
  map := c.map.mapIdx (fun i e =>
    if i + 1 = p then { e with state := if slide then .inGate else .empty } else e)
  record := some { r with
    found := slide
    outcome := some (if r.restoring then .restored else if slide then .done else .empty) } }

theorem State.endDrop_eq {s : State} {r : ChangeRecord} {p : Nat} (slide : Bool) (hr : s.changer.record = some r)
    (hp : s.changer.position = some p) : s.endDrop slide =
      { (if slide then s.zeroGuard else s) with changer := s.changer.dropped slide r p s.clock } := by
  unfold State.endDrop
  rw [State.markEntry_eq _ hp]
  split
  · next hno =>
    rw [hr] at hno
    cases hno
  · next r' hr' =>
    cases hr.symm.trans hr'
    cases slide <;> rfl

section Gate
variable {m : Bool} {s : State}

theorem execGateClearInLift_lift (hst : s.changer.state = .lift) :
    execGateClearInLift m s = .next ((s.sensed ⟨false, m⟩).markEntry .loaded).liftDone := by
  unfold execGateClearInLift
  simp only [State.sensed_eq]
  simp only [hst]

theorem execGateClearInLift_homing (hst : s.changer.state = .homing) (hlift : s.changer.homingLift = true) :
    execGateClearInLift m s = .next (s.settleFrom (s.sensed ⟨false, m⟩).homingSearch) := by
  unfold execGateClearInLift
  simp only [State.sensed_eq]
  simp only [hst, hlift, if_true]

theorem execGateOccupiedInDrop_drop (hst : s.changer.state = .drop) : execGateOccupiedInDrop s
    = .next (s.settleFrom ((s.sensed { s.changer.sense with gateOccupied := true }).endDrop true)) := by
  unfold execGateOccupiedInDrop
  simp only [State.sensed_eq]
  simp only [hst]

theorem execDropLimitExpiry_drop (hst : s.changer.state = .drop) :
    execDropLimitExpiry s = .next (State.endDrop false { s with clock := max s.clock (s.changer.stageDue.getD 0) }) := by
  unfold execDropLimitExpiry
  rw [hst, State.reach_eq]

end Gate

/-- The search of a homing begins where the home mark is not active (R18). -/
theorem State.homingSearch_begins {s : State} (hmark : s.changer.sense.homeMark = false) : s.homingSearch =
    s.putChanger { s.changer with
      homingLift := false, lift := false, stageDue := some (s.clock + 150000)
      drive := if s.cool.warning = true then none else some .forward } := by
  unfold State.homingSearch
  rw [if_neg (by rw [hmark]; decide), State.motors_ite]
  rfl

theorem State.enterSettle_eq {s : State} {r : ChangeRecord} (hr : s.changer.record = some r) (o : ChangeOutcome) :
    s.enterSettle o = s.putChanger { s.changer with
      state := .settle, stageDue := some (s.clock + 40000), drive := none, lift := false, dropRelease := false
      record := some { r with outcome := some o } } := by
  have hrecord : s.changer.record.map (fun r => { r with outcome := some o }) = some { r with outcome := some o } :=
    congrArg _ hr
  unfold State.enterSettle
  rw [hrecord]
  rfl

/-- Settles O17. -/
theorem gateReadingsInLiftAndDrop : Obligations.GateReadingsInLiftAndDrop := by
  refine ⟨⟨?_, fun s hst hlift => ?_⟩, ?_⟩
  · intro m s hst r hr p hp hle n hn ahead dir loaded
    have hexec : exec (.gateClearInLift m) s
        = .next (State.liftDone { s with changer := { s.changer with sense := ⟨false, m⟩, map := loaded } }) := by
      refine (execGateClearInLift_lift hst).trans ?_
      rw [State.markEntry_eq (s := s.sensed ⟨false, m⟩) _ hp]
      rfl
    have hdone := State.liftDone_eq
      (s := { s with changer := { s.changer with sense := ⟨false, m⟩, map := loaded } }) hr hp hn
    rw [hexec, hdone]
    refine ⟨fun hne => ?_, fun heq => ?_⟩
    · rw [if_neg hne, State.startRotate_eq]
      rfl
    · rw [if_pos heq]
      exact congrArg Host.Outcome.next (State.enterSettle_eq
        (s := { s with changer := { s.changer with sense := ⟨false, m⟩, map := loaded } }) hr .done)
  · refine (execGateClearInLift_homing hst hlift).trans (congrArg Host.Outcome.next ?_)
    rw [State.homingSearch_begins rfl]
    exact State.settleFrom_quiet _ _ rfl rfl rfl rfl
  · intro s hst r hr p hp now settled
    have hdrop := State.endDrop_eq (s := s.sensed { s.changer.sense with gateOccupied := true }) true hr hp
    refine ⟨⟨_, execGateOccupiedInDrop_drop hst, ?_, ?_, ?_, ?_⟩, ?_⟩
    · rw [State.settleFrom_frame _ _ .changer (by decide), hdrop]
      rfl
    · rw [(State.settleFrom_guard _ _).1, hdrop]
      rfl
    · rw [(State.settleFrom_guard _ _).2, hdrop]
      rfl
    · have hsense : s.onlyChanges [.changer] (s.sensed { s.changer.sense with gateOccupied := true }) := by
        intro b hb; cases b <;> first | rfl | simp at hb
      exact (hsense.andThen (cs := [.changer, .lamp]) (State.endDrop_true_frame _) (by decide) (by decide)).andThen
        (State.settleFrom_frame _ _) (by decide) (by decide)
    · exact (execDropLimitExpiry_drop hst).trans
        (congrArg Host.Outcome.next (State.endDrop_eq (s := { s with clock := now }) false hr hp))

/-! ## The search of a homing (R10, R18) -/

theorem State.stepTarget_eq {s : State} {p : Nat} (h : p ≤ s.items.traySize) (d : Direction) : s.stepTarget d p =
    if s.items.skipEmpty then s.stepTarget d p
    else if d = .forward then (if p = s.items.traySize then 0 else p + 1)
    else if p = 0 then s.items.traySize else p - 1 := by
  by_cases hskip : s.items.skipEmpty = true
  · rw [if_pos hskip]
  · rw [if_neg hskip, State.stepTarget, if_neg hskip, ringStep_eq h]

/-- A step that asks for the position it stands on stands on the ring (R1, R11). -/
theorem State.onRing_of_asks {s : State} {q : Request} {popped : Option Nat} {p : Nat} (hask : s.asks q popped p p)
    (hstep : q.kind = .stepFwd ∨ q.kind = .stepRev) (hskip : ¬s.items.skipEmpty = true) : p ≤ s.items.traySize := by
  unfold State.asks at hask
  obtain hk | hk := hstep
  · rw [hk] at hask
    have hnext := hask.2
    rw [if_neg hskip] at hnext
    split_ifs at hnext <;> omega
  · rw [hk] at hask
    dsimp only at hask
    rw [if_neg hskip] at hask
    split_ifs at hask <;> omega

/-- What a request asks for is the target that is fixed: with no reference there is no resync (R7, R11, R35, R135). -/
theorem State.fixTarget_asked {s : State} {q : Request} {popped : Option Nat} {p n : Nat}
    (hp : p ≤ s.items.traySize ∨ n = p) (h : s.asks q popped p n) : s.fixTarget q popped p = (s, q, n) := by
  have hslot : s.expectedSlot q = none := by
    unfold State.expectedSlot
    split_ifs with hcue
    · unfold State.asks at h
      rw [hcue.2] at h
      rw [h.1]
      rfl
    · rfl
  have hring (hstep : q.kind = .stepFwd ∨ q.kind = .stepRev) (d : Direction) : s.stepTarget d p =
      if s.items.skipEmpty then s.stepTarget d p
      else if d = .forward then (if p = s.items.traySize then 0 else p + 1)
      else if p = 0 then s.items.traySize else p - 1 := by
    by_cases hskip : s.items.skipEmpty = true
    · rw [if_pos hskip]
    · obtain hp | rfl := hp
      · exact State.stepTarget_eq hp d
      · exact State.stepTarget_eq (State.onRing_of_asks h hstep hskip) d
  have htarget : s.targetFrom q popped p = n := by
    unfold State.targetFrom
    unfold State.asks at h
    cases hkind : q.kind <;> rw [hkind] at h
    case stepFwd =>
      rw [h.2]
      exact hring (.inl hkind) .forward
    case stepRev =>
      rw [h]
      exact hring (.inr hkind) .reverse
    case goto => exact congrArg (·.getD 0) h.1
    case ret => exact congrArg (·.getD 0) h
    case home => exact h.symm
  unfold State.fixTarget
  rw [hslot, htarget]

theorem State.fixTarget_of_asks {s : State} {q : Request} {popped : Option Nat} {p n : Nat} (hp : p ≤ s.items.traySize)
    (h : s.asks q popped p n) : s.fixTarget q popped p = (s, q, n) := State.fixTarget_asked (.inl hp) h

/-- The record of a change whose homing has succeeded, at position 0 with its target fixed. -/
def ChangeRecord.homed (n : Nat) (r : ChangeRecord) : ChangeRecord := { r with origin := some 0, target := some n }

/-- The changer at position 0, the home mark found, on its way from LIFT (R18). -/
def Changer.atHome (r : ChangeRecord) (c : Changer) : Changer := { c with
  state := .lift, position := some 0, record := some r, stageDue := none, drive := none, lift := false
  homingLift := false }

theorem State.homingSuccess_request {s : State} {r : ChangeRecord} {q : Request} {n : Nat}
    (hr : s.changer.record = some r) (hq : r.request = some q) (hask : s.asks q r.popped 0 n) :
    s.homingSuccess = (s.putChanger (s.changer.atHome (r.homed n))).liftDone := by
  have hfix (u : State) (hu : u = s.putChanger { s.changer with
      position := some 0, drive := none, lift := false, homingLift := false, stageDue := none }) :
      u.fixTarget q r.popped 0 = (u, q, n) := by
    subst hu
    exact State.fixTarget_of_asks (Nat.zero_le _) hask
  unfold State.homingSuccess
  rw [hr]
  dsimp only
  rw [hq]
  dsimp only
  rw [hfix _ rfl, ← hq]
  rfl

theorem State.homingSuccess_alone {s : State} {r : ChangeRecord} (hr : s.changer.record = some r)
    (hq : r.request = none) (hjam : s.changer.jamClear = false) :
    s.homingSuccess.changer = { s.changer.restsIn .idle with position := some 0 } := by
  unfold State.homingSuccess
  rw [hr]
  dsimp only
  rw [hq]
  have hend := State.endChange_changer (s := s.putChanger { s.changer with
    position := some 0, drive := none, lift := false, homingLift := false, stageDue := none }) hr .done .idle false
  rw [if_neg (by simp [State.putChanger, hjam])] at hend
  exact hend

/-- The record and the step timer at a pulse of the search (R18). -/
def State.searches (r : ChangeRecord) (s : State) : State := s.putChanger { s.changer with
  record := some { r with homingSteps := r.homingSteps + 1, moved := true }, stageDue := some (s.clock + 150000) }

theorem State.homingStep_mark {s : State} (hmark : s.changer.sense.homeMark = true) (r : ChangeRecord) :
    s.homingStep r = (s.searches r).homingSuccess := if_pos hmark

/-- The pulse of the search that comes with the home mark (R18). -/
def State.finds (r : ChangeRecord) (s : State) : State := (s.sensed { s.changer.sense with homeMark := true }).searches r

theorem stepsAhead_zero {t n : Nat} (h : n ≤ t) : stepsAhead t 0 n = n := by
  unfold stepsAhead
  rw [Nat.sub_zero, Nat.add_mod_right, Nat.mod_eq_of_lt (Nat.lt_succ_of_le h)]

/-- Settles O13. -/
theorem homingSearchCountsToTheMark : Obligations.HomingSearchCountsToTheMark := by
  intro m s hst hlift r hr hsteps counted
  have hexec := execIndexPulse_search (m := m) hst hr hlift hsteps
  refine ⟨fun hm => ?_, fun hm hq hjam => ?_, fun hm q hq n hask hn => ?_⟩
  · subst hm
    exact hexec.trans (congrArg Host.Outcome.next (State.settleFrom_quiet _ _ rfl rfl rfl rfl))
  · subst hm
    refine ⟨_, hexec, ?_⟩
    rw [State.settleFrom_frame _ _ .changer (by decide), State.homingStep_mark rfl]
    exact State.homingSuccess_alone (s := s.finds r) rfl hq hjam
  · subst hm
    have hdone : (s.sensed { s.changer.sense with homeMark := true }).homingStep r
        = ((s.finds r).putChanger ((s.finds r).changer.atHome (counted.homed n))).liftDone :=
      (State.homingStep_mark rfl r).trans (State.homingSuccess_request rfl hq hask)
    rw [State.liftDone_eq rfl rfl rfl] at hdone
    refine ⟨_, hexec, ?_, ?_, ?_, ?_⟩
    · rw [State.settleFrom_frame _ _ .changer (by decide), hdone]
      by_cases hzero : n = 0
      · rw [if_pos hzero]
        simp only [hzero, if_true, true_or]
        rfl
      · rw [if_neg hzero]
        simp only [hzero, if_false, false_or]
        have hahead : stepsAhead s.items.traySize 0 n = n := stepsAhead_zero hn
        rw [State.startRotate_eq]
        simp only [show ((s.finds r).putChanger ((s.finds r).changer.atHome (counted.homed n))).items = s.items from rfl, hahead, apply_ite some]
        rfl
    · rw [State.settleFrom_frame _ _ .fade (by decide), hdone]
      split_ifs <;> rfl
    · rw [State.settleFrom_frame _ _ .arb (by decide), hdone]
      split_ifs <;> rfl
    · rw [State.settleFrom_frame _ _ .usage (by decide), hdone]
      split_ifs <;> rfl

end Sys2Proof.Machine
end

section
/-! The ends of a change: counters, completion entries, causes and the dwell timer (R9, R13, R15 to R18, R30, R37). -/

namespace Sys2Proof.Machine

/-! ## What the reports and raises leave of the arbiter (R41, R137, R139, R148) -/

theorem State.offerOwed_arb (s : State) : ∃ q, s.offerOwed.arb = { s.arb with queues := q } := by
  unfold State.offerOwed
  dsimp only
  split_ifs
  · exact ⟨_, rfl⟩
  · exact ⟨s.arb.queues, rfl⟩

theorem State.convertDebt_arb (n : Nat) (s : State) : ∃ q, (State.convertDebt n s).arb = { s.arb with queues := q } := by
  induction n generalizing s with
  | zero => exact ⟨s.arb.queues, rfl⟩
  | succ n ih =>
    unfold State.convertDebt
    split_ifs
    · obtain ⟨first, hfirst⟩ := s.offerOwed_arb
      obtain ⟨rest, hrest⟩ := ih s.offerOwed
      exact ⟨rest, by rw [hrest, hfirst]⟩
    · exact ⟨s.arb.queues, rfl⟩

/-- A report of the CUE queue length changes the queues alone of the arbiter (R137, R139). -/
theorem State.reportCue_arb (s : State) : ∃ q, s.reportCue.arb = { s.arb with queues := q } := by
  obtain ⟨q, hq⟩ := State.convertDebt_arb s.cue.debt s
  exact ⟨q, Eq.trans (State.judgeQueue_frame _ .arb (by decide)) hq⟩

theorem State.completeRequest_arb (r : Request) (o : ChangeOutcome) (final : Option Nat) (s : State) :
    (s.completeRequest r o final).arb = { s.arb with
      completions :=
        if r.source = .link then lastEight (s.arb.completions ++ [⟨r.tag.getD 0#8, o, final⟩])
        else s.arb.completions } := by
  unfold State.completeRequest
  split_ifs <;> rfl

theorem State.completeAll_arb (o : ChangeOutcome) (p : Option Nat) (l : List Request) (s : State) :
    ∃ done, (l.foldl (fun t r => t.completeRequest r o p) s).arb = { s.arb with completions := done } := by
  induction l generalizing s with
  | nil => exact ⟨s.arb.completions, rfl⟩
  | cons r l ih =>
    obtain ⟨done, hdone⟩ := ih (s.completeRequest r o p)
    exact ⟨done, by rw [List.foldl_cons, hdone, s.completeRequest_arb]⟩

theorem State.flushAll_arb (s : State) : ∃ q done, s.flushAll.arb = { s.arb with queues := q, completions := done } := by
  obtain ⟨done, hdone⟩ := State.completeAll_arb .aborted s.changer.position s.arb.queues.link s
  obtain ⟨q, hq⟩ := State.reportCue_arb { s.flushLink with arb := { s.flushLink.arb with queues := noQueues } }
  refine ⟨q, done, hq.trans ?_⟩
  have hlink : s.flushLink.arb = { s.arb with queues := s.flushLink.arb.queues, completions := done } := by
    unfold State.flushLink
    rw [State.putQueue_arb, hdone]
  rw [hlink]

/-- The crossings of a raise flush queues; of the arbiter nothing else changes (R41, R148). -/
theorem State.handPL_arb (old : Nat) (s : State) :
    ∃ q done, (s.handPL old).arb = { s.arb with queues := q, completions := done } := by
  have hlockout (u : State) : (if old < 3 ∧ 3 ≤ s.prot.pl then u.crossToLockout else u).arb = u.arb := by
    split_ifs
    · exact u.crossToLockout_frame .arb (by decide)
    · rfl
  unfold State.handPL
  dsimp only
  rw [hlockout]
  split_ifs
  · obtain ⟨q, done, h⟩ := State.flushAll_arb { s with cue := { s.cue with debt := 0 } }
    exact ⟨q, done, Eq.trans (State.addReason_frame _ _ .arb (by decide)) h⟩
  · exact ⟨s.arb.queues, s.arb.completions, State.removeReason_frame _ _ .arb (by decide)⟩
  · exact ⟨s.arb.queues, s.arb.completions, rfl⟩

theorem State.raise_dwellDue (c : Cause) (s : State) : (s.raise c).arb.dwellDue = s.arb.dwellDue := by
  obtain ⟨q, done, h⟩ := (s.recordRaise c).handPL_arb s.prot.pl
  rw [State.raise, h, s.recordRaise_frame c .arb (by decide)]

/-- A cause of minimum level 1 at PL 0 crosses nothing. -/
theorem State.raise_arb_clear {c : Cause} {s : State} (hpl : s.prot.pl = 0) (hc : c.minLevel = 1) :
    (s.raise c).arb = s.arb := by
  obtain ⟨hlevel, _⟩ := s.recordRaise_spec c
  rw [hpl, hc] at hlevel
  have hone : (s.recordRaise c).prot.pl = 1 := hlevel
  unfold State.raise State.handPL
  dsimp only
  rw [hpl, hone]
  exact s.recordRaise_frame c .arb (by decide)

/-! ## The end of a change (R15, R16, R30) -/

/-- The completion list once a change with the record r has ended (R30). -/
def ChangeRecord.completes (r : ChangeRecord) (o : ChangeOutcome) (final : Option Nat) (l : List Completion) :
    List Completion :=
  match r.request with
  | none => l
  | some q => if q.source = .link then lastEight (l ++ [⟨q.tag.getD 0#8, o, final⟩]) else l

theorem State.countChange_eq (o : ChangeOutcome) (r : ChangeRecord) (s : State) : s.countChange o r = { s with
    usage := { s.usage with counters := { s.usage.counters with
      changes := s.usage.counters.changes.gainIf (r.moved || o == .restored)
      jams := s.usage.counters.jams.gainIf (o == .restored || o == .jammed) } }
    link := { s.link with flags := { s.link.flags with counter := s.link.flags.counter ||
      (s.usage.counters.changes.wrapsIf (r.moved || o == .restored)
        || s.usage.counters.jams.wrapsIf (o == .restored || o == .jammed)) } } } := by
  unfold State.countChange
  rw [State.gainCounterIf_eq, State.gainCounterIf_eq, ← Bool.or_assoc]
  rfl

/-- The part with the counters of an ended change written (R16). -/
def State.counted (o : ChangeOutcome) (r : ChangeRecord) (count : Bool) (s : State) : State :=
  if count = true ∧ r.request.isSome = true then s.countChange o r else s

theorem State.counted_frame (o : ChangeOutcome) (r : ChangeRecord) (count : Bool) (s : State) :
    s.onlyChanges [.usage, .link] (s.counted o r count) := by
  unfold State.counted
  split_ifs
  · exact s.countChange_frame o r
  · exact .refl _ _

/-- The changer's state once what was in flight has ended, the counters written (R15, R17). -/
def State.stops (after : ChangerState) (jam : Bool) (s : State) : State :=
  if after = .lost ∨ (after = .idle ∧ jam = true) then s.enterLost else s.putChanger (s.changer.stopIn after)

theorem State.stops_frame (after : ChangerState) (jam : Bool) (s : State) :
    s.onlyChanges [.changer, .arb] (s.stops after jam) := by
  unfold State.stops
  split_ifs
  · exact s.enterLost_frame
  · exact (s.putChanger_frame _).mono (by decide)

theorem State.stops_arb (after : ChangerState) (jam : Bool) (s : State) : (s.stops after jam).arb =
    if after = .lost ∨ (after = .idle ∧ jam = true) then { s.arb with dwellDue := none } else s.arb := by
  unfold State.stops
  split_ifs <;> rfl

section EndChange
variable {s : State} {r : ChangeRecord} (hr : s.changer.record = some r) (o : ChangeOutcome) (after : ChangerState)
  (count : Bool)
include hr

/-- The end of a change in its order: counters, the changer, the completion entry, the Fade Engine (R15). -/
theorem State.endChange_eq : s.endChange o after count =
    (match r.request with
      | none => (s.counted o r count).stops after s.changer.jamClear
      | some q => ((s.counted o r count).stops after s.changer.jamClear).completeRequest q o
          (if after = ChangerState.lost then none else s.changer.position)).fadeChangeEnd s.changer.position r.found
        (after != ChangerState.jammed) := by
  unfold State.endChange
  split
  · next hno =>
    rw [hr] at hno
    cases hno
  · next r' hr' =>
    cases hr.symm.trans hr'
    rfl

theorem State.endChange_counted : (s.counted o r count).onlyChanges [.changer, .arb, .link, .fade]
    (s.endChange o after count) := by
  rw [State.endChange_eq hr]
  have hstops := (s.counted o r count).stops_frame after s.changer.jamClear
  cases r.request with
  | none => exact hstops.andThen (State.fadeChangeEnd_frame _ _ _ _) (by decide) (by decide)
  | some q =>
    exact (hstops.andThen (cs := [.changer, .arb, .link]) (State.completeRequest_frame _ _ _ _) (by decide)
      (by decide)).andThen (State.fadeChangeEnd_frame _ _ _ _) (by decide) (by decide)

theorem State.endChange_usage : (s.endChange o after count).usage = (s.counted o r count).usage :=
  State.endChange_counted hr o after count .usage (by decide)

theorem State.endChange_counterFlag :
    (s.endChange o after count).link.flags.counter = (s.counted o r count).link.flags.counter := by
  rw [State.endChange_eq hr, State.fadeChangeEnd_frame _ _ _ _ .link (by decide)]
  have hstops : ((s.counted o r count).stops after s.changer.jamClear).link = (s.counted o r count).link :=
    State.stops_frame _ _ _ .link (by decide)
  cases r.request with
  | none => exact congrArg (·.flags.counter) hstops
  | some q =>
    obtain ⟨done, hdone⟩ := State.completeRequest_link q o (if after = .lost then none else s.changer.position)
      ((s.counted o r count).stops after s.changer.jamClear)
    rw [← hstops]
    exact congrArg (·.flags.counter) hdone

/-- Of the arbiter the end of a change writes the completion list, and LOST cancels the dwell timer (R30, R37). -/
theorem State.endChange_arb : (s.endChange o after count).arb = { s.arb with
    dwellDue := (if after = .lost ∨ (after = .idle ∧ s.changer.jamClear = true) then none else s.arb.dwellDue)
    completions := r.completes o (if after = .lost then none else s.changer.position) s.arb.completions } := by
  have hcounted : (s.counted o r count).arb = s.arb := s.counted_frame o r count .arb (by decide)
  rw [State.endChange_eq hr, State.fadeChangeEnd_frame _ _ _ _ .arb (by decide)]
  unfold ChangeRecord.completes
  cases r.request with
  | none =>
    dsimp only
    rw [State.stops_arb, hcounted]
    split_ifs <;> rfl
  | some q =>
    dsimp only
    rw [State.completeRequest_arb, State.stops_arb, hcounted]
    split_ifs <;> rfl

end EndChange

theorem State.raisedBy_congr {c : Cause} {least : Nat} {s u t : State} (hprot : u.prot = s.prot)
    (huptime : u.usage.uptime = s.usage.uptime) (htape : u.tape = s.tape) (h : u.raisedBy c least t) :
    s.raisedBy c least t := by
  unfold State.raisedBy at h
  rwa [hprot, huptime, htape] at h

theorem State.counted_uptime (o : ChangeOutcome) (r : ChangeRecord) (count : Bool) (s : State) :
    (s.counted o r count).usage.uptime = s.usage.uptime := by
  unfold State.counted
  split_ifs
  · rw [State.countChange_eq]
  · rfl

/-- A jam or a failed homing: the change ends and its cause is given (R15 to R18, R143; log 18). -/
def State.failsWith (o : ChangeOutcome) (after : ChangerState) (c : Cause) (s : State) : State :=
  (s.endChange o after true).raise c

section Fails
variable {s : State} {r : ChangeRecord} (hr : s.changer.record = some r) (o : ChangeOutcome) (after : ChangerState)
  (c : Cause) (u : State)
include hr

theorem State.failsWith_raisedBy : s.raisedBy c c.minLevel (u.settleFrom (s.failsWith o after c)) := by
  have hframe := s.endChange_frame o after true
  refine State.raisedBy_congr (hframe .prot (by decide)) ?_ (hframe .tape (by decide))
    ((State.raise_raisedBy c (s.endChange o after true)).settle u)
  rw [State.endChange_usage hr, State.counted_uptime]

theorem State.failsWith_changer : (u.settleFrom (s.failsWith o after c)).changer =
    if after = .lost ∨ (after = .idle ∧ s.changer.jamClear = true) then s.changer.lost else s.changer.restsIn after := by
  rw [State.settleFrom_frame _ _ .changer (by decide), State.failsWith, State.raise_frame _ _ .changer (by decide),
    State.endChange_changer hr]

theorem State.failsWith_usage : (u.settleFrom (s.failsWith o after c)).usage = (s.counted o r true).usage := by
  rw [State.settleFrom_frame _ _ .usage (by decide), State.failsWith, State.raise_frame _ _ .usage (by decide),
    State.endChange_usage hr]

theorem State.failsWith_dwellDue : (u.settleFrom (s.failsWith o after c)).arb.dwellDue =
    if after = .lost ∨ (after = .idle ∧ s.changer.jamClear = true) then none else s.arb.dwellDue := by
  rw [State.settleFrom_frame _ _ .arb (by decide), State.failsWith, State.raise_dwellDue, State.endChange_arb hr]

theorem State.failsWith_completions (hpl : s.prot.pl = 0) (hc : c.minLevel = 1) :
    (u.settleFrom (s.failsWith o after c)).arb.completions =
      r.completes o (if after = .lost then none else s.changer.position) s.arb.completions := by
  have hclear : (s.endChange o after true).prot.pl = 0 := by
    rw [s.endChange_frame o after true .prot (by decide), hpl]
  rw [State.settleFrom_frame _ _ .arb (by decide), State.failsWith, State.raise_arb_clear hclear hc,
    State.endChange_arb hr]

end Fails

theorem ChangeRecord.completes_link {r : ChangeRecord} {q : Request} (hq : r.request = some q) (hlink : q.source = .link)
    (o : ChangeOutcome) (final : Option Nat) (l : List Completion) :
    r.completes o final l = lastEight (l ++ [⟨q.tag.getD 0#8, o, final⟩]) := by
  unfold ChangeRecord.completes
  rw [hq]
  exact if_pos hlink

/-- What a jam or a failed homing makes of s, where the step has brought the clock to u (R15 to R18). -/
theorem failsFrom {s u : State} {r : ChangeRecord} (hclock : s.onlyChanges [.clock] u) (hr : s.changer.record = some r)
    (o : ChangeOutcome) (after : ChangerState) (c : Cause) :
    let t := u.settleFrom (u.failsWith o after c)
    t.changer = (if after = .lost ∨ (after = .idle ∧ s.changer.jamClear = true) then s.changer.lost
        else s.changer.restsIn after)
      ∧ s.raisedBy c c.minLevel t
      ∧ (after = .lost → t.arb.dwellDue = none)
      ∧ t.usage = (s.counted o r true).usage
      ∧ (s.prot.pl = 0 → c.minLevel = 1 → ∀ q, r.request = some q → q.source = .link →
          t.arb.completions = lastEight (s.arb.completions
            ++ [⟨q.tag.getD 0#8, o, if after = .lost then none else s.changer.position⟩])) := by
  have hchanger : u.changer = s.changer := hclock .changer (by decide)
  have hprot : u.prot = s.prot := hclock .prot (by decide)
  have husage : u.usage = s.usage := hclock .usage (by decide)
  have htape : u.tape = s.tape := hclock .tape (by decide)
  have harb : u.arb = s.arb := hclock .arb (by decide)
  have hat : u.changer.record = some r := by rw [hchanger, hr]
  refine ⟨?_, ?_, fun hlost => ?_, ?_, fun hpl hc q hq hlink => ?_⟩
  · rw [State.failsWith_changer hat, hchanger]
  · exact State.raisedBy_congr hprot (congrArg (·.uptime) husage) htape (State.failsWith_raisedBy hat o after c u)
  · rw [State.failsWith_dwellDue hat, if_pos (.inl hlost)]
  · rw [State.failsWith_usage hat]
    unfold State.counted
    split_ifs
    · rw [State.countChange_eq, State.countChange_eq, husage]
    · exact husage
  · rw [State.failsWith_completions hat _ _ _ _ (by rw [hprot, hpl]) hc, r.completes_link hq hlink, harb, hchanger]

section Fails
variable {s : State}

theorem execReturnStepTimeout_returning (hst : s.changer.state = .returning) :
    execReturnStepTimeout s = .next (State.settleFrom (s.reach s.changer.stageDue) ((s.reach s.changer.stageDue).failsWith .jammed .jammed .trayJam)) := by
  unfold execReturnStepTimeout
  rw [hst]
  rfl

theorem execLiftLimitExpiry_lift (hst : s.changer.state = .lift) :
    execLiftLimitExpiry s = .next (State.settleFrom (s.reach s.changer.stageDue) ((s.reach s.changer.stageDue).failsWith .jammed .idle .gateJam)) := by
  unfold execLiftLimitExpiry
  rw [hst]
  rfl

theorem execLiftLimitExpiry_homing (hst : s.changer.state = .homing) (hlift : s.changer.homingLift = true) :
    execLiftLimitExpiry s = .next (State.settleFrom (s.reach s.changer.stageDue) ((s.reach s.changer.stageDue).failsWith .aborted .lost .gateJam)) := by
  unfold execLiftLimitExpiry
  rw [hst, hlift]
  rfl

theorem execHomingStepTimeout_search (hst : s.changer.state = .homing) (hlift : s.changer.homingLift = false) :
    execHomingStepTimeout s = .next (State.settleFrom (s.reach s.changer.stageDue) ((s.reach s.changer.stageDue).failsWith .aborted .lost .homeFail)) := by
  unfold execHomingStepTimeout
  rw [hst, hlift]
  rfl

theorem execHomingStepCountReached_limit {r : ChangeRecord} (hst : s.changer.state = .homing)
    (hr : s.changer.record = some r) (hsteps : s.items.traySize + 2 ≤ r.homingSteps) :
    execHomingStepCountReached s = .next (s.settleFrom (s.failsWith .aborted .lost .homeFail)) := by
  unfold execHomingStepCountReached
  rw [hst, hr]
  exact if_pos hsteps

end Fails

/-- Settles O14. -/
theorem homingFailureGivesHomeFail : Obligations.HomingFailureGivesHomeFail := by
  refine ⟨fun s hst hlift r hr => ?_, fun s hst r hr hsteps => ?_, fun s r hr hsteps => ?_⟩
  · obtain ⟨hchanger, hraised, hdwell, _, hdone⟩ := failsFrom (s.reach_frame s.changer.stageDue) hr .aborted .lost .homeFail
    exact ⟨_, execHomingStepTimeout_search hst hlift, hchanger, hraised, hdwell rfl, fun hpl => hdone hpl rfl⟩
  · obtain ⟨hchanger, hraised, hdwell, _, hdone⟩ := failsFrom (.refl [.clock] s) hr .aborted .lost .homeFail
    exact ⟨_, execHomingStepCountReached_limit hst hr hsteps, hchanger, hraised, hdwell rfl, fun hpl => hdone hpl rfl⟩
  · show execHomingStepCountReached s = _
    unfold execHomingStepCountReached
    rw [hr]
    split
    · next r' hr' =>
      cases hr'
      exact if_neg (Nat.not_le.mpr hsteps)
    · rfl

section Counts
variable {o : ChangeOutcome} {r : ChangeRecord} {s : State}

theorem State.counted_requested (h : r.request.isSome = true) : (s.counted o r true).usage.counters =
    { s.usage.counters with
      changes := s.usage.counters.changes.gainIf (r.moved || o == .restored)
      jams := s.usage.counters.jams.gainIf (o == .restored || o == .jammed) } := by
  unfold State.counted
  rw [if_pos ⟨rfl, h⟩, State.countChange_eq]

theorem State.counted_alone (h : r.request = none) (count : Bool) : s.counted o r count = s := by
  unfold State.counted
  rw [h, if_neg (by simp)]

end Counts

/-- Settles O16. -/
theorem stallsAndGateJamsGiveTheirCause : Obligations.StallsAndGateJamsGiveTheirCause := by
  refine ⟨fun s hst r hr => ?_, fun s hst r hr => ?_, fun s hst hlift r hr => ?_⟩
  · obtain ⟨hchanger, hraised, _, husage, hdone⟩ :=
      failsFrom (s.reach_frame s.changer.stageDue) hr .jammed .jammed .trayJam
    refine ⟨_, execReturnStepTimeout_returning hst, hchanger.trans (if_neg (by simp)), hraised, fun hq => ?_, fun hq hmoved => ?_, fun hq => ?_,
      fun hpl => hdone hpl rfl⟩
    · rw [husage, State.counted_requested hq]
      exact Counter.gainIf_true rfl _
    · rw [husage, State.counted_requested hq]
      exact Counter.gainIf_true (by rw [hmoved]; rfl) _
    · rw [husage, State.counted_alone hq]
  · obtain ⟨hchanger, hraised, _, husage, hdone⟩ := failsFrom (s.reach_frame s.changer.stageDue) hr .jammed .idle .gateJam
    refine ⟨_, execLiftLimitExpiry_lift hst, hchanger.trans (if_congr (by simp) rfl rfl), hraised, fun hq => ?_, fun hq hmoved => ?_,
      fun hpl => hdone hpl rfl⟩
    · rw [husage, State.counted_requested hq]
      exact Counter.gainIf_true rfl _
    · rw [husage, State.counted_requested hq]
      exact if_neg (by simp [hmoved])
  · obtain ⟨hchanger, hraised, _⟩ := failsFrom (s.reach_frame s.changer.stageDue) hr .aborted .lost .gateJam
    exact ⟨_, execLiftLimitExpiry_homing hst hlift, hchanger, hraised⟩

/-! ## The SETTLE expiry (R15, R30, R37) -/

theorem State.takePending_watch (ch : Channel) (s : State) : (s.takePending ch).fade.watch = s.fade.watch := by
  unfold State.takePending
  dsimp only
  split
  · rfl
  · cases ch <;> rfl

theorem State.fadeChangeEnd_watch (final : Option Nat) (found free : Bool) (s : State) :
    (s.fadeChangeEnd final found free).fade.watch = none := by
  unfold State.fadeChangeEnd
  dsimp only
  by_cases hfree : free = true
  · rw [if_pos hfree, State.takePending_watch]
  · rw [if_neg hfree]

theorem State.endChange_watch {s : State} {r : ChangeRecord} (hr : s.changer.record = some r) (o : ChangeOutcome)
    (after : ChangerState) (count : Bool) : (s.endChange o after count).fade.watch = none := by
  rw [State.endChange_eq hr]
  exact State.fadeChangeEnd_watch _ _ _ _

/-- The part as the SETTLE expiry leaves it, before what settles: the change ended, and a dwell timer started or primed
where the changer is IDLE (R15, R37). -/
def State.settleEnds (o : ChangeOutcome) (s : State) : State :=
  if (s.endChange o .idle true).changer.state = .idle then (s.endChange o .idle true).startDwell
  else s.endChange o .idle true

theorem execSettleExpiry_eq {s : State} {r : ChangeRecord} (hst : s.changer.state = .settle)
    (hr : s.changer.record = some r) : execSettleExpiry s =
      .next (State.settleFrom (s.reach s.changer.stageDue)
        ((s.reach s.changer.stageDue).settleEnds (r.outcome.getD .done))) := by
  unfold execSettleExpiry
  rw [hst, hr]
  rfl

theorem State.settleEnds_frame (o : ChangeOutcome) (s : State) :
    (s.endChange o .idle true).onlyChanges [.arb] (s.settleEnds o) := by
  unfold State.settleEnds
  split_ifs
  · exact State.startDwell_frame _
  · exact .refl _ _

/-- The dwell timer during hold primes the shadow, and nothing starts with auto mode off or no duration (R37, R38). -/
theorem State.startDwell_shadow {s : State} (hauto : s.arb.autoMode = true) (hhold : s.arb.hold = true) {d : Nat}
    (hd : s.changer.position.bind (fun p => s.dwellTime p) = some d) :
    s.startDwell = { s with arb := { s.arb with
      shadow := s.arb.shadow.map (fun h => { h with remainder := some d }) } } := by
  unfold State.startDwell
  rw [hauto, hd]
  exact if_pos hhold

theorem State.startDwell_none {s : State}
    (h : s.changer.position.bind (fun p => s.dwellTime p) = none ∨ s.arb.autoMode = false) : s.startDwell = s := by
  unfold State.startDwell
  split
  · next hauto hd =>
    obtain h | h := h
    · rw [hd] at h
      cases h
    · rw [hauto] at h
      cases h
  · rfl

theorem State.startDwell_lists (s : State) : s.startDwell.arb.queues = s.arb.queues
    ∧ s.startDwell.arb.stack = s.arb.stack ∧ s.startDwell.arb.completions = s.arb.completions := by
  unfold State.startDwell
  split
  · split_ifs <;> exact ⟨rfl, rfl, rfl⟩
  · exact ⟨rfl, rfl, rfl⟩

/-- The end of a change at the SETTLE expiry goes on from s with the clock brought on to u. -/
theorem State.endChange_from {s u : State} {r : ChangeRecord} (hclock : s.onlyChanges [.clock] u)
    (hr : s.changer.record = some r) (o : ChangeOutcome) :
    let e := u.endChange o .idle true
    e.changer = (if s.changer.jamClear then s.changer.lost else s.changer.restsIn .idle)
      ∧ e.clock = u.clock ∧ e.items = s.items ∧ e.usage = (s.counted o r true).usage
      ∧ e.link.flags.counter = (s.counted o r true).link.flags.counter ∧ e.fade.watch = none
      ∧ e.arb = { s.arb with
          dwellDue := (if s.changer.jamClear then none else s.arb.dwellDue)
          completions := r.completes o s.changer.position s.arb.completions } := by
  have hchanger : u.changer = s.changer := hclock .changer (by decide)
  have husage : u.usage = s.usage := hclock .usage (by decide)
  have hlink : u.link = s.link := hclock .link (by decide)
  have harb : u.arb = s.arb := hclock .arb (by decide)
  have hat : u.changer.record = some r := by rw [hchanger, hr]
  have hframe := u.endChange_frame o .idle true
  have hcounted : (u.counted o r true).usage = (s.counted o r true).usage
      ∧ (u.counted o r true).link = (s.counted o r true).link := by
    unfold State.counted
    split_ifs
    · rw [State.countChange_eq, State.countChange_eq, husage, hlink]
      exact ⟨rfl, rfl⟩
    · exact ⟨husage, hlink⟩
  refine ⟨?_, hframe .clock (by decide), Eq.trans (hframe .items (by decide)) (hclock .items (by decide)), ?_, ?_,
    State.endChange_watch hat _ _ _, ?_⟩
  · rw [State.endChange_changer hat, hchanger]
    exact if_congr (by simp) rfl rfl
  · rw [State.endChange_usage hat, hcounted.1]
  · rw [State.endChange_counterFlag hat, hcounted.2]
  · rw [State.endChange_arb hat, harb, hchanger]
    simp

theorem State.settleFrom_counterFlag (s t : State) :
    (s.settleFrom t).link.flags.counter = t.link.flags.counter := by
  obtain h | h := s.settleFrom_link t <;> rw [h]

/-- Settles O18. -/
theorem settleEndsTheChange : Obligations.SettleEndsTheChange := by
  intro s hst r hr o ho p hp now dwell
  have hexec : execSettleExpiry s = .next (State.settleFrom (s.reach s.changer.stageDue)
      ((s.reach s.changer.stageDue).settleEnds o)) := by
    rw [execSettleExpiry_eq hst hr, ho]
    rfl
  have hclock := s.reach_frame s.changer.stageDue
  have hnow : (s.reach s.changer.stageDue).clock = now := by rw [State.reach_eq]
  have hends := (s.reach s.changer.stageDue).settleEnds_frame o
  obtain ⟨hchanger, htime, hitems, husage, hflag, hwatch, harb⟩ := State.endChange_from hclock hr o
  have hsettled := State.settleFrom_frame (s.reach s.changer.stageDue) ((s.reach s.changer.stageDue).settleEnds o)
  have hdwell : s.changer.jamClear = false →
      ((s.reach s.changer.stageDue).endChange o .idle true).changer.position.bind
        (fun p => ((s.reach s.changer.stageDue).endChange o .idle true).dwellTime p) = dwell := by
    intro hjam
    rw [hjam, if_neg (by decide)] at hchanger
    rw [hchanger]
    show s.changer.position.bind _ = dwell
    rw [hp]
    show State.dwellTime p _ = dwell
    rw [State.dwellTime_eq, hchanger, hitems]
    rfl
  have hjammed (hjam : s.changer.jamClear = true) :
      (s.reach s.changer.stageDue).settleEnds o = (s.reach s.changer.stageDue).endChange o .idle true := by
    refine if_neg ?_
    rw [hchanger, if_pos hjam]
    exact nofun
  have hfree (hjam : s.changer.jamClear = false) :
      (s.reach s.changer.stageDue).settleEnds o = ((s.reach s.changer.stageDue).endChange o .idle true).startDwell := by
    refine if_pos ?_
    rw [hchanger, if_neg (by rw [hjam]; decide)]
    rfl
  have hlists : ((s.reach s.changer.stageDue).settleEnds o).arb.queues = s.arb.queues
      ∧ ((s.reach s.changer.stageDue).settleEnds o).arb.stack = s.arb.stack
      ∧ ((s.reach s.changer.stageDue).settleEnds o).arb.completions = r.completes o s.changer.position s.arb.completions := by
    have hsame := State.startDwell_lists ((s.reach s.changer.stageDue).endChange o .idle true)
    unfold State.settleEnds
    split_ifs
    · rw [hsame.1, hsame.2.1, hsame.2.2, harb]
      exact ⟨rfl, rfl, rfl⟩
    · rw [harb]
      exact ⟨rfl, rfl, rfl⟩
  have hplain (hjam : s.changer.jamClear = false) :
      ((s.reach s.changer.stageDue).endChange o .idle true).arb.dwellDue = s.arb.dwellDue
        ∧ ((s.reach s.changer.stageDue).endChange o .idle true).arb.shadow = s.arb.shadow := by
    rw [harb, if_neg (by rw [hjam]; decide)]
    exact ⟨rfl, rfl⟩
  have hauto : ((s.reach s.changer.stageDue).endChange o .idle true).arb.autoMode = s.arb.autoMode := by rw [harb]
  have hhold : ((s.reach s.changer.stageDue).endChange o .idle true).arb.hold = s.arb.hold := by rw [harb]
  refine ⟨_, hexec, ?_, ?_, ?_, fun hq hmoved => ?_, fun hq hjams => ?_, fun hq => ?_,
    fun hq hwraps => ?_, fun q hq => ?_, fun hjam => ?_, fun hjam d hd hon hno => ?_, fun hjam d hd hon hyes => ?_,
    fun hjam hnone => ?_, ?_, ?_⟩
  · rw [hsettled .changer (by decide), hends .changer (by decide), hchanger]
  · rw [hsettled .clock (by decide), hends .clock (by decide), htime, hnow]
  · rw [hsettled .fade (by decide), hends .fade (by decide), hwatch]
  · rw [hsettled .usage (by decide), hends .usage (by decide), husage, State.counted_requested hq]
    exact Counter.gainIf_true (by simpa using hmoved) _
  · rw [hsettled .usage (by decide), hends .usage (by decide), husage, State.counted_requested hq]
    exact Counter.gainIf_true (by simpa using hjams) _
  · rw [hsettled .usage (by decide), hends .usage (by decide), husage, State.counted_alone hq]
  · have hwrapped : (s.counted o r true).link.flags.counter = true := by
      unfold State.counted
      rw [if_pos ⟨rfl, hq⟩, State.countChange_eq]
      simp only [Counter.wrapsIf, Bool.or_eq_true, Bool.and_eq_true, decide_eq_true_iff, beq_iff_eq]
      exact .inr hwraps
    rw [State.settleFrom_counterFlag, hends .link (by decide), hflag, hwrapped]
  · rw [hsettled .arb (by decide), hlists.2.2]
    unfold ChangeRecord.completes
    rw [hq, hp]
  · rw [hsettled .arb (by decide), hjammed hjam, harb, if_pos hjam]
  · rw [hsettled .arb (by decide), hfree hjam, State.startDwell_eq (hauto.trans hon) (hhold.trans hno), hdwell hjam, hd]
    exact congrArg (fun n => some (n + d)) (htime.trans hnow)
  · rw [hsettled .arb (by decide), hfree hjam,
      State.startDwell_shadow (hauto.trans hon) (hhold.trans hyes) ((hdwell hjam).trans hd)]
    exact ⟨congrArg (Option.map fun h => { h with remainder := some d }) (hplain hjam).2, (hplain hjam).1⟩
  · rw [hsettled .arb (by decide), hfree hjam,
      State.startDwell_none (hnone.imp (hdwell hjam).trans hauto.trans)]
    exact hplain hjam
  · rw [hsettled .arb (by decide), hlists.1]
  · rw [hsettled .arb (by decide), hlists.2.1]

end Sys2Proof.Machine
end

section
/-! The target of a step on the ring (R1, R11). -/

namespace Sys2Proof.Machine

/-! ## Walking the ring -/

/-- A walk over the ring stops at the first eligible position, where one lies within its n steps. -/
theorem walkRing_stops {eligible : Nat → Bool} {d : Direction} {t n p : Nat}
    (h : ∃ k, 0 < k ∧ k ≤ n ∧ eligible ((ringStep d t)^[k] p) = true) :
    ∃ j, 0 < j ∧ j ≤ n ∧ walkRing eligible d t n p = (ringStep d t)^[j] p
      ∧ eligible ((ringStep d t)^[j] p) = true ∧ ∀ k, 0 < k → k < j → eligible ((ringStep d t)^[k] p) = false := by
  induction n generalizing p with
  | zero =>
    obtain ⟨k, hpos, hle, _⟩ := h
    omega
  | succ n ih =>
    unfold walkRing
    by_cases hnext : eligible (ringStep d t p) = true
    · rw [if_pos hnext]
      exact ⟨1, by omega, by omega, rfl, hnext, fun k hpos hlt => by omega⟩
    · rw [if_neg hnext]
      obtain ⟨k, hpos, hle, hk⟩ := h
      have hlater : ∃ k, 0 < k ∧ k ≤ n ∧ eligible ((ringStep d t)^[k] (ringStep d t p)) = true := by
        obtain _ | _ | k := k
        · omega
        · exact absurd hk hnext
        · exact ⟨k + 1, by omega, by omega, hk⟩
      obtain ⟨j, hj, hjle, hwalk, hstop, hfirst⟩ := ih hlater
      refine ⟨j + 1, by omega, by omega, hwalk, hstop, fun i hi hlt => ?_⟩
      obtain _ | _ | i := i
      · omega
      · exact Bool.eq_false_iff.mpr hnext
      · exact hfirst (i + 1) (by omega) (by omega)

theorem ringStep_forward_mod {t p : Nat} (h : p ≤ t) : ringStep .forward t p = (p + 1) % (t + 1) := by
  rw [ringStep_eq h, if_pos rfl]
  split_ifs with hp
  · rw [hp, Nat.mod_self]
  · rw [Nat.mod_eq_of_lt (by omega)]

theorem ringStep_reverse_mod {t p : Nat} (h : p ≤ t) : ringStep .reverse t p = (p + t) % (t + 1) := by
  rw [ringStep_eq h, if_neg nofun]
  split_ifs with hp
  · rw [hp, Nat.zero_add, Nat.mod_eq_of_lt (by omega)]
  · rw [show p + t = (p - 1) + (t + 1) by omega, Nat.add_mod_right, Nat.mod_eq_of_lt (by omega)]

theorem ringStep_forward_iterate {t p : Nat} (h : p ≤ t) (k : Nat) :
    (ringStep .forward t)^[k] p = (p + k) % (t + 1) := by
  induction k with
  | zero => exact (Nat.mod_eq_of_lt (Nat.lt_succ_of_le h)).symm
  | succ k ih =>
    have hle : (p + k) % (t + 1) ≤ t := Nat.le_of_lt_succ (Nat.mod_lt _ (Nat.succ_pos t))
    rw [Function.iterate_succ_apply', ih, ringStep_forward_mod hle, Nat.mod_add_mod, Nat.add_assoc]

theorem ringStep_reverse_iterate {t p : Nat} (h : p ≤ t) {k : Nat} (hk : k ≤ t + 1) :
    (ringStep .reverse t)^[k] p = (p + (t + 1) - k) % (t + 1) := by
  induction k with
  | zero => rw [Nat.sub_zero, Nat.add_mod_right]; exact (Nat.mod_eq_of_lt (Nat.lt_succ_of_le h)).symm
  | succ k ih =>
    have hle : (p + (t + 1) - k) % (t + 1) ≤ t := Nat.le_of_lt_succ (Nat.mod_lt _ (Nat.succ_pos t))
    rw [Function.iterate_succ_apply', ih (by omega), ringStep_reverse_mod hle, Nat.mod_add_mod,
      show p + (t + 1) - k + t = (p + (t + 1) - (k + 1)) + (t + 1) by omega, Nat.add_mod_right]

/-- The steps forward to a position, counted from where they lead. -/
theorem steps_forward {t p j : Nat} (h : p ≤ t) (hj : 0 < j) (hle : j ≤ t + 1) :
    ((p + j) % (t + 1) + (t + 1) - 1 - p) % (t + 1) + 1 = j := by
  by_cases hwrap : p + j < t + 1
  · rw [Nat.mod_eq_of_lt hwrap, show p + j + (t + 1) - 1 - p = (j - 1) + (t + 1) by omega, Nat.add_mod_right,
      Nat.mod_eq_of_lt (by omega)]
    omega
  · have hmod : (p + j) % (t + 1) = p + j - (t + 1) := by
      rw [Nat.mod_eq_sub_mod (by omega), Nat.mod_eq_of_lt (by omega)]
    rw [hmod, show p + j - (t + 1) + (t + 1) - 1 - p = j - 1 by omega, Nat.mod_eq_of_lt (by omega)]
    omega

/-- The steps back to a position, counted from where they lead. -/
theorem steps_reverse {t p j : Nat} (h : p ≤ t) (hj : 0 < j) (hle : j ≤ t + 1) :
    (p + (t + 1) - 1 - (p + (t + 1) - j) % (t + 1)) % (t + 1) + 1 = j := by
  by_cases hwrap : p < j
  · rw [Nat.mod_eq_of_lt (a := p + (t + 1) - j) (by omega),
      show p + (t + 1) - 1 - (p + (t + 1) - j) = j - 1 by omega, Nat.mod_eq_of_lt (by omega)]
    omega
  · rw [show p + (t + 1) - j = (p - j) + (t + 1) by omega, Nat.add_mod_right, Nat.mod_eq_of_lt (a := p - j) (by omega),
      show p + (t + 1) - 1 - (p - j) = (j - 1) + (t + 1) by omega, Nat.add_mod_right, Nat.mod_eq_of_lt (by omega)]
    omega

/-! ## Skip-empty stepping (R11) -/

/-- A position on the ring is eligible: the gap, or a slot neither EMPTY nor skipped (R11). -/
theorem State.stepEligible_iff {s : State} {n : Nat} (hmap : s.changer.map.length = s.items.traySize)
    (hn : n ≤ s.items.traySize) : s.stepEligible n = true ↔
      (n = 0 ∨ ∃ e, s.changer.map[n - 1]? = some e ∧ e.state ≠ .empty ∧ e.skip = false) := by
  unfold State.stepEligible State.entryAt
  by_cases hzero : n = 0
  · simp [hzero]
  · have hget : s.changer.map[n - 1]? = some s.changer.map[n - 1] := List.getElem?_eq_getElem (by omega)
    rw [if_neg hzero, hget]
    simp [hzero]

/-- Settles O20. -/
theorem skipEmptyStepsToAnEligiblePosition : Obligations.SkipEmptyStepsToAnEligiblePosition := by
  intro s p k hp hmap open_ ring
  have hopen (n : Nat) (hn : n ≤ s.items.traySize) : s.stepEligible n = true ↔ open_ n := State.stepEligible_iff hmap hn
  have hlt (n : Nat) : n % ring ≤ s.items.traySize := Nat.le_of_lt_succ (Nat.mod_lt _ (Nat.succ_pos _))
  have hgap : s.stepEligible 0 = true := rfl
  refine ⟨fun hskip => ?_, fun hskip => ?_⟩
  · unfold State.stepTarget
    rw [hskip]
    exact ⟨ringStep_forward_mod hp, ringStep_reverse_mod hp⟩
  · obtain ⟨i, hi, hile, hup, hupOpen, hupFirst⟩ := walkRing_stops (eligible := fun q => s.stepEligible q) (d := .forward)
      (t := s.items.traySize) (n := s.items.traySize + 1) (p := p) ⟨ring - p, by omega, by omega, by
        rw [ringStep_forward_iterate hp, show p + (ring - p) = ring by omega, Nat.mod_self]
        exact hgap⟩
    obtain ⟨j, hj, hjle, hdown, hdownOpen, hdownFirst⟩ := walkRing_stops (eligible := fun q => s.stepEligible q)
      (d := .reverse) (t := s.items.traySize) (n := s.items.traySize + 1) (p := p)
      ⟨if p = 0 then ring else p, by split_ifs <;> omega, by split_ifs <;> omega, by
        rw [ringStep_reverse_iterate hp (by split_ifs <;> omega)]
        split_ifs with hzero
        · rw [hzero, Nat.zero_add, Nat.sub_self]
          exact hgap
        · rw [Nat.add_sub_cancel_left, Nat.mod_self]
          exact hgap⟩
    rw [ringStep_forward_iterate hp] at hup hupOpen
    rw [ringStep_reverse_iterate hp hjle] at hdown hdownOpen
    have hforward : s.stepTarget .forward p = (p + i) % ring := (if_pos hskip).trans hup
    have hreverse : s.stepTarget .reverse p = (p + ring - j) % ring := (if_pos hskip).trans hdown
    rw [hforward, hreverse]
    refine ⟨(hopen _ (hlt _)).mp hupOpen, hlt _, fun hk hkle => ?_, (hopen _ (hlt _)).mp hdownOpen, hlt _, fun hk hkle => ?_⟩
    · rw [steps_forward hp hi hile] at hkle
      have hno := hupFirst k hk hkle
      rw [ringStep_forward_iterate hp] at hno
      exact fun hyes => Bool.eq_false_iff.mp hno ((hopen _ (hlt _)).mpr hyes)
    · rw [steps_reverse hp hj hjle] at hkle
      have hno := hdownFirst k hk hkle
      rw [ringStep_reverse_iterate hp (by omega)] at hno
      exact fun hyes => Bool.eq_false_iff.mp hno ((hopen _ (hlt _)).mpr hyes)

end Sys2Proof.Machine
end

section
/-! A ramp step, and how the end of the dip lets the change go on (R8, R9, R44, R63, R68). -/

namespace Sys2Proof.Machine

/-! ## The formula (R44) -/

theorem rampLevel_zero (l0 l1 n : Nat) : rampLevel l0 l1 0 n = l0 := by simp [rampLevel]

theorem rampLevel_mono {l0 l1 k j n : Nat} (h : l0 ≤ l1) (hk : k ≤ j) : rampLevel l0 l1 k n ≤ rampLevel l0 l1 j n := by
  rw [rampLevel_up h, rampLevel_up h]
  exact Nat.add_le_add_left (Nat.div_le_div_right (Nat.mul_le_mul_left _ hk)) _

theorem rampLevel_anti {l0 l1 k j n : Nat} (h : l1 ≤ l0) (hk : k ≤ j) : rampLevel l0 l1 j n ≤ rampLevel l0 l1 k n := by
  rw [rampLevel_down h, rampLevel_down h]
  exact Nat.sub_le_sub_left (Nat.div_le_div_right (Nat.mul_le_mul_left _ hk)) _

/-! ## The step -/

/-- A step of the channel's ramp, at its moment. -/
def State.ramped (ch : Channel) (s : State) : State :=
  let c := s.fade.channel ch
  let now := max s.clock (c.stepDue.getD 0)
  { s with clock := now, fade := s.fade.putChannel ch (c.stepRamp now) }

theorem State.rampStep_eq (ch : Channel) (sense : Sense) (s : State) : s.rampStep ch sense =
    if ch = .lamp ∧ (s.ramped ch).dipComplete = true ∧ s.changer.state = .dipping then
      ((s.ramped ch).sensed sense).leaveDipping
    else s.ramped ch := by
  unfold State.rampStep
  dsimp only
  rw [State.reach_eq]
  rfl

theorem State.ramped_dipComplete (s : State) : (s.ramped .lamp).dipComplete = true ↔
    s.fade.lamp.state = .dipped ∧ s.fade.lamp.steps ≤ s.fade.lamp.count + 1 := by
  show ((if s.fade.lamp.count + 1 ≥ s.fade.lamp.steps ∧ s.fade.lamp.state = .ramping then FadeState.steady
    else s.fade.lamp.state) = .dipped && decide (s.fade.lamp.steps ≤ s.fade.lamp.count + 1)) = true ↔ _
  rw [Bool.and_eq_true, decide_eq_true_iff, decide_eq_true_iff]
  refine and_congr_left fun hend => ?_
  split_ifs with hramping
  · rw [hramping.2]
    decide
  · exact Iff.rfl

/-- From DIPPING with the position known: LIFT with the gate occupied (R8, R9). -/
theorem State.leaveDipping_occupied {s : State} {p : Nat} (hp : s.changer.position = some p)
    (hgate : s.changer.sense.gateOccupied = true) : s.leaveDipping = s.putChanger { s.changer with
      state := .lift, stageDue := some (s.clock + 250000), lift := !s.cool.warning } := by
  unfold State.leaveDipping State.startLift
  rw [if_pos hgate]
  split
  · next hno =>
    rw [hp] at hno
    cases hno
  · rfl

/-- The slide thought to stand in the gate is not there: its entry is EMPTY (R9). -/
def clearedEntries (p : Nat) (map : List TrayEntry) : List TrayEntry :=
  map.mapIdx (fun i e => if i + 1 = p ∧ e.state = .inGate then { e with state := .empty } else e)

theorem clearedEntries_of_inGate {p : Nat} {map : List TrayEntry} {e : TrayEntry}
    (he : map[p - 1]? = some e) (hin : e.state = .inGate) :
    clearedEntries p map = map.mapIdx (fun i e => if i + 1 = p then { e with state := .empty } else e) := by
  refine List.ext_getElem? fun i => ?_
  rw [clearedEntries, List.getElem?_mapIdx, List.getElem?_mapIdx]
  by_cases hi : i + 1 = p
  · have hget : map[i]? = some e := by rw [← he, ← hi, Nat.add_sub_cancel]
    simp [hget, hi, hin]
  · simp [hi]

theorem clearedEntries_of_absent {p : Nat} {map : List TrayEntry}
    (h : ∀ e, p ≠ 0 → map[p - 1]? = some e → e.state ≠ .inGate) : clearedEntries p map = map := by
  refine List.ext_getElem? fun i => ?_
  rw [clearedEntries, List.getElem?_mapIdx]
  cases hget : map[i]? with
  | none => rfl
  | some e =>
    refine congrArg some (if_neg ?_)
    rintro ⟨hi, hin⟩
    exact h e (by omega) (by rw [← hi, Nat.add_sub_cancel, hget]) hin

theorem State.entryAt_some {s : State} {p : Nat} {e : TrayEntry} (he : s.entryAt p = some e) :
    p ≠ 0 ∧ s.changer.map[p - 1]? = some e := by
  unfold State.entryAt at he
  split_ifs at he with hzero
  exact ⟨hzero, he⟩

theorem State.entryAt_get {s : State} {p : Nat} (hpos : p ≠ 0) : s.entryAt p = s.changer.map[p - 1]? := if_neg hpos

/-- From DIPPING with the position known and the gate clear: LIFT has nothing to lift (R8, R9). -/
theorem State.leaveDipping_clear {s : State} {p : Nat} (hp : s.changer.position = some p)
    (hgate : s.changer.sense.gateOccupied = false) : s.leaveDipping = (s.putChanger { s.changer with
      state := .lift, map := clearedEntries p s.changer.map }).liftDone := by
  have hlift : s.leaveDipping = s.startLift := by
    unfold State.leaveDipping
    rw [hp]
  have hentry : s.changer.position.bind (fun p => s.entryAt p) = s.entryAt p := by rw [hp]; rfl
  rw [hlift]
  unfold State.startLift
  rw [if_neg (by rw [hgate]; decide), hentry]
  cases he : s.entryAt p with
  | none =>
    rw [clearedEntries_of_absent fun e hpos hget => by rw [← State.entryAt_get hpos, he] at hget; cases hget]
    rfl
  | some e =>
    obtain ⟨_, hget⟩ := State.entryAt_some he
    by_cases hin : e.state = .inGate
    · dsimp only
      rw [if_pos hin, State.markEntry_eq _ hp, clearedEntries_of_inGate hget hin]
      rfl
    · rw [clearedEntries_of_absent fun e' _ hget' => by cases hget.symm.trans hget'; exact hin]
      dsimp only
      rw [if_neg hin]
      rfl

/-- From DIPPING with the gate clear and the target elsewhere: straight to ROTATE, the shorter way (R9, R10). -/
theorem State.leaveDipping_rotates {s : State} {r : ChangeRecord} {p n : Nat} (hp : s.changer.position = some p)
    (hgate : s.changer.sense.gateOccupied = false) (hr : s.changer.record = some r) (hn : r.target = some n) (hne : n ≠ p) :
    s.leaveDipping = s.putChanger { s.changer with
      state := .rotate, lift := false, stageDue := some (s.clock + 150000), map := clearedEntries p s.changer.map
      drive := if s.cool.warning = true then none
        else some (if 2 * stepsAhead s.items.traySize p n ≤ s.items.traySize + 1 then .forward else .reverse)
      record := some { r with
        direction := some (if 2 * stepsAhead s.items.traySize p n ≤ s.items.traySize + 1 then .forward else .reverse)
        planned := if 2 * stepsAhead s.items.traySize p n ≤ s.items.traySize + 1 then stepsAhead s.items.traySize p n
          else s.items.traySize + 1 - stepsAhead s.items.traySize p n } } := by
  have hdone := State.liftDone_eq (s := s.putChanger { s.changer with
    state := .lift, map := clearedEntries p s.changer.map }) hr hp hn
  rw [State.leaveDipping_clear hp hgate, hdone, if_neg hne, State.startRotate_eq]
  rfl

/-- From DIPPING with the position unknown: HOMING, with a lift where the gate is occupied (R8, R18). -/
theorem State.leaveDipping_unknown {s : State} (hp : s.changer.position = none)
    (hmark : s.changer.sense.gateOccupied = true ∨ s.changer.sense.homeMark = false) :
    s.leaveDipping = s.putChanger (if s.changer.sense.gateOccupied then { s.changer with
        state := .homing, homingLift := true, lift := !s.cool.warning, stageDue := some (s.clock + 250000) }
      else { s.changer with
        state := .homing, homingLift := false, lift := false, stageDue := some (s.clock + 150000)
        drive := if s.cool.warning = true then none else some .forward }) := by
  have hhoming : s.leaveDipping = s.startHoming := by
    unfold State.leaveDipping
    rw [hp]
  have hknown : ({ s.changer with state := .homing, position := none } : Changer) = { s.changer with state := .homing } := by
    rw [← hp]
  rw [hhoming]
  unfold State.startHoming
  rw [hknown]
  by_cases hgate : s.changer.sense.gateOccupied = true
  · rw [if_pos hgate, if_pos hgate]
    rfl
  · rw [if_neg hgate, if_neg hgate]
    exact State.homingSearch_begins (s := s.putChanger { s.changer with state := .homing }) (hmark.resolve_left hgate)

/-- Settles O21. -/
theorem rampStepFollowsTheFormula : Obligations.RampStepFollowsTheFormula := by
  refine ⟨?_, fun l0 l1 k j n hn hk hj => ⟨rampLevel_zero l0 l1 n, rampLevel_land hn, fun hle => ?_, fun hle => ?_⟩⟩
  · intro ch sense s c now stepped hrun hsteady
    have hstepped : c.stepRamp now = stepped := by
      have hend : c.count + 1 ≥ c.steps ↔ c.count + 1 = c.steps := by omega
      simp only [FadeChannel.stepRamp, hend]
      rfl
    have hfade : (s.ramped ch).fade = s.fade.putChannel ch stepped := congrArg (s.fade.putChannel ch) hstepped
    have hexec : exec (.rampStep ch sense) s = .next (s.settleFrom (s.rampStep ch sense)) :=
      if_pos (by simpa [FadeChannel.running] using ⟨hrun, hsteady⟩)
    have hramped : s.onlyChanges [.fade, .clock] (s.ramped ch) := by
      intro b hb; cases b <;> first | rfl | simp at hb
    have hleaves (hch : ch = .lamp) (hst : s.changer.state = .dipping) (hdip : c.state = .dipped)
        (hlast : c.count + 1 = c.steps) : s.rampStep ch sense = ((s.ramped ch).sensed sense).leaveDipping := by
      subst hch
      rw [State.rampStep_eq]
      exact if_pos ⟨rfl, s.ramped_dipComplete.mpr ⟨hdip, hlast.ge⟩, hst⟩
    have hgoes {after : Changer} (hu : s.rampStep ch sense = (s.ramped ch).putChanger after) :
        ∃ t, exec (.rampStep ch sense) s = .next t ∧ t.fade = s.fade.putChannel ch stepped ∧ t.clock = now
          ∧ t.changer = after := by
      refine ⟨_, hexec, ?_, ?_, ?_⟩
      · rw [State.settleFrom_frame _ _ .fade (by decide), hu]
        exact hfade
      · rw [State.settleFrom_frame _ _ .clock (by decide), hu]
        rfl
      · rw [State.settleFrom_frame _ _ .changer (by decide), hu]
        rfl
    refine ⟨fun hstays => ?_, fun hch hst hdip hlast p hp hgate => ?_,
      fun hch hst hdip hlast p hp hle hgate r hr n hn hne => ?_, fun hch hst hdip hlast hp hsense => ?_⟩
    · have hstep : s.rampStep ch sense = s.ramped ch := by
        rw [State.rampStep_eq]
        refine if_neg ?_
        rintro ⟨rfl, hcomplete, hst⟩
        obtain ⟨hdip, hend⟩ := s.ramped_dipComplete.mp hcomplete
        obtain hno | hno | hno | hno := hstays
        · cases hno
        · exact hno hst
        · exact hno hdip
        · exact absurd hend (Nat.not_le.mpr hno)
      refine ⟨_, hexec, ?_, ?_, ?_⟩
      · rw [State.settleFrom_frame _ _ .fade (by decide), hstep, hfade]
      · rw [State.settleFrom_frame _ _ .clock (by decide), hstep]
        rfl
      · rw [hstep]
        exact hramped.andThen (State.settleFrom_frame _ _) (by decide) (by decide)
    · have hdone := State.leaveDipping_occupied (s := (s.ramped ch).sensed sense) hp hgate
      exact hgoes ((hleaves hch hst hdip hlast).trans hdone)
    · intro ahead dir
      have hdone := State.leaveDipping_rotates (s := (s.ramped ch).sensed sense) hp hgate hr hn hne
      exact hgoes ((hleaves hch hst hdip hlast).trans hdone)
    · have hdone := State.leaveDipping_unknown (s := (s.ramped ch).sensed sense) hp hsense
      exact hgoes ((hleaves hch hst hdip hlast).trans hdone)
  · exact ⟨rampLevel_mono hle hk, by
      have := rampLevel_between (l0 := l0) (l1 := l1) hj
      omega⟩
  · exact ⟨rampLevel_anti hle hk, by
      have := rampLevel_between (l0 := l0) (l1 := l1) hj
      omega⟩

end Sys2Proof.Machine
end

section
/-! What the LAMP channel takes at the ends of a change (R15, R64, R70 to R72). -/

namespace Sys2Proof.Machine

/-- The lamp preset of the final position, where the last drop found a slide (R70 case 2, R72). -/
theorem State.presetAt_eq (s : State) (final : Option Nat) (found : Bool) : s.presetAt final found =
    if found = true then final.bind (fun p => if p = 0 then none else (s.changer.map[p - 1]?).bind TrayEntry.lampPreset)
    else none := by
  unfold State.presetAt State.entryAt
  cases final with
  | none => rfl
  | some p =>
    by_cases hp : p = 0 <;> simp [hp]

/-- Presets outlive the entries' states (R4, R19). -/
theorem unseenMap_preset (map : List TrayEntry) (i : Nat) :
    ((unseenMap map)[i]?).bind TrayEntry.lampPreset = (map[i]?).bind TrayEntry.lampPreset := by
  rw [unseenMap, List.getElem?_map]
  cases map[i]? <;> rfl

/-- A channel that takes its pending fade (R64). -/
def FadeChannel.takesPending (now : Nat) (c : FadeChannel) : FadeChannel :=
  match c.pending with
  | none => c
  | some f => { c.takes f.level f.time now with pending := none }

theorem State.takePending_fade (ch : Channel) (s : State) : (s.takePending ch).fade =
    s.fade.putChannel ch ((s.fade.channel ch).takesPending s.clock) := by
  unfold State.takePending FadeChannel.takesPending
  dsimp only
  cases hp : (s.fade.channel ch).pending with
  | none => cases ch <;> rfl
  | some f =>
    dsimp only
    rw [FadeChannel.rampTo_eq_takes]
    rfl

/-- A channel that is restored: one with a pending fade goes on waiting (R64, R70). -/
def FadeChannel.restored (l n now : Nat) (c : FadeChannel) : FadeChannel :=
  { c.takes l n now with state := if c.pending ≠ none then .pending else if n = 0 then .steady else .ramping }

/-- The LAMP channel at a change end with the watch w where it takes no pending fade (R70, R72): the fade of the restore
after a dip, else the preset alone. -/
def FadeChannel.watched (w : Watch) (back : Fade) (preset : Option Nat) (time now : Nat) (c : FadeChannel) : FadeChannel :=
  if w.dipped then c.restored back.level back.time now
  else if w.override.isSome then c
  else preset.elim c (fun l => c.takes l time now)

theorem FadeChannel.restored_eq (l n now : Nat) (c : FadeChannel) : c.restored l n now =
    if c.pending.isSome = true then { c.takes l n now with state := .pending } else c.takes l n now := by
  unfold FadeChannel.restored
  cases hp : c.pending with
  | none => rfl
  | some f => rfl

theorem State.restoreLamp_fade (w : Watch) (final : Option Nat) (found : Bool) (s : State) :
    (s.restoreLamp w final found).fade = { s.fade with
      lamp := s.fade.lamp.watched w (s.restoreChoice w final found) (s.presetAt final found) s.items.restoreTime s.clock } := by
  unfold State.restoreLamp FadeChannel.watched
  dsimp only
  by_cases hdip : w.dipped = true
  · rw [if_pos hdip, if_pos hdip, FadeChannel.rampTo_eq_takes, FadeChannel.restored_eq]
    rfl
  · rw [if_neg hdip, if_neg hdip]
    by_cases hover : w.override.isSome = true
    · rw [if_pos hover, if_pos hover]
    · rw [if_neg hover, if_neg hover]
      cases s.presetAt final found with
      | none => rfl
      | some l =>
        dsimp only
        rw [FadeChannel.rampTo_eq_takes]
        rfl

/-- The two channels and the watch at a change end (R64, R70, R72). -/
theorem State.fadeChangeEnd_fade {s : State} {w : Watch} (hw : s.fade.watch = some w) (final : Option Nat)
    (found free : Bool) : (s.fadeChangeEnd final found free).fade =
      { lamp := if free = true ∧ s.fade.lamp.pending.isSome = true then s.fade.lamp.takesPending s.clock
          else s.fade.lamp.watched w (s.restoreChoice w final found) (s.presetAt final found) s.items.restoreTime s.clock
        audio := if free = true then s.fade.audio.takesPending s.clock else s.fade.audio
        watch := none } := by
  have hframe (ch : Channel) : (s.takePending ch).clock = s.clock := s.takePending_frame ch .clock (by decide)
  have hrestore : (s.restoreLamp w final found).clock = s.clock := s.restoreLamp_frame w final found .clock (by decide)
  unfold State.fadeChangeEnd
  rw [hw]
  dsimp only
  by_cases hfree : free = true
  · rw [if_pos hfree, if_pos hfree, State.takePending_fade]
    dsimp only
    by_cases hpending : s.fade.lamp.pending.isSome = true
    · rw [if_pos ⟨hfree, hpending⟩, if_pos ⟨hfree, hpending⟩, State.takePending_fade, hframe]
      rfl
    · rw [if_neg fun hno => hpending hno.2, if_neg fun hno => hpending hno.2, State.restoreLamp_fade, hrestore]
      rfl
  · rw [if_neg hfree, if_neg hfree, if_neg fun hno => hfree hno.1, if_neg fun hno => hfree hno.1, State.restoreLamp_fade]

/-- The Fade Engine at a change end, handed the fades, the presets and the settings of s (R64, R70, R72). -/
theorem State.fadesAtEnd_of {s u t : State} {w : Watch} (hw : s.fade.watch = some w) {found free : Bool}
    (hfade : u.fade = s.fade) (hitems : u.items = s.items)
    (hpreset : u.presetAt s.changer.position found = s.presetAt s.changer.position found)
    (ht : t.fade = (u.fadeChangeEnd s.changer.position found free).fade) : s.fadesAtEnd found free u.clock w t := by
  have hwatch : u.fade.watch = some w := by rw [hfade, hw]
  have hchoice : u.restoreChoice w s.changer.position found = s.restoreChoice w s.changer.position found := by
    unfold State.restoreChoice
    rw [hpreset, hfade, hitems]
  rw [State.fadeChangeEnd_fade hwatch, hfade, hpreset, hchoice, hitems] at ht
  unfold State.fadesAtEnd
  intro c preset back restored restores
  have hpresets : s.presetAt s.changer.position found = preset := s.presetAt_eq _ _
  have hlamp (hr : restores) : t.fade.lamp = c.watched w (s.restoreChoice w s.changer.position found) preset
      s.items.restoreTime u.clock := by
    rw [ht, hpresets]
    refine if_neg ?_
    rintro ⟨hfree, hpending⟩
    obtain h | h := hr
    · rw [show s.fade.lamp.pending = none from h] at hpending
      cases hpending
    · rw [h] at hfree
      cases hfree
  have hdipped (hr : restores) (hdip : w.dipped = true) {l n : Nat}
      (hf : s.restoreChoice w s.changer.position found = ⟨l, n⟩) : t.fade.lamp = restored l n := by
    rw [hlamp hr, hf]
    exact if_pos hdip
  have hplain (hr : restores) (hdip : w.dipped = false) : t.fade.lamp = if w.override.isSome = true then c
      else preset.elim c (fun l => c.takes l s.items.restoreTime u.clock) := by
    rw [hlamp hr]
    exact if_neg (by rw [hdip]; decide)
  refine ⟨by rw [ht], fun hfree f hf => ?_, fun hr hdip f hf => ?_, fun hr hdip hno l hl => ?_,
    fun hr hdip hno hnone l hl => ?_, fun hr hdip hover => ?_, fun hr hdip hno l hl => ?_, ?_⟩
  · rw [ht]
    dsimp only
    rw [if_pos ⟨hfree, by rw [hf]; rfl⟩]
    unfold FadeChannel.takesPending
    rw [hf]
  · refine hdipped hr hdip ?_
    unfold State.restoreChoice
    rw [hf]
  · refine hdipped hr hdip ?_
    unfold State.restoreChoice
    rw [hno, hpresets, hl]
    rfl
  · refine hdipped hr hdip ?_
    unfold State.restoreChoice
    rw [hno, hpresets, hnone, hl]
    rfl
  · rw [hplain hr hdip]
    obtain hsome | hnone := hover
    · rw [if_pos hsome]
    · rw [hnone]
      exact ite_self c
  · rw [hplain hr hdip, hno, hl]
    rfl
  · rw [ht]
    unfold FadeChannel.takesPending
    cases s.fade.audio.pending with
    | none => exact ite_self s.fade.audio
    | some f => rfl

/-- The presets that a change end reads stand, whatever became of the changer (R4, R19). -/
theorem State.presetAt_congr {s u : State} (final : Option Nat) (found : Bool)
    (h : ∀ i : Nat, (u.changer.map[i]?).bind TrayEntry.lampPreset = (s.changer.map[i]?).bind TrayEntry.lampPreset) :
    u.presetAt final found = s.presetAt final found := by
  rw [State.presetAt_eq, State.presetAt_eq]
  simp only [h]

theorem State.stops_presets (after : ChangerState) (jam : Bool) (s : State) (i : Nat) :
    ((s.stops after jam).changer.map[i]?).bind TrayEntry.lampPreset = (s.changer.map[i]?).bind TrayEntry.lampPreset := by
  unfold State.stops
  split_ifs
  · exact unseenMap_preset s.changer.map i
  · rfl

/-- The end of a change hands the Fade Engine the position that stood at it (R15, R70). -/
theorem State.endChange_handsOver {u : State} {r : ChangeRecord} (hr : u.changer.record = some r) (o : ChangeOutcome)
    (after : ChangerState) (count : Bool) : ∃ v, u.endChange o after count
        = v.fadeChangeEnd u.changer.position r.found (after != ChangerState.jammed)
      ∧ u.onlyChanges [.usage, .link, .changer, .arb] v
      ∧ ∀ i : Nat, (v.changer.map[i]?).bind TrayEntry.lampPreset = (u.changer.map[i]?).bind TrayEntry.lampPreset := by
  have hstops : u.onlyChanges [.usage, .link, .changer, .arb] ((u.counted o r count).stops after u.changer.jamClear) :=
    (u.counted_frame o r count).andThen (State.stops_frame _ _ _) (by decide) (by decide)
  have hpresets (i : Nat) : (((u.counted o r count).stops after u.changer.jamClear).changer.map[i]?).bind
      TrayEntry.lampPreset = (u.changer.map[i]?).bind TrayEntry.lampPreset := by
    rw [State.stops_presets, u.counted_frame o r count .changer (by decide)]
  rw [State.endChange_eq hr]
  cases r.request with
  | none => exact ⟨_, rfl, hstops, hpresets⟩
  | some q =>
    refine ⟨_, rfl, hstops.andThen (State.completeRequest_frame _ _ _ _) (by decide) (by decide), fun i => ?_⟩
    rw [State.completeRequest_frame _ _ _ _ .changer (by decide)]
    exact hpresets i

/-- The fades at the end of a change that goes on from u, where u has the changer's position and map, the fades and the
settings of s (R15, R64, R70 to R72). -/
theorem State.endChange_fadesAtEnd {s u t : State} {r : ChangeRecord} {w : Watch} (hr : u.changer.record = some r)
    (hw : s.fade.watch = some w) (hmap : u.changer.map = s.changer.map) (hpos : u.changer.position = s.changer.position)
    (hfade : u.fade = s.fade) (hitems : u.items = s.items) {o : ChangeOutcome} {after : ChangerState} {count : Bool}
    (ht : t.fade = (u.endChange o after count).fade) :
    s.fadesAtEnd r.found (after != ChangerState.jammed) u.clock w t := by
  obtain ⟨v, hv, hframe, hpresets⟩ := State.endChange_handsOver hr o after count
  have hclock : v.clock = u.clock := hframe .clock (by decide)
  rw [hv, hpos] at ht
  rw [← hclock]
  refine State.fadesAtEnd_of hw (Eq.trans (hframe .fade (by decide)) hfade) (Eq.trans (hframe .items (by decide)) hitems) ?_ ht
  exact State.presetAt_congr _ _ fun i => by rw [hpresets, hmap]

/-- The fades at an end from s with the clock brought on to u (R15, R64, R70 to R72). -/
theorem State.endChange_fadesFrom {s u t : State} {r : ChangeRecord} {w : Watch} (hclock : s.onlyChanges [.clock] u)
    (hr : s.changer.record = some r) (hw : s.fade.watch = some w) {o : ChangeOutcome} {after : ChangerState}
    {count : Bool} (ht : (u.endChange o after count).onlyChanges [.arb, .lamp, .cool, .store, .prot, .link, .cue, .tape,
      .dec, .panel] t) : s.fadesAtEnd r.found (after != ChangerState.jammed) u.clock w t := by
  have hchanger : u.changer = s.changer := hclock .changer (by decide)
  exact State.endChange_fadesAtEnd (by rw [hchanger, hr]) hw (by rw [hchanger]) (by rw [hchanger])
    (hclock .fade (by decide)) (hclock .items (by decide)) (ht .fade (by decide))

theorem State.failsWith_after (o : ChangeOutcome) (after : ChangerState) (c : Cause) (s u : State) :
    (s.endChange o after true).onlyChanges [.arb, .lamp, .cool, .store, .prot, .link, .cue, .tape, .dec, .panel]
      (u.settleFrom (s.failsWith o after c)) :=
  (State.raise_frame c _).andThen (State.settleFrom_frame _ _) (by decide) (by decide)

/-- The state in which the changer ends what is in flight when the tray is taken out (R20). -/
def State.withoutTray (s : State) : State := { s with changer := { s.changer with trayPresent := false } }

theorem execTrayRemoval_eq {s : State} (h : s.changer.trayPresent = true) : execTrayRemoval s
    = .next (s.settleFrom { (s.withoutTray.abortToLost true).flushAll with
        arb := { (s.withoutTray.abortToLost true).flushAll.arb with stack := [] } }) := by
  unfold execTrayRemoval State.withoutTray
  rw [if_pos h]

/-- The state in which what is in flight ends when the supply-fail warning is asserted (R88). -/
def State.underWarning (s : State) : State := { s with cool := { s.cool with warning := true, stallDue := none } }

/-- What the warning does past the changer and the tape: no pulse is sent, the focus motor is off (R56, R161). -/
def State.warned (s : State) : State :=
  let s1 := (s.underWarning.abortToLost true).stopTape .supplyFail
  { s1 with
    lamp := { s1.lamp with firingDue := none }
    panel := { s1.panel with focus := .off, focusDue := none } }

theorem execSupplyFailWarning_eq {s : State} (h : s.cool.warning = false) :
    execSupplyFailWarning s = .next (s.settleFrom s.warned.requestCounterSave) := by
  unfold execSupplyFailWarning State.warned State.underWarning
  simp only [h, Bool.false_eq_true, if_false]

theorem State.warned_frame (s : State) : (s.underWarning.abortToLost true).onlyChanges
    [.tape, .dec, .lamp, .panel] s.warned :=
  (State.stopTape_frame .supplyFail _).andThen (bs := [.lamp, .panel])
    (by intro b hb; cases b <;> first | rfl | simp at hb) (by decide) (by decide)

theorem State.abortToLost_record {s : State} {r : ChangeRecord} (h : s.changer.record = some r) (count : Bool) :
    s.abortToLost count = s.endChange .aborted .lost count := by
  unfold State.abortToLost
  rw [h]

/-- Settles O23. -/
theorem changeEndRestoresTheLamp : Obligations.ChangeEndRestoresTheLamp := by
  intro s r hr w hw now
  have hreach := s.reach_frame s.changer.stageDue
  have hnow : (s.reach s.changer.stageDue).clock = now := by rw [State.reach_eq]
  have hfails (o : ChangeOutcome) (after : ChangerState) (c : Cause) :
      s.fadesAtEnd r.found (after != ChangerState.jammed) now w (State.settleFrom (s.reach s.changer.stageDue)
        ((s.reach s.changer.stageDue).failsWith o after c)) := by
    rw [← hnow]
    exact State.endChange_fadesFrom hreach hr hw (State.failsWith_after o after c _ _)
  refine ⟨fun hst => ⟨_, execSettleExpiry_eq hst hr, ?_⟩, fun hst => ?_, fun hst => ?_, fun hst hlift => ?_,
    fun hst hlift => ?_, fun hst hsteps => ?_, fun htray => ?_, fun hwarn => ?_⟩
  · rw [← hnow]
    exact State.endChange_fadesFrom (o := r.outcome.getD .done) (after := .idle) (count := true) hreach hr hw
      ((State.settleEnds_frame _ _).andThen (State.settleFrom_frame _ _) (by decide) (by decide))
  · refine ⟨_, execLiftLimitExpiry_lift hst, ?_⟩
    exact hfails .jammed .idle .gateJam
  · refine ⟨_, execReturnStepTimeout_returning hst, ?_⟩
    exact hfails .jammed .jammed .trayJam
  · refine ⟨_, execLiftLimitExpiry_homing hst hlift, ?_⟩
    exact hfails .aborted .lost .gateJam
  · refine ⟨_, execHomingStepTimeout_search hst hlift, ?_⟩
    exact hfails .aborted .lost .homeFail
  · refine ⟨_, execHomingStepCountReached_limit hst hr hsteps, ?_⟩
    exact State.endChange_fadesFrom (.refl [.clock] s) hr hw (State.failsWith_after .aborted .lost .homeFail _ _)
  · refine ⟨_, execTrayRemoval_eq htray, ?_⟩
    refine State.endChange_fadesAtEnd (u := s.withoutTray) (o := .aborted) (after := .lost) (count := true) hr hw rfl rfl
      rfl rfl ?_
    rw [State.settleFrom_frame _ _ .fade (by decide), ← State.abortToLost_record (s := s.withoutTray) hr]
    exact State.flushAll_frame _ .fade (by decide)
  · refine ⟨_, execSupplyFailWarning_eq hwarn, ?_⟩
    refine State.endChange_fadesAtEnd (u := s.underWarning) (o := .aborted) (after := .lost) (count := true) hr hw rfl
      rfl rfl rfl ?_
    rw [State.settleFrom_frame _ _ .fade (by decide), ← State.abortToLost_record (s := s.underWarning) hr,
      State.requestCounterSave_frame _ .fade (by decide)]
    exact State.warned_frame s .fade (by decide)

end Sys2Proof.Machine
end

section
/-! The tray taken out and put in: what was in flight, the flush with the cue debt that it turns into owed steps, and the
homing without a request (R5, R18, R20, R41, R139, R140). -/

namespace Sys2Proof.Machine

/-! ## Cue debt turned into owed steps (R25, R139) -/

/-- The state once k owed steps have joined the CUE queue (R139). -/
def State.owes (k : Nat) (s : State) : State := { s with
  arb := { s.arb with queues := { s.arb.queues with cue := s.arb.queues.cue ++ List.replicate k owed } }
  cue := { s.cue with debt := s.cue.debt - k } }

theorem State.owes_zero (s : State) : s.owes 0 = s := by
  unfold State.owes
  rw [List.replicate_zero, List.append_nil, Nat.sub_zero]

theorem State.owes_owes (j k : Nat) (s : State) : (s.owes j).owes k = s.owes (j + k) := by
  unfold State.owes
  simp only [List.append_assoc, List.replicate_append_replicate, Nat.sub_sub]

/-- Whether R25 lets an owed step join a CUE queue with room: it is a request like any other of its source. -/
def State.takesSteps (s : State) : Prop := s.cool.power ≠ .coolingDown ∧ s.prot.pl < 2

theorem State.refuses_owed_iff {s : State} (hroom : s.arb.queues.cue.length < 4) :
    s.refuses owedStep = none ↔ s.takesSteps := by
  have hdepth : owedStep.source.depth = 4 := rfl
  have hqueue : s.arb.queues.get owedStep.source = s.arb.queues.cue := rfl
  rw [State.refuses_eq_none_iff (r := owedStep) s (fun h => by cases h), hdepth, hqueue]
  unfold State.takesSteps
  simp [owedStep, plainRequest, hroom]

theorem State.offerOwed_taken {s : State} (hroom : s.arb.queues.cue.length < 4) (ht : s.takesSteps) :
    s.offerOwed = s.owes 1 := by
  unfold State.offerOwed
  rw [if_pos ((State.refuses_owed_iff hroom).mpr ht)]
  rfl

theorem State.offerOwed_dropped {s : State} (hroom : s.arb.queues.cue.length < 4) (ht : ¬s.takesSteps) :
    s.offerOwed = { s with cue := { s.cue with debt := s.cue.debt - 1 } } := by
  unfold State.offerOwed
  rw [if_neg fun h => ht ((State.refuses_owed_iff hroom).mp h)]

/-- Owed steps join the CUE queue until it is full or none is owed (R139). -/
theorem State.convertDebt_taken {s : State} (ht : s.takesSteps) (n : Nat) (hn : s.cue.debt ≤ n) :
    State.convertDebt n s = s.owes (min (4 - s.arb.queues.cue.length) s.cue.debt) := by
  induction n generalizing s with
  | zero =>
    have hzero : s.cue.debt = 0 := Nat.le_zero.mp hn
    rw [hzero, Nat.min_zero, State.owes_zero]
    rfl
  | succ n ih =>
    unfold State.convertDebt
    by_cases hroom : s.arb.queues.cue.length < 4 ∧ 0 < s.cue.debt
    · have hlen : (s.owes 1).arb.queues.cue.length = s.arb.queues.cue.length + 1 := List.length_append
      have hdebt : (s.owes 1).cue.debt = s.cue.debt - 1 := rfl
      rw [if_pos hroom, State.offerOwed_taken hroom.1 ht, ih (s := s.owes 1) ht (by omega), State.owes_owes, hlen, hdebt]
      congr 1
      omega
    · rw [if_neg hroom, show min (4 - s.arb.queues.cue.length) s.cue.debt = 0 by omega, State.owes_zero]

/-- Owed steps that R25 drops are owed no longer (R139). -/
theorem State.convertDebt_dropped {s : State} (ht : ¬s.takesSteps) (hroom : s.arb.queues.cue.length < 4) (n : Nat)
    (hn : s.cue.debt ≤ n) : State.convertDebt n s = { s with cue := { s.cue with debt := 0 } } := by
  induction n generalizing s with
  | zero =>
    have hzero : s.cue.debt = 0 := Nat.le_zero.mp hn
    exact congrArg (fun n => ({ s with cue := { s.cue with debt := n } } : State)) hzero
  | succ n ih =>
    unfold State.convertDebt
    by_cases hdebt : 0 < s.cue.debt
    · rw [if_pos ⟨hroom, hdebt⟩, State.offerOwed_dropped hroom ht]
      exact ih (s := { s with cue := { s.cue with debt := s.cue.debt - 1 } }) ht hroom (Nat.sub_le_of_le_add hn)
    · have hzero : s.cue.debt = 0 := by omega
      rw [if_neg (by omega)]
      exact congrArg (fun n => ({ s with cue := { s.cue with debt := n } } : State)) hzero

/-! ## The flush (R41, R140) -/

/-- What the flush hands to the Cue Map: every queue empty, an entry made for each LINK request (R41). -/
def State.flushed (s : State) : State := { s.flushLink with arb := { s.flushLink.arb with queues := noQueues } }

theorem State.flushed_eq {s : State} (h : s.arb.completions.length ≤ 8) : s.flushed = { s with
    arb := { s.arb with
      queues := noQueues
      completions := lastEight (s.arb.completions ++ linkCompletions .aborted s.changer.position s.arb.queues.link) }
    link := { s.link with flags := { s.link.flags with
      completion := s.link.flags.completion
        || !(linkCompletions .aborted s.changer.position s.arb.queues.link).isEmpty } } } := by
  unfold State.flushed
  rw [State.flushLink_eq h]

theorem State.flushAll_flushed (s : State) : s.flushAll = s.flushed.reportCue := rfl

theorem State.flushed_takesSteps {s : State} (ht : s.takesSteps) : s.flushed.takesSteps := by
  unfold State.takesSteps
  rw [show s.flushed.cool = s.cool from s.flushLink_frame .cool (by decide),
    show s.flushed.prot = s.prot from s.flushLink_frame .prot (by decide)]
  exact ht

theorem State.flushAll_taken_arb {s : State} (ht : s.takesSteps) : s.flushAll.arb = { s.flushed.arb with
    queues := { noQueues with cue := List.replicate (min 4 s.cue.debt) owed } } := by
  have hcue : s.flushed.cue = s.cue := s.flushLink_frame .cue (by decide)
  rw [State.flushAll_flushed, State.reportCue, State.judgeQueue_frame _ .arb (by decide),
    State.convertDebt_taken (State.flushed_takesSteps ht) _ le_rfl, hcue]
  rfl

theorem State.flushAll_taken_debt {s : State} (ht : s.takesSteps) : s.flushAll.cue.debt = s.cue.debt - 4 := by
  have hcue : s.flushed.cue = s.cue := s.flushLink_frame .cue (by decide)
  have hdebt : s.flushAll.cue.debt = s.flushed.cue.debt - min (4 - s.flushed.arb.queues.cue.length) s.flushed.cue.debt := by
    rw [State.flushAll_flushed, State.reportCue, State.judgeQueue_debt, State.convertDebt_taken (State.flushed_takesSteps ht) _ le_rfl]
    rfl
  rw [hdebt, hcue, show s.flushed.arb.queues.cue.length = 0 from rfl]
  omega

/-- Debt fills the CUE queue alone (R139). -/
theorem State.convertDebt_queues (n : Nat) (s : State) :
    ∃ l, (State.convertDebt n s).arb = { s.arb with queues := { s.arb.queues with cue := l } } := by
  induction n generalizing s with
  | zero => exact ⟨s.arb.queues.cue, rfl⟩
  | succ n ih =>
    unfold State.convertDebt
    split_ifs with h
    · obtain ⟨l, hl⟩ := ih s.offerOwed
      refine ⟨l, hl.trans ?_⟩
      by_cases ht : s.takesSteps
      · rw [State.offerOwed_taken h.1 ht]
        rfl
      · rw [State.offerOwed_dropped h.1 ht]
    · exact ⟨s.arb.queues.cue, rfl⟩

theorem State.flushAll_flushed_arb (s : State) :
    ∃ l, s.flushAll.arb = { s.flushed.arb with queues := { noQueues with cue := l } } := by
  obtain ⟨l, hl⟩ := State.convertDebt_queues s.flushed.cue.debt s.flushed
  refine ⟨l, ?_⟩
  rw [State.flushAll_flushed, State.reportCue, State.judgeQueue_frame _ .arb (by decide), hl]
  rfl

/-! ## What is in flight, ended ABORTED into LOST (R20 to R22) -/

/-- The request of the change in flight, if there is one. -/
def State.inFlight (s : State) : List Request := (s.changer.record.bind ChangeRecord.request).toList

theorem State.abortToLost_arb {s : State} (hlen : s.arb.completions.length ≤ 8) (count : Bool) :
    (s.abortToLost count).arb = { s.arb with
      dwellDue := none
      completions := lastEight (s.arb.completions ++ linkCompletions .aborted none s.inFlight) } := by
  have hnone : lastEight (s.arb.completions ++ linkCompletions .aborted none []) = s.arb.completions := by
    rw [show linkCompletions .aborted none [] = [] from rfl, List.append_nil, lastEight_of_length_le hlen]
  unfold State.inFlight
  cases hr : s.changer.record with
  | none =>
    unfold State.abortToLost
    rw [hr]
    dsimp only [Option.bind_none, Option.toList_none]
    rw [State.takePendings_frame _ .arb (by decide), hnone]
    rfl
  | some r =>
    rw [State.abortToLost_record hr, State.endChange_arb hr, if_pos (Or.inl rfl), if_pos rfl]
    unfold ChangeRecord.completes
    dsimp only [Option.bind_some]
    cases r.request with
    | none =>
      dsimp only [Option.toList_none]
      rw [hnone]
    | some q =>
      dsimp only [Option.toList_some]
      by_cases hlink : q.source = .link
      · rw [if_pos hlink]
        simp [linkCompletions, hlink]
      · rw [if_neg hlink]
        simp [linkCompletions, hlink, lastEight_of_length_le hlen]

/-! ## The homing without a request (R5, R18) -/

/-- The state in which a homing without a request begins (R5, R18). -/
def State.homes (s : State) : State := { s with
  changer := { s.changer with state := .homing, position := none, record := some (newRecord none none none none) }
  arb := { s.arb with dwellDue := none } }

theorem State.homeWithoutRequest_lifts {s : State} (hgate : s.changer.sense.gateOccupied = true) :
    s.homeWithoutRequest = s.homes.putChanger { s.homes.changer with
      homingLift := true, lift := !s.cool.warning, stageDue := some (s.clock + 250000) } := by
  unfold State.homeWithoutRequest State.startHoming
  exact if_pos hgate

theorem State.homeWithoutRequest_clear {s : State} (hgate : s.changer.sense.gateOccupied = false) :
    s.homeWithoutRequest = s.homes.homingSearch := by
  unfold State.homeWithoutRequest State.startHoming
  exact if_neg (by rw [State.cancelDwell_changer, hgate]; decide)

theorem State.homeWithoutRequest_searches {s : State} (hgate : s.changer.sense.gateOccupied = false)
    (hmark : s.changer.sense.homeMark = false) : s.homeWithoutRequest = s.homes.putChanger { s.homes.changer with
      homingLift := false, lift := false, stageDue := some (s.clock + 150000)
      drive := if s.cool.warning = true then none else some .forward } :=
  (State.homeWithoutRequest_clear hgate).trans (State.homingSearch_begins (s := s.homes) hmark)

theorem State.homeWithoutRequest_arrives {s : State} (hgate : s.changer.sense.gateOccupied = false)
    (hmark : s.changer.sense.homeMark = true) (hjam : s.changer.jamClear = false) :
    s.homeWithoutRequest.changer = { s.changer.restsIn .idle with position := some 0 } := by
  have hsearch : s.homes.homingSearch = s.homes.homingSuccess := if_pos hmark
  rw [State.homeWithoutRequest_clear hgate, hsearch]
  exact State.homingSuccess_alone (s := s.homes) rfl rfl hjam

theorem State.homeWithoutRequest_found {s : State} (hgate : s.changer.sense.gateOccupied = false)
    (hmark : s.changer.sense.homeMark = true) : s.homeWithoutRequest = (s.homes.putChanger { s.homes.changer with
      position := some 0, drive := none, lift := false, homingLift := false, stageDue := none }).endChange .done .idle
        false := by
  have hsearch : s.homes.homingSearch = s.homes.homingSuccess := if_pos hmark
  rw [State.homeWithoutRequest_clear hgate, hsearch]
  rfl

/-- Of the arbiter a homing without a request cancels the dwell timer alone (R5, R37). -/
theorem State.homeWithoutRequest_arb (s : State) : s.homeWithoutRequest.arb = { s.arb with dwellDue := none } := by
  by_cases hgate : s.changer.sense.gateOccupied = true
  · rw [State.homeWithoutRequest_lifts hgate]
    rfl
  rw [Bool.not_eq_true] at hgate
  by_cases hmark : s.changer.sense.homeMark = true
  · have hend := State.endChange_arb (s := s.homes.putChanger { s.homes.changer with
      position := some 0, drive := none, lift := false, homingLift := false, stageDue := none }) rfl .done .idle false
    rw [State.homeWithoutRequest_found hgate hmark, hend]
    exact congrArg (fun d => { s.arb with dwellDue := d }) (ite_self none)
  · rw [Bool.not_eq_true] at hmark
    rw [State.homeWithoutRequest_searches hgate hmark]
    rfl

/-- The state in which a tray is put in (R20). -/
def State.withTray (sense : Sense) (s : State) : State :=
  { s with changer := { s.changer with trayPresent := true, sense := sense } }

/-- Settles O19. -/
theorem trayRemovalAndInsertion : Obligations.TrayRemovalAndInsertion := by
  refine ⟨fun s htray hlen => ?_, fun sense s htray hno => ?_, fun sense s htray hauto hlost hjam => ?_⟩
  · intro ended flushed
    have hended : ended = linkCompletions .aborted none s.inFlight := by
      unfold ended State.inFlight
      cases s.changer.record.bind ChangeRecord.request with
      | none => rfl
      | some q => by_cases hlink : q.source = .link <;> simp [linkCompletions, hlink]
    have harb := State.abortToLost_arb (s := s.withoutTray) hlen true
    have hchanger : (s.withoutTray.abortToLost true).changer = { s.changer.lost with trayPresent := false } :=
      State.abortToLost_changer true s.withoutTray
    have hframe := State.abortToLost_frame true s.withoutTray
    have hlist : (s.withoutTray.abortToLost true).arb.completions.length ≤ 8 := by
      rw [harb]
      exact length_lastEight _
    obtain ⟨l, hflush⟩ := State.flushAll_flushed_arb (s.withoutTray.abortToLost true)
    refine ⟨_, execTrayRemoval_eq htray, ?_, ?_, ?_, fun hrec => ?_, ?_, ?_, ?_, ?_, ?_, fun hpl hpower => ?_⟩
    · rw [State.settleFrom_frame _ _ .changer (by decide)]
      exact Eq.trans (State.flushAll_frame _ .changer (by decide)) hchanger
    · rw [State.settleFrom_frame _ _ .arb (by decide)]
    · rw [State.settleFrom_frame _ _ .arb (by decide)]
      dsimp only
      rw [hflush, State.flushed_eq hlist, harb]
    · obtain ⟨r, hr⟩ := Option.ne_none_iff_exists'.mp hrec
      have hwatch := State.endChange_watch (s := s.withoutTray) hr .aborted .lost true
      rw [State.settleFrom_frame _ _ .fade (by decide)]
      dsimp only
      rw [State.flushAll_frame _ .fade (by decide), State.abortToLost_record (s := s.withoutTray) hr, hwatch]
    · rw [State.settleFrom_frame _ _ .arb (by decide)]
      dsimp only
      rw [hflush, State.flushed_eq hlist, harb, hchanger]
      dsimp only
      rw [lastEight_append, hended]
      rfl
    iterate 4
      · rw [State.settleFrom_frame _ _ .arb (by decide)]
        dsimp only
        rw [hflush]
        rfl
    · have ht : (s.withoutTray.abortToLost true).takesSteps := by
        unfold State.takesSteps
        rw [hframe .cool (by decide), hframe .prot (by decide)]
        exact ⟨hpower, hpl⟩
      have hdebt : (s.withoutTray.abortToLost true).cue.debt = s.cue.debt :=
        congrArg (·.debt) (hframe .cue (by decide))
      refine ⟨?_, ?_⟩
      · rw [State.settleFrom_frame _ _ .arb (by decide)]
        dsimp only
        rw [State.flushAll_taken_arb ht, hdebt]
      · rw [State.settleFrom_frame _ _ .cue (by decide)]
        dsimp only
        rw [State.flushAll_taken_debt ht, hdebt]
  · refine Eq.trans (if_neg (by rw [htray]; decide)) (if_neg hno)
  · have hexec : exec (.trayInsertion sense) s = .next (s.settleFrom (s.withTray sense).homeWithoutRequest) :=
      Eq.trans (if_neg (by rw [htray]; decide)) (if_pos ⟨hauto, hlost⟩)
    refine ⟨_, hexec, ?_⟩
    rw [State.settleFrom_frame _ _ .changer (by decide), State.settleFrom_frame _ _ .arb (by decide),
      State.homeWithoutRequest_arb]
    by_cases hgate : sense.gateOccupied = true
    · rw [if_pos hgate, State.homeWithoutRequest_lifts (s := s.withTray sense) hgate]
      exact ⟨rfl, rfl, rfl, rfl, rfl, rfl, rfl⟩
    rw [if_neg hgate]
    rw [Bool.not_eq_true] at hgate
    by_cases hmark : sense.homeMark = true
    · rw [if_pos hmark, State.homeWithoutRequest_arrives (s := s.withTray sense) hgate hmark hjam]
      exact ⟨rfl, rfl, rfl, rfl, rfl, rfl⟩
    · rw [if_neg hmark]
      rw [Bool.not_eq_true] at hmark
      rw [State.homeWithoutRequest_searches (s := s.withTray sense) hgate hmark]
      exact ⟨rfl, rfl, rfl, rfl, rfl, rfl⟩

end Sys2Proof.Machine
end

section
/-! The supply-fail warning (R21, R56, R88, R114, R161, R185). -/

namespace Sys2Proof.Machine

/-- The tape after a stop in place (R114). -/
theorem State.stopTape_tape (why : StopCause) (s : State) : (s.stopTape why).tape =
    if s.tape.state = .noCassette then s.tape else { s.tape with
      state := .stopped
      pause := if s.tape.state = .stopped then s.tape.pause else ⟨false, false, false, false⟩
      tachDue := if s.tape.state = .stopped then s.tape.tachDue else none
      seekTarget := if s.tape.state = .stopped then s.tape.seekTarget else none
      lastStop := why } := by
  unfold State.stopTape
  split
  · next hno => rw [if_pos hno]
  · next hstopped =>
    simp only [hstopped, if_true]
    rfl
  · next hno hstopped =>
    rw [if_neg hno, if_neg hstopped, if_neg hstopped, if_neg hstopped]
    rfl

/-- Under the warning a settling leaves the stall timer and the stall as they are (R81). -/
theorem State.settleFrom_stall_warned {t : State} (h : t.cool.warning = true) (s : State) :
    (s.settleFrom t).cool.stallDue = t.cool.stallDue ∧ (s.settleFrom t).cool.stalled = t.cool.stalled := by
  have hdrive : (t.driveChanged s.drive).cool.stallDue = t.cool.stallDue
      ∧ (t.driveChanged s.drive).cool.stalled = t.cool.stalled
      ∧ (t.driveChanged s.drive).cool.warning = t.cool.warning := by
    unfold State.driveChanged State.requestCounterSave
    split_ifs <;> exact ⟨rfl, rfl, rfl⟩
  have hoff (d : Bool) (u : State) : (u.offChanged d).cool.stallDue = u.cool.stallDue
      ∧ (u.offChanged d).cool.stalled = u.cool.stalled ∧ (u.offChanged d).cool.warning = u.cool.warning := by
    unfold State.offChanged
    split_ifs <;> exact ⟨rfl, rfl, rfl⟩
  have hduty : ((t.driveChanged s.drive).offChanged s.offReady).dutyChanged s.duty
      = (t.driveChanged s.drive).offChanged s.offReady := by
    refine if_pos ?_
    rw [(hoff _ _).2.2, hdrive.2.2, h]
  have hcool : (s.settleFrom t).cool = ((t.driveChanged s.drive).offChanged s.offReady).cool := by
    unfold State.settleFrom State.lifeChanged
    rw [State.raiseFlagIf_frame _ _ _ .cool (by decide), hduty]
  rw [hcool, (hoff _ _).1, (hoff _ _).2.1]
  exact ⟨hdrive.1, hdrive.2.1⟩

/-- A counter save in progress or waiting outlives what settles (R185). -/
theorem State.settleFrom_saves (s t : State) :
    (t.store.saving.isSome = true → (s.settleFrom t).store.saving.isSome = true)
      ∧ (t.store.waiting = true → t.store.saving.isSome = true → (s.settleFrom t).store.waiting = true) := by
  rw [State.settleFrom_store]
  unfold State.driveChanged State.requestCounterSave
  split_ifs with _ hsaving
  · exact ⟨fun h => h, fun _ _ => rfl⟩
  · exact ⟨fun _ => rfl, fun _ h => absurd h hsaving⟩
  · exact ⟨fun h => h, fun h _ => h⟩
  · exact ⟨fun h => h, fun h _ => h⟩

theorem State.requestCounterSave_waits {s : State} (h : s.store.saving.isSome = true) :
    s.requestCounterSave.store.waiting = true := by
  unfold State.requestCounterSave
  rw [if_pos h]

/-- What settles after every condition of OFF but a free changer was met (R86, R87; log 49). -/
theorem State.settleFrom_power_freed {s t : State} (hcool : t.cool.power = .coolingDown) (hbusy : s.offReady = false)
    (hfree : t.changer.state = .idle ∨ t.changer.state = .lost) : (s.settleFrom t).cool.power =
      if (s.settleFrom t).cool.darkStart = none ∧ (∀ r ∈ t.arb.queues.panel, r.standby = false) then .off
      else .coolingDown := by
  have hframe := State.driveChanged_frame s.drive t
  have hpower : (t.driveChanged s.drive).cool.power = .coolingDown := by
    rw [← hcool]
    unfold State.driveChanged State.requestCounterSave
    split_ifs <;> rfl
  rw [State.settleFrom_power_eq, State.settleFrom_darkStart_eq, hcool]
  refine if_congr ?_ rfl rfl
  rw [State.offReady_iff, hframe .changer (by decide), hframe .arb (by decide)]
  exact ⟨fun ⟨⟨_, hdark, _, hhome⟩, _⟩ => ⟨hdark, hhome⟩, fun ⟨hdark, hhome⟩ => ⟨⟨hpower, hdark, hfree, hhome⟩, hbusy⟩⟩

theorem State.abortToLost_queues (count : Bool) (s : State) : ∃ done, (s.abortToLost count).arb = { s.arb with
    dwellDue := none, completions := done } := by
  cases hr : s.changer.record with
  | none =>
    refine ⟨s.arb.completions, ?_⟩
    unfold State.abortToLost
    rw [hr]
    exact State.takePendings_frame _ .arb (by decide)
  | some r =>
    refine ⟨r.completes .aborted none s.arb.completions, ?_⟩
    rw [State.abortToLost_record hr, State.endChange_arb hr, if_pos (Or.inl rfl), if_pos rfl]

/-- A LINK change that ends makes the newest entry of the completion list and raises COMPLETION (R30, R40). -/
theorem State.endChange_completion {s : State} {r : ChangeRecord} {q : Request} (hr : s.changer.record = some r)
    (hq : r.request = some q) (hlink : q.source = .link) (o : ChangeOutcome) (after : ChangerState) (count : Bool) :
    (s.endChange o after count).link.flags.completion = true := by
  rw [State.endChange_eq hr, State.fadeChangeEnd_frame _ _ _ _ .link (by decide), hq]
  dsimp only
  unfold State.completeRequest
  rw [if_pos hlink]
  rfl

theorem lastEight_getLast? (l : List Completion) (c : Completion) : (lastEight (l ++ [c])).getLast? = some c := by
  unfold lastEight
  rw [List.getLast?_drop, if_neg (by simp), List.getLast?_append]
  rfl

/-- The usage counters once a change has ended ABORTED: one that was granted and moved counts in CHANGES (R16). -/
theorem State.endChange_aborted_usage {s : State} {r : ChangeRecord} (hr : s.changer.record = some r)
    (after : ChangerState) : (s.endChange .aborted after true).usage =
      if r.request.isSome = true ∧ r.moved = true then { s.usage with counters := { s.usage.counters with
        changes := s.usage.counters.changes.gainIf true } } else s.usage := by
  rw [State.endChange_usage hr]
  unfold State.counted
  by_cases hq : r.request.isSome = true
  · rw [if_pos ⟨rfl, hq⟩, State.countChange_eq]
    by_cases hmoved : r.moved = true
    · rw [if_pos ⟨hq, hmoved⟩, hmoved]
      rfl
    · rw [if_neg fun h => hmoved h.2]
      rw [Bool.not_eq_true] at hmoved
      rw [hmoved]
      rfl
  · rw [if_neg fun h => hq h.2, if_neg fun h => hq h.1]

theorem State.endChange_aborted_wraps {s : State} {r : ChangeRecord} (hr : s.changer.record = some r)
    (hq : r.request.isSome = true) (hmoved : r.moved = true) (hend : 4294967295 ≤ s.usage.counters.changes.value)
    (after : ChangerState) : (s.endChange .aborted after true).link.flags.counter = true := by
  rw [State.endChange_counterFlag hr]
  unfold State.counted
  rw [if_pos ⟨rfl, hq⟩, State.countChange_eq, hmoved]
  simp [Counter.wrapsIf, show counterMax ≤ s.usage.counters.changes.value from hend]

theorem State.abortToLost_alone {s : State} (hr : s.changer.record = none) (count : Bool) :
    (s.abortToLost count).usage = s.usage := by
  unfold State.abortToLost
  rw [hr]
  exact State.takePendings_frame _ .usage (by decide)

theorem State.warned_tape (s : State) : s.warned.tape =
    if s.tape.state = .noCassette then s.tape else { s.tape with
      state := .stopped
      pause := if s.tape.state = .stopped then s.tape.pause else ⟨false, false, false, false⟩
      tachDue := if s.tape.state = .stopped then s.tape.tachDue else none
      seekTarget := if s.tape.state = .stopped then s.tape.seekTarget else none
      lastStop := .supplyFail } := by
  have htape : (s.underWarning.abortToLost true).tape = s.tape :=
    State.abortToLost_frame true s.underWarning .tape (by decide)
  rw [show s.warned.tape = ((s.underWarning.abortToLost true).stopTape .supplyFail).tape from rfl, State.stopTape_tape,
    htape]

theorem State.autoHome_frame (s : State) : s.onlyChanges [.changer, .arb, .fade, .usage, .link] s.autoHome := by
  unfold State.autoHome
  split_ifs
  · exact s.homeWithoutRequest_frame
  · exact .refl _ _

/-- No warning stands after a power-on reset (R88, R22). -/
theorem State.powerOn_warning (pins : Pins) (s : State) : (s.powerOn pins).cool.warning = false := by
  unfold State.powerOn
  dsimp only
  rw [State.autoHome_frame _ .cool (by decide)]
  split_ifs <;> rfl

/-- The part once the warning has acted, before what settles: the counters being saved (R88, R185). -/
def State.warnedSaving (s : State) : State := s.warned.requestCounterSave

theorem State.warnedSaving_ended (s : State) : (s.underWarning.abortToLost true).onlyChanges
    [.tape, .dec, .lamp, .panel, .store] s.warnedSaving :=
  s.warned_frame.andThen (State.requestCounterSave_frame _) (by decide) (by decide)

theorem State.warnedSaving_frame (s : State) : s.onlyChanges
    [.changer, .arb, .fade, .usage, .link, .cool, .tape, .dec, .lamp, .panel, .store] s.warnedSaving := by
  have hunder : s.onlyChanges [.cool] s.underWarning := by intro b hb; cases b <;> first | rfl | simp at hb
  exact (hunder.andThen (cs := [.changer, .arb, .fade, .usage, .link, .cool]) (State.abortToLost_frame true _)
    (by decide) (by decide)).andThen s.warnedSaving_ended (by decide) (by decide)

/-- Settles O6. -/
theorem supplyFailWarningStopsTheMotors : Obligations.SupplyFailWarningStopsTheMotors := by
  refine ⟨fun s h => if_pos h, fun s hwarn => ?_, fun s h => ?_, fun s h => ?_⟩
  · have hframe := s.warnedSaving_frame
    have hended := s.warnedSaving_ended
    have hcool : s.warnedSaving.cool = { s.cool with warning := true, stallDue := none } :=
      Eq.trans (hended .cool (by decide)) (State.abortToLost_frame true s.underWarning .cool (by decide))
    have hchanger : s.warnedSaving.changer = s.changer.lost :=
      Eq.trans (hended .changer (by decide)) (State.abortToLost_changer true s.underWarning)
    obtain ⟨done, hqueues⟩ := State.abortToLost_queues true s.underWarning
    have harb : s.warnedSaving.arb = { s.arb with dwellDue := none, completions := done } :=
      Eq.trans (hended .arb (by decide)) hqueues
    have hstall := State.settleFrom_stall_warned (t := s.warnedSaving) (by rw [hcool]) s
    have hexec : exec .supplyFailWarning s = .next (s.settleFrom s.warnedSaving) := execSupplyFailWarning_eq hwarn
    have hwarning : (s.settleFrom s.warnedSaving).cool.warning = true := by
      rw [(s.settleFrom_cool _).2.2.2, hcool]
    have hprot := State.settleFrom_prot s s.warnedSaving
    rw [hframe .prot (by decide)] at hprot
    have htape : s.warnedSaving.tape = _ :=
      Eq.trans (State.requestCounterSave_frame s.warned .tape (by decide)) s.warned_tape
    have hpanel : s.warnedSaving.panel = s.warned.panel := State.requestCounterSave_frame _ .panel (by decide)
    have hfiring : s.warnedSaving.lamp.firingDue = none :=
      congrArg LampDrive.firingDue (State.requestCounterSave_frame s.warned .lamp (by decide))
    have hstore : s.warned.store = s.store :=
      Eq.trans (s.warned_frame .store (by decide)) (State.abortToLost_frame true s.underWarning .store (by decide))
    have hcounter : (s.settleFrom s.warnedSaving).link.flags.counter
        = (s.underWarning.abortToLost true).link.flags.counter := by
      rw [State.settleFrom_counterFlag, hended .link (by decide)]
    have husage : (s.settleFrom s.warnedSaving).usage = (s.underWarning.abortToLost true).usage := by
      rw [State.settleFrom_frame _ _ .usage (by decide), hended .usage (by decide)]
    refine ⟨_, hexec, hwarning, ?_, ?_, ?_, ?_, ?_, ?_, ?_, ?_, ?_, ?_, ?_, ?_, ?_, ?_, ?_, fun hno => ?_,
      fun hyes hidle hlost => ?_, fun r hr q hq hlink => ?_, ?_, ?_⟩
    · exact hstall.1.trans (by rw [hcool])
    · exact hstall.2.trans (by rw [hcool])
    · exact if_pos hwarning
    · rw [State.settleFrom_frame _ _ .changer (by decide)]
      exact hchanger
    · rw [State.settleFrom_frame _ _ .arb (by decide)]
      rw [harb]
    · rw [State.settleFrom_frame _ _ .arb (by decide)]
      rw [harb]
    · rw [State.settleFrom_frame _ _ .arb (by decide)]
      rw [harb]
    · rw [State.settleFrom_lamp]
      split_ifs
      · rfl
      · exact hfiring
    · rw [State.settleFrom_frame _ _ .panel (by decide)]
      exact congrArg RemotePanel.focus hpanel
    · rw [State.settleFrom_frame _ _ .panel (by decide)]
      exact congrArg RemotePanel.focusDue hpanel
    · rw [State.settleFrom_frame _ _ .tape (by decide)]
      exact htape
    · exact (s.settleFrom_saves _).1 (State.requestCounterSave_saving _)
    · intro hsaving
      refine (s.settleFrom_saves _).2 (State.requestCounterSave_waits ?_) (State.requestCounterSave_saving _)
      rw [hstore]
      exact hsaving
    · exact hprot.1
    · exact hprot.2.1
    · rw [State.settleFrom_power_of_ne (by rw [hcool]; exact hno), hcool]
    · have hbusy : s.offReady = false := by
        rw [← Bool.not_eq_true, State.offReady_iff]
        rintro ⟨_, _, hfree | hfree, _⟩
        · exact hidle hfree
        · exact hlost hfree
      have hpower := State.settleFrom_power_freed (s := s) (t := s.warnedSaving) (by rw [hcool]; exact hyes) hbusy
        (.inr (by rw [hchanger]; rfl))
      rw [harb] at hpower
      exact hpower
    · rw [State.settleFrom_frame _ _ .arb (by decide)]
      have hended' : (s.underWarning.abortToLost true) = s.underWarning.endChange .aborted .lost true :=
        State.abortToLost_record (s := s.underWarning) hr true
      refine ⟨?_, ?_⟩
      · rw [hended .arb (by decide), hended',
          State.endChange_arb (s := s.underWarning) hr, r.completes_link hq hlink]
        exact lastEight_getLast? _ _
      · have hflag := State.endChange_completion (s := s.underWarning) hr hq hlink .aborted .lost true
        rw [← hended', ← congrArg (·.flags.completion) (hended .link (by decide))] at hflag
        obtain h | h := s.settleFrom_link s.warnedSaving <;> rw [h] <;> exact hflag
    · intro counted
      have halone : ¬counted → (s.underWarning.abortToLost true).usage = s.usage := by
        intro hnot
        cases hr : s.changer.record with
        | none => exact State.abortToLost_alone (s := s.underWarning) hr true
        | some r =>
          rw [State.abortToLost_record (s := s.underWarning) hr, State.endChange_aborted_usage (s := s.underWarning) hr,
            if_neg fun h => hnot ⟨r, hr, h⟩]
          rfl
      refine ⟨?_, fun hnot => husage.trans (halone hnot)⟩
      rintro ⟨r, hr, hq, hmoved⟩
      have hrecord := State.abortToLost_record (s := s.underWarning) hr true
      have hgain : (s.settleFrom s.warnedSaving).usage = { s.usage with counters := { s.usage.counters with
          changes := s.usage.counters.changes.gainIf true } } := by
        rw [husage, hrecord, State.endChange_aborted_usage (s := s.underWarning) hr, if_pos ⟨hq, hmoved⟩]
        rfl
      refine ⟨?_, fun hend => ?_, ?_⟩
      · rw [hgain]
        exact Counter.gainIf_true rfl _
      · rw [hcounter, hrecord]
        exact State.endChange_aborted_wraps (s := s.underWarning) hr hq hmoved hend .lost
      · rw [hgain]
    · exact s.warnedSaving_frame.andThen (State.settleFrom_frame _ _) (by decide) (by decide)
  · exact ⟨_, congrArg Host.Outcome.next (if_pos h), rfl, s.powerOn_warning _⟩
  · exact congrArg Host.Outcome.next (if_neg (by rw [h]; decide))

end Sys2Proof.Machine
end

section
/-! The three resets: power-on reset, link reset and mechanism restart (R22, R155, R171, R173, R177, R185, R186, and the
reset tables of every chapter). -/

namespace Sys2Proof.Machine

/-! ## The homing that a reset starts (R5, R22) -/

/-- A change end with no watch and no pending fade of the LAMP channel asks only for the pending fade of AUDIO (R64). -/
theorem State.fadeChangeEnd_unwatched {s : State} (hlamp : s.fade.lamp.pending = none) (hwatch : s.fade.watch = none)
    (final : Option Nat) (found : Bool) : (s.fadeChangeEnd final found true).fade =
      { s.fade with audio := s.fade.audio.takesPending s.clock } := by
  have hnone : ¬(true = true ∧ s.fade.lamp.pending.isSome = true) := by simp [hlamp]
  unfold State.fadeChangeEnd
  rw [if_neg hnone, if_pos rfl, hwatch, State.takePending_fade]
  dsimp only [FadeEngine.channel, FadeEngine.putChannel]
  rw [← hwatch]

theorem State.homeWithoutRequest_keepsUsage (s : State) :
    s.homeWithoutRequest.usage = s.usage ∧ s.homeWithoutRequest.link = s.link := by
  by_cases hgate : s.changer.sense.gateOccupied = true
  · rw [State.homeWithoutRequest_lifts hgate]
    exact ⟨rfl, rfl⟩
  rw [Bool.not_eq_true] at hgate
  by_cases hmark : s.changer.sense.homeMark = true
  · rw [State.homeWithoutRequest_found hgate hmark]
    have hframe : ∀ u : State, u.changer.record = some (newRecord none none none none) →
        u.onlyChanges [.changer, .arb, .fade] (u.endChange .done .idle false) := by
      intro u hr
      rw [State.endChange_eq hr]
      exact (State.stops_frame _ _ u).andThen (State.fadeChangeEnd_frame _ _ _ _) (by decide) (by decide)
    exact ⟨hframe _ rfl .usage (by decide), hframe _ rfl .link (by decide)⟩
  · rw [Bool.not_eq_true] at hmark
    rw [State.homeWithoutRequest_searches hgate hmark]
    exact ⟨rfl, rfl⟩

/-- With no watch and no pending LAMP fade a homing without a request leaves the LAMP channel (R64, R72). -/
theorem State.homeWithoutRequest_fade {s : State} (hlamp : s.fade.lamp.pending = none) (hwatch : s.fade.watch = none) :
    s.homeWithoutRequest.fade = s.fade ∨ s.homeWithoutRequest.fade = { s.fade with audio := s.fade.audio.takesPending s.clock } := by
  by_cases hgate : s.changer.sense.gateOccupied = true
  · rw [State.homeWithoutRequest_lifts hgate]
    exact .inl rfl
  rw [Bool.not_eq_true] at hgate
  by_cases hmark : s.changer.sense.homeMark = true
  · rw [State.homeWithoutRequest_found hgate hmark]
    have hend : ∀ u : State, u.changer.record = some (newRecord none none none none) → u.fade = s.fade →
        u.clock = s.clock → (u.endChange .done .idle false).fade = { s.fade with audio := s.fade.audio.takesPending s.clock } := by
      intro u hr hfade hclock
      have hstops := State.stops_frame .idle u.changer.jamClear u
      have hfade' := Eq.trans (hstops .fade (by decide)) hfade
      have hclock' := Eq.trans (hstops .clock (by decide)) hclock
      rw [State.endChange_eq hr]
      refine (State.fadeChangeEnd_unwatched (s := u.stops .idle u.changer.jamClear) (by rw [hfade', hlamp])
        (by rw [hfade', hwatch]) _ _).trans ?_
      rw [hfade', hclock']
    exact .inr (hend _ rfl rfl rfl)
  · rw [Bool.not_eq_true] at hmark
    rw [State.homeWithoutRequest_searches hgate hmark]
    exact .inl rfl

theorem FadeChannel.takesPending_none {c : FadeChannel} (h : c.pending = none) (now : Nat) : c.takesPending now = c := by
  unfold FadeChannel.takesPending
  rw [h]

/-- The changer after the homing that a reset starts (R5, R18, R22). -/
def Changer.homesFrom (now : Nat) (warned : Bool) (c : Changer) : Changer :=
  if c.sense.gateOccupied then { c with
    state := .homing, position := none, record := some (newRecord none none none none), homingLift := true
    lift := !warned, stageDue := some (now + 250000) }
  else if c.sense.homeMark then { c.restsIn .idle with position := some 0 }
  else { c with
    state := .homing, position := none, record := some (newRecord none none none none), homingLift := false, lift := false
    stageDue := some (now + 150000), drive := if warned = true then none else some .forward }

section HomesFrom
variable {c : Changer} (now : Nat) (warned : Bool)

theorem Changer.homesFrom_lifts (hgate : c.sense.gateOccupied = true) : c.homesFrom now warned = { c with
    state := .homing, position := none, record := some (newRecord none none none none), homingLift := true
    lift := !warned, stageDue := some (now + 250000) } := if_pos hgate

theorem Changer.homesFrom_arrives (hgate : ¬c.sense.gateOccupied = true) (hmark : c.sense.homeMark = true) :
    c.homesFrom now warned = { c.restsIn .idle with position := some 0 } := (if_neg hgate).trans (if_pos hmark)

theorem Changer.homesFrom_searches (hgate : ¬c.sense.gateOccupied = true) (hmark : ¬c.sense.homeMark = true) :
    c.homesFrom now warned = { c with
      state := .homing, position := none, record := some (newRecord none none none none), homingLift := false, lift := false
      stageDue := some (now + 150000), drive := if warned = true then none else some .forward } :=
  (if_neg hgate).trans (if_neg hmark)

end HomesFrom

theorem Changer.homesFrom_map (now : Nat) (warned : Bool) (c : Changer) : (c.homesFrom now warned).map = c.map := by
  unfold Changer.homesFrom
  split_ifs <;> rfl

theorem Changer.homesFrom_trayPresent (now : Nat) (warned : Bool) (c : Changer) :
    (c.homesFrom now warned).trayPresent = c.trayPresent := by
  unfold Changer.homesFrom
  split_ifs <;> rfl

theorem State.homeWithoutRequest_changer {s : State} (hjam : s.changer.jamClear = false) :
    s.homeWithoutRequest.changer = s.changer.homesFrom s.clock s.cool.warning := by
  unfold Changer.homesFrom
  by_cases hgate : s.changer.sense.gateOccupied = true
  · rw [if_pos hgate, State.homeWithoutRequest_lifts hgate]
    rfl
  rw [if_neg hgate]
  rw [Bool.not_eq_true] at hgate
  by_cases hmark : s.changer.sense.homeMark = true
  · rw [if_pos hmark, State.homeWithoutRequest_arrives hgate hmark hjam]
  · rw [if_neg hmark]
    rw [Bool.not_eq_true] at hmark
    rw [State.homeWithoutRequest_searches hgate hmark]
    rfl

/-- The part as a reset leaves it: no dwell timer, no watch, no pending fade, no jam clear. -/
structure State.Fresh (s : State) : Prop where
  dwell : s.arb.dwellDue = none
  watch : s.fade.watch = none
  lamp : s.fade.lamp.pending = none
  audio : s.fade.audio.pending = none
  jam : s.changer.jamClear = false

theorem State.autoHome_fresh {s : State} (h : s.Fresh) : s.onlyChanges [.changer] s.autoHome := by
  have hframe := s.homeWithoutRequest_frame
  have hfade : s.homeWithoutRequest.fade = s.fade := by
    obtain hkept | htaken := State.homeWithoutRequest_fade h.lamp h.watch
    · exact hkept
    · rw [htaken, FadeChannel.takesPending_none h.audio]
  have harb : s.homeWithoutRequest.arb = s.arb := by
    rw [State.homeWithoutRequest_arb, ← h.dwell]
  unfold State.autoHome
  split_ifs
  · intro b hb
    cases b
    case arb => exact harb
    case fade => exact hfade
    case usage => exact s.homeWithoutRequest_keepsUsage.1
    case link => exact s.homeWithoutRequest_keepsUsage.2
    case changer => exact absurd (List.mem_singleton_self _) hb
    all_goals exact hframe _ (by decide)
  · exact .refl _ _

theorem State.autoHome_changer {s : State} (hjam : s.changer.jamClear = false) : s.autoHome.changer =
    if s.items.autoHome = true ∧ s.changer.trayPresent = true then s.changer.homesFrom s.clock s.cool.warning
    else s.changer := by
  unfold State.autoHome
  split_ifs
  · exact State.homeWithoutRequest_changer hjam
  · rfl

theorem State.autoHome_map {s : State} (hjam : s.changer.jamClear = false) :
    s.autoHome.changer.map = s.changer.map ∧ s.autoHome.changer.trayPresent = s.changer.trayPresent := by
  rw [State.autoHome_changer hjam]
  split_ifs
  · exact ⟨Changer.homesFrom_map _ _ _, Changer.homesFrom_trayPresent _ _ _⟩
  · exact ⟨rfl, rfl⟩

/-! ## Power-on reset (R22, R185, R186) -/

theorem State.afterReset_fresh (pins : Pins) (strap : BitVec 5) (cooling warning : Bool) (image : Image) (good : Bool)
    (s : State) : (s.afterReset pins strap cooling warning image good).Fresh := ⟨rfl, rfl, rfl, rfl, rfl⟩

theorem State.powerOn_whole {s : State} (h : s.store.saving = none) (pins : Pins) : s.powerOn pins =
    (s.afterReset pins pins.strap false false s.store.image s.store.good).autoHome := by
  unfold State.powerOn State.imageAtPowerOn
  rw [h]
  rfl

/-- A save cut off by a loss of supply: its image fails the checksum at the load (R185). -/
theorem State.powerOn_torn {s : State} (h : s.store.saving.isSome = true) {pins : Pins} (hlost : pins.supplyLost = true) :
    ∃ image, s.powerOn pins
      = State.autoHome { s.afterReset pins pins.strap false false image false with freeCount := s.freeCount + 1 } := by
  obtain ⟨new, hnew⟩ := Option.isSome_iff_exists.mp h
  unfold State.powerOn State.imageAtPowerOn
  have hcut (u : Bool) : ¬(pins.supplyLost = false ∧ u = true) := by simp [hlost]
  rw [hnew]
  dsimp only
  rw [if_neg (hcut _)]
  exact ⟨_, rfl⟩

/-- Settles O3. -/
theorem powerOnResetTakesResetValues : Obligations.PowerOnResetTakesResetValues := by
  refine ⟨fun pins s hsave => ?_, fun pins s hsave hlost => ?_⟩
  · intro cfg kept zero fem
    have hfresh := s.afterReset_fresh pins pins.strap false false s.store.image s.store.good
    have hkeeps := State.autoHome_fresh hfresh
    have hchanger := State.autoHome_changer hfresh.jam
    rw [← State.powerOn_whole hsave] at hkeeps hchanger
    refine ⟨_, rfl, hkeeps .items (by decide), hkeeps .law (by decide), hkeeps .store (by decide),
      hkeeps .usage (by decide), hkeeps .arb (by decide), congrArg FadeEngine.lamp (hkeeps .fade (by decide)),
      congrArg FadeEngine.watch (hkeeps .fade (by decide)), congrArg FadeEngine.audio (hkeeps .fade (by decide)),
      hkeeps .lamp (by decide), hkeeps .cool (by decide), ?_, hkeeps .tape (by decide),
      congrArg CueDecoder.lastWindow (hkeeps .dec (by decide)), congrArg CueDecoder.levelLow (hkeeps .dec (by decide)),
      congrArg CueDecoder.trackers (hkeeps .dec (by decide)), hkeeps .cue (by decide), hkeeps .prot (by decide),
      hkeeps .link (by decide), ?_, ?_, ?_, ?_⟩
    · exact hkeeps .scan (by decide)
    · rw [hkeeps .panel (by decide)]
      exact ⟨rfl, rfl, rfl, rfl, rfl, rfl, rfl⟩
    · rw [State.powerOn_whole hsave]
      exact (State.autoHome_map hfresh.jam).1
    · rw [State.powerOn_whole hsave]
      exact (State.autoHome_map hfresh.jam).2
    · by_cases hhome : cfg.items.autoHome = true ∧ pins.trayPresent = true
      · have hhomes := hchanger.trans (if_pos hhome)
        rw [if_pos hhome]
        by_cases hgate : pins.sense.gateOccupied = true
        · rw [if_pos hgate, hhomes.trans (Changer.homesFrom_lifts _ _ hgate)]
          exact ⟨rfl, rfl, rfl⟩
        by_cases hmark : pins.sense.homeMark = true
        · rw [if_neg hgate, if_pos hmark, hhomes.trans (Changer.homesFrom_arrives _ _ hgate hmark)]
          exact ⟨rfl, rfl⟩
        · rw [if_neg hgate, if_neg hmark, hhomes.trans (Changer.homesFrom_searches _ _ hgate hmark)]
          exact ⟨rfl, rfl, rfl⟩
      · rw [if_neg hhome, hchanger.trans (if_neg hhome)]
        exact ⟨rfl, rfl, rfl⟩
  · obtain ⟨image, htorn⟩ := State.powerOn_torn hsave hlost
    have hkeeps := State.autoHome_fresh (s := { s.afterReset pins pins.strap false false image false with
      freeCount := s.freeCount + 1 }) ⟨rfl, rfl, rfl, rfl, rfl⟩
    have hmap := State.autoHome_map (s := { s.afterReset pins pins.strap false false image false with
      freeCount := s.freeCount + 1 }) rfl
    rw [← htorn] at hkeeps hmap
    have hstore := hkeeps .store (by decide)
    refine ⟨_, rfl, congrArg Store.good hstore, congrArg Store.factoryLoaded hstore, congrArg Store.saving hstore,
      hkeeps .items (by decide), hkeeps .law (by decide), ?_, ?_, ?_, ?_, ?_⟩
    · rw [hkeeps .scan (by decide)]
      rfl
    · rw [hkeeps .usage (by decide)]
      rfl
    · rw [hkeeps .usage (by decide)]
      rfl
    · rw [hkeeps .link (by decide)]
      rfl
    · rw [hmap.1]
      rfl

end Sys2Proof.Machine
end

section
/-! The link reset and RESET-PART (R83, R172, R173, R177, R186). -/

namespace Sys2Proof.Machine

/-! ## RESET-PART (R173, R177) -/

theorem State.resetsAtOnce_taken {h : Header} {s : State} (ht : s.takes h) :
    s.resetsAtOnce h [] = true ↔ h.addr = 31#5 ∨ h.reply = false := by
  obtain ⟨hr, haddr⟩ := ht
  have hon : s.receiverOn = true := by simp [State.receiverOn, hr]
  unfold State.resetsAtOnce State.frameKind
  by_cases hall : h.addr = 31#5
  · rw [if_pos hall]
    simp [hon, hall]
  · rw [if_neg hall, if_pos (haddr.resolve_left hall)]
    simp [hon, hall]

/-- The part once RESET-PART has asked for the link reset (R173, R177). -/
def State.asksReset (s : State) : State := { s.framed with link := { s.framed.link with resetDue := true } }

theorem State.commandFrame_resetPart {h : Header} {s : State} (ht : s.takes h) :
    s.commandFrame 33 h [] (commandTests 33 0 [] (fun t => .ok { t with link := { t.link with resetDue := true } }))
      = State.replied h .accepted [] s.asksReset := by
  have htests : commandTests 33 0 [] (fun t => .ok { t with link := { t.link with resetDue := true } }) s.framed
      = .ok s.asksReset := by
    unfold commandTests
    rw [if_neg (by simp [takenAtLockout]), if_neg (by simp)]
    rfl
  have hquiet : s.framed.settleFrom s.asksReset = s.asksReset := State.settleFrom_quiet _ _ rfl rfl rfl rfl
  rw [State.commandFrame_takes ht (by decide), htests]
  exact congrArg (State.replied h .accepted []) hquiet

/-! ## The reset that is made, and the one that waits (R173, R186) -/

theorem State.makeDueReset_due {s : State} {pins : Pins} (hpins : s.link.resetPins = some pins) :
    s.makeDueReset = if s.resetHeldUp then s else s.linkReset pins := by
  unfold State.makeDueReset
  rw [hpins]

theorem State.resetHeldUp_iff (s : State) : s.resetHeldUp = true ↔
    s.link.reply ≠ [] ∨ s.store.saving.isSome = true ∨ s.store.waiting = true := by
  simp [State.resetHeldUp, or_assoc]

theorem execLinkReset_due {s : State} (hdue : s.link.resetDue = true) (pins : Pins) :
    execLinkReset pins s = .next (s.beginReset pins) := congrArg Host.Outcome.next (if_pos hdue)

/-- A link reset that begins again with the inputs it holds (R173; log 12). -/
theorem State.beginReset_again {s : State} {pins : Pins} (hpins : s.link.resetPins = some pins) :
    s.beginReset pins = s.makeDueReset := by
  have hlink : ({ s.link with resetPins := some pins } : LinkPort) = s.link := by rw [← hpins]
  unfold State.beginReset
  rw [hlink]

/-- The store once a save is complete and none waits (R185). -/
def State.savedWith (image : Image) (s : State) : State := { s with
  clock := max s.clock (s.store.saveDue.getD 0), store := ⟨image, true, false, none, none, false⟩ }

theorem execSaveComplete_saved {s : State} {image : Image} (hsave : s.store.saving = some image)
    (hwait : s.store.waiting = false) : execSaveComplete s = .next (s.savedWith image).makeDueReset := by
  unfold execSaveComplete State.savedWith
  rw [hsave]
  dsimp only
  rw [if_neg (by rw [hwait]; decide), State.reach_eq]

/-- The link reset at once, with the inputs and the cooldown it starts from (R83, R177). -/
theorem execLinkReset_now {s : State} {pins : Pins} (hdue : s.link.resetDue = true) (hreply : s.link.reply = [])
    (hsave : s.store.saving = none) (hwait : s.store.waiting = false) : execLinkReset pins s =
      .next (s.afterReset pins s.link.strap (s.cool.darkStart.isSome || decide (0 < s.drive)) pins.supplyFail
        s.store.image s.store.good).autoHome := by
  have hheld : ¬State.resetHeldUp { s with link := { s.link with resetPins := some pins } } = true := by
    simp [State.resetHeldUp_iff, hreply, hsave, hwait]
  rw [execLinkReset_due hdue]
  exact congrArg Host.Outcome.next ((State.makeDueReset_due rfl).trans (if_neg hheld))

/-- Two homings from one changer differ by the warning in their motors alone (log 23). -/
theorem Changer.homesFrom_warned (now : Nat) {c : Changer} (hdrive : c.drive = none) :
    (c.homesFrom now true).drive = none ∧ (c.homesFrom now true).lift = false
      ∧ (c.homesFrom now true).state = (c.homesFrom now false).state
      ∧ (c.homesFrom now true).position = (c.homesFrom now false).position := by
  by_cases hgate : c.sense.gateOccupied = true
  · rw [Changer.homesFrom_lifts _ _ hgate, Changer.homesFrom_lifts _ _ hgate]
    exact ⟨hdrive, rfl, rfl, rfl⟩
  by_cases hmark : c.sense.homeMark = true
  · rw [Changer.homesFrom_arrives _ _ hgate hmark, Changer.homesFrom_arrives _ _ hgate hmark]
    exact ⟨rfl, rfl, rfl, rfl⟩
  · rw [Changer.homesFrom_searches _ _ hgate hmark, Changer.homesFrom_searches _ _ hgate hmark]
    exact ⟨rfl, rfl, rfl, rfl⟩

theorem State.afterReset_home (pins : Pins) (strap : BitVec 5) (cooling warning : Bool) (image : Image) (good : Bool)
    (s : State) : (s.afterReset pins strap cooling warning image good).autoHome.changer =
      if (loadedConfig image good).items.autoHome = true ∧ pins.trayPresent = true then
        (changerAfterReset (loadedConfig image good).items.traySize pins).homesFrom s.clock warning
      else changerAfterReset (loadedConfig image good).items.traySize pins :=
  State.autoHome_changer (s.afterReset_fresh pins strap cooling warning image good).jam

theorem State.onlyChanges.symm {bs : List Block} {s t : State} (h : s.onlyChanges bs t) : t.onlyChanges bs s := by
  intro b hb
  have hsame := h b hb
  cases b <;> exact Eq.symm hsame

/-- Settles O4. -/
theorem linkResetIsAPowerOnResetBut : Obligations.LinkResetIsAPowerOnResetBut := by
  refine ⟨fun h s ht => ?_, fun pins s => ⟨fun hno => ?_, fun hdue hheld => ?_⟩, fun s hdue pins hpins hwait => ?_,
    fun pins s hdue hreply hsave hwait => ?_⟩
  · intro due keys
    have hexec : exec (.resetPart h []) s = .next (if s.resetsAtOnce h [] then
        (State.replied h .accepted [] due).beginReset (State.replied h .accepted [] due).heldPins
        else State.replied h .accepted [] due) := by
      rw [← show s.commandFrame 33 h [] _ = State.replied h .accepted [] due from State.commandFrame_resetPart ht]
      rfl
    refine ⟨fun hown hrep => ?_, fun hsilent => ?_⟩
    · rw [hexec, if_neg]
      rw [State.resetsAtOnce_taken ht]
      rintro (hall | hno)
      · exact hown hall
      · rw [hrep] at hno
        cases hno
    · have hnone : State.replied h .accepted [] due = due := by
        refine if_neg fun ⟨hown, hrep⟩ => ?_
        obtain hall | hno := hsilent
        · exact hown hall
        · rw [hrep] at hno
          cases hno
      rw [hexec, if_pos ((State.resetsAtOnce_taken ht).mpr hsilent), hnone]
      exact (execLinkReset_due (s := due) rfl _).symm
  · exact congrArg Host.Outcome.next (if_neg (by rw [hno]; decide))
  · refine (execLinkReset_due hdue pins).trans (congrArg Host.Outcome.next ?_)
    exact (State.makeDueReset_due rfl).trans (if_pos ((State.resetHeldUp_iff _).mpr hheld))
  · refine ⟨fun _ => ?_, fun hreply image hsave => ?_⟩
    · refine Eq.symm ((execLinkReset_due (s := { s with link := { s.link with reply := [] } }) hdue pins).trans ?_)
      exact congrArg Host.Outcome.next (State.beginReset_again hpins)
    · refine (execSaveComplete_saved hsave hwait).trans (Eq.symm ?_)
      refine (execLinkReset_due (s := s.savedWith image) hdue pins).trans ?_
      exact congrArg Host.Outcome.next (State.beginReset_again hpins)
  · have hpower := State.powerOn_whole hsave { pins with strap := s.link.strap }
    have hpkeeps := State.autoHome_fresh (s.afterReset_fresh { pins with strap := s.link.strap } s.link.strap false false
      s.store.image s.store.good)
    have hpchanger := s.afterReset_home { pins with strap := s.link.strap } s.link.strap false false s.store.image s.store.good
    have htkeeps := State.autoHome_fresh (s.afterReset_fresh pins s.link.strap
      (s.cool.darkStart.isSome || decide (0 < s.drive)) pins.supplyFail s.store.image s.store.good)
    have htchanger := s.afterReset_home pins s.link.strap (s.cool.darkStart.isSome || decide (0 < s.drive)) pins.supplyFail
      s.store.image s.store.good
    rw [← hpower] at hpkeeps hpchanger
    have hbetween : (s.afterReset { pins with strap := s.link.strap } s.link.strap false false s.store.image
        s.store.good).onlyChanges [.cool] (s.afterReset pins s.link.strap
          (s.cool.darkStart.isSome || decide (0 < s.drive)) pins.supplyFail s.store.image s.store.good) := by
      intro b hb; cases b <;> first | rfl | simp at hb
    refine ⟨_, rfl, _, execLinkReset_now hdue hreply hsave hwait, ?_, ?_, fun hno => ?_, fun hyes => ?_⟩
    · exact (hpkeeps.symm.andThen hbetween (cs := [.changer, .cool]) (by decide) (by decide)).andThen htkeeps (by decide)
        (by decide)
    · rw [htkeeps .cool (by decide), hpkeeps .cool (by decide)]
      simp only [State.afterReset, coolingAfterReset, Bool.or_eq_true, decide_eq_true_eq]
      rfl
    · rw [htchanger, hpchanger, hno]
      rfl
    · rw [htchanger, hpchanger, hyes]
      split_ifs
      · exact Changer.homesFrom_warned s.clock rfl
      · exact ⟨rfl, rfl, rfl, rfl⟩

end Sys2Proof.Machine
end

section
/-! The mechanism restart at LOCKOUT (R22, R154, R155). -/

namespace Sys2Proof.Machine

/-! ## The QUEUE reason (R137) -/

theorem State.judgeQueue_cue (s : State) : s.judgeQueue.cue = { s.cue with
    queueLen := s.arb.queues.cue.length
    queueAsked := if 4 ≤ s.arb.queues.cue.length then true else if s.arb.queues.cue.length ≤ 1 then false
      else s.cue.queueAsked } := by
  unfold State.judgeQueue
  dsimp only
  by_cases hfull : 4 ≤ s.arb.queues.cue.length
  · rw [if_pos hfull]
    by_cases hasked : s.cue.queueAsked = true
    · rw [if_neg (by simp [hasked]), if_neg (by omega), hasked]
    · rw [if_pos ⟨hfull, by simpa using hasked⟩, State.addReason_frame_tape _ _ .cue (by decide)]
  · rw [if_neg hfull, if_neg fun h => hfull h.1]
    by_cases hlow : s.arb.queues.cue.length ≤ 1
    · rw [if_pos hlow]
      by_cases hasked : s.cue.queueAsked = true
      · rw [if_pos ⟨hlow, hasked⟩, State.removeReason_frame_tape _ _ .cue (by decide)]
      · rw [if_neg fun h => hasked h.2]
        rw [Bool.not_eq_true] at hasked
        rw [hasked]
    · rw [if_neg hlow, if_neg fun h => hlow h.1]

theorem State.judgeQueue_tape (s : State) : s.judgeQueue.tape =
    if 4 ≤ s.arb.queues.cue.length ∧ s.cue.queueAsked = false then s.tape.adds .queue
    else if s.arb.queues.cue.length ≤ 1 ∧ s.cue.queueAsked = true then s.tape.drops .queue s.clock
    else s.tape := by
  unfold State.judgeQueue
  dsimp only
  split_ifs
  · rw [State.addReason_tape]
  · rw [State.removeReason_tape]
  · rfl

/-- A reason that goes leaves a tape that does not play where it is (R111). -/
theorem Tape.drops_still {tp : Tape} (h : tp.state.playing = false) (r : PauseReason) (now : Nat) :
    tp.drops r now = { tp with standing := tp.standing.put r false } := by
  refine if_neg fun hplay => ?_
  rw [← TransportState.playing_iff, h] at hplay
  exact absurd hplay.1 (by decide)

/-! ## The flush of a restart (R41, R155) -/

theorem State.flushAll_owing_none {s : State} (h : s.cue.debt = 0) : s.flushAll = s.flushed.judgeQueue := by
  have hdebt : s.flushed.cue.debt = 0 := (congrArg (·.debt) (s.flushLink_frame .cue (by decide))).trans h
  rw [State.flushAll_flushed, State.reportCue, hdebt]
  rfl

theorem State.flushAll_owing_none_frame {s : State} (h : s.cue.debt = 0) :
    s.onlyChanges [.arb, .link, .cue, .tape] s.flushAll := by
  have hflushed : s.onlyChanges [.arb, .link] s.flushed :=
    s.flushLink_frame.andThen (bs := [.arb]) (by intro b hb; cases b <;> first | rfl | simp at hb) (by decide) (by decide)
  rw [State.flushAll_owing_none h]
  exact hflushed.andThen (State.judgeQueue_frame_tape _) (by decide) (by decide)

/-- COMPLETION is raised by a flush exactly where it makes an entry (R40, R41). -/
theorem State.completeAll_flag (o : ChangeOutcome) (p : Option Nat) (l : List Request) (s : State) :
    (l.foldl (fun t r => t.completeRequest r o p) s).link.flags.completion
      = (s.link.flags.completion || !(linkCompletions o p l).isEmpty) := by
  induction l generalizing s with
  | nil => exact (Bool.or_false _).symm
  | cons r l ih =>
    rw [List.foldl_cons, ih]
    by_cases hlink : r.source = .link
    · have hone : s.completeRequest r o p = s.addCompletion ⟨r.tag.getD 0#8, o, p⟩ := if_pos hlink
      have hmade : linkCompletions o p (r :: l) = ⟨r.tag.getD 0#8, o, p⟩ :: linkCompletions o p l := by
        simp [linkCompletions, hlink]
      rw [hone, hmade, (State.addCompletion_spec _ s).2.1, Bool.true_or, List.isEmpty_cons, Bool.not_false, Bool.or_true]
    · have hnone : s.completeRequest r o p = s := if_neg hlink
      have hmade : linkCompletions o p (r :: l) = linkCompletions o p l := by simp [linkCompletions, hlink]
      rw [hnone, hmade]

theorem State.flushAll_flag (s : State) : s.flushAll.link.flags.completion
    = (s.link.flags.completion || !(linkCompletions .aborted s.changer.position s.arb.queues.link).isEmpty) := by
  rw [State.flushAll_flushed, State.reportCue_frame _ .link (by decide)]
  exact State.completeAll_flag _ _ _ _

theorem State.abortToLost_flag (s : State) : (s.abortToLost false).link.flags.completion
      = (s.link.flags.completion || !(linkCompletions .aborted none s.inFlight).isEmpty) := by
  unfold State.inFlight
  cases hr : s.changer.record with
  | none =>
    unfold State.abortToLost
    rw [hr]
    dsimp only
    rw [State.takePendings_frame _ .link (by decide)]
    exact (Bool.or_false _).symm
  | some r =>
    rw [State.abortToLost_record hr, State.endChange_eq hr, State.fadeChangeEnd_frame _ _ _ _ .link (by decide)]
    have hstops : ((s.counted .aborted r false).stops .lost s.changer.jamClear).link = s.link :=
      State.stops_frame _ _ _ .link (by decide)
    cases hq : r.request with
    | none =>
      dsimp only [Option.bind_some]
      rw [hstops, hq]
      exact (Bool.or_false _).symm
    | some q =>
      dsimp only [Option.bind_some]
      rw [hq]
      have hone := State.completeAll_flag .aborted none [q] ((s.counted .aborted r false).stops .lost s.changer.jamClear)
      rw [hstops] at hone
      exact hone

/-! ## The restart (R22, R155) -/

/-- The part with the change in flight ended, no increments made, and no cue debt left (R155). -/
def State.aborted (s : State) : State :=
  { s.restartFade.abortToLost false with cue := { (s.restartFade.abortToLost false).cue with debt := 0 } }

/-- The part with the change in flight ended and the queues flushed, before the blocks take their restart values. -/
def State.cleared (s : State) : State := s.aborted.flushAll

theorem State.restart_eq (pins : Pins) (s : State) : s.restart pins =
    if (s.cleared.restartBlocks pins).changer.trayPresent = true then (s.cleared.restartBlocks pins).homeWithoutRequest
    else s.cleared.restartBlocks pins := rfl

/-- With no watch and no pending LAMP fade the end asks only for the pending fade of AUDIO (R64, R72). -/
theorem State.abortToLost_unwatched {s : State} (hlamp : s.fade.lamp.pending = none) (hwatch : s.fade.watch = none)
    (count : Bool) : (s.abortToLost count).fade = { s.fade with audio := s.fade.audio.takesPending s.clock } := by
  cases hr : s.changer.record with
  | none =>
    unfold State.abortToLost
    rw [hr]
    dsimp only
    unfold State.takePendings
    have hkept : (s.fade.lamp.takesPending s.clock) = s.fade.lamp := FadeChannel.takesPending_none hlamp _
    have hlampFade : (s.enterLost.takePending .lamp).fade = s.fade :=
      (State.takePending_fade .lamp s.enterLost).trans (congrArg (fun c => { s.fade with lamp := c }) hkept)
    have hclock : (s.enterLost.takePending .lamp).clock = s.clock :=
      (State.takePending_frame .lamp _) .clock (by decide)
    rw [State.takePending_fade, hlampFade, hclock]
    rfl
  | some r =>
    have hbefore : s.onlyChanges [.usage, .link, .changer, .arb] ((s.counted .aborted r count).stops .lost s.changer.jamClear) :=
      (s.counted_frame .aborted r count).andThen (State.stops_frame _ _ _) (by decide) (by decide)
    have hafter (u : State) (hu : s.onlyChanges [.usage, .link, .changer, .arb] u) (final : Option Nat) (found : Bool) :
        (u.fadeChangeEnd final found true).fade = { s.fade with audio := s.fade.audio.takesPending s.clock } := by
      have hfade := hu .fade (by decide)
      have hclock := hu .clock (by decide)
      rw [State.fadeChangeEnd_unwatched (by rw [hfade, hlamp]) (by rw [hfade, hwatch]), hfade, hclock]
    rw [State.abortToLost_record hr, State.endChange_eq hr]
    cases r.request with
    | none => exact hafter _ hbefore _ _
    | some q => exact hafter _ (hbefore.andThen (State.completeRequest_frame _ _ _ _) (by decide) (by decide)) _ _

theorem State.abortToLost_link (s : State) :
    ∃ done, (s.abortToLost false).link = { s.link with flags := { s.link.flags with completion := done } } := by
  cases hr : s.changer.record with
  | none =>
    refine ⟨s.link.flags.completion, ?_⟩
    unfold State.abortToLost
    rw [hr]
    exact State.takePendings_frame _ .link (by decide)
  | some r =>
    have hstops : ((s.counted .aborted r false).stops .lost s.changer.jamClear).link = s.link :=
      State.stops_frame _ _ _ .link (by decide)
    rw [State.abortToLost_record hr, State.endChange_eq hr, State.fadeChangeEnd_frame _ _ _ _ .link (by decide)]
    cases r.request with
    | none => exact ⟨s.link.flags.completion, hstops⟩
    | some q =>
      obtain ⟨done, hdone⟩ := State.completeRequest_link q .aborted none
        ((s.counted .aborted r false).stops .lost s.changer.jamClear)
      rw [hstops] at hdone
      exact ⟨done, hdone⟩

theorem State.abortToLost_uncounted (s : State) : s.onlyChanges [.changer, .arb, .link, .fade] (s.abortToLost false) := by
  cases hr : s.changer.record with
  | none =>
    unfold State.abortToLost
    rw [hr]
    exact s.enterLost_frame.andThen (State.takePendings_frame _) (by decide) (by decide)
  | some r =>
    have hsame : s.counted .aborted r false = s := by
      unfold State.counted
      exact if_neg fun h => absurd h.1 (by decide)
    have hend := State.endChange_counted hr .aborted .lost false
    rw [hsame] at hend
    rwa [State.abortToLost_record hr]

theorem State.aborted_frame (s : State) : s.onlyChanges [.changer, .arb, .link, .fade, .cue] s.aborted := by
  have hfade : s.onlyChanges [.fade] s.restartFade := by intro b hb; cases b <;> first | rfl | simp at hb
  have hcue : (s.restartFade.abortToLost false).onlyChanges [.cue] s.aborted := by
    intro b hb; cases b <;> first | rfl | simp at hb
  exact (hfade.andThen (cs := [.changer, .arb, .link, .fade]) s.restartFade.abortToLost_uncounted (by decide)
    (by decide)).andThen hcue (by decide) (by decide)

theorem State.aborted_changer (s : State) : s.aborted.changer = s.changer.lost :=
  State.abortToLost_changer false s.restartFade

theorem State.aborted_cue (s : State) : s.aborted.cue = { s.cue with debt := 0 } :=
  congrArg (fun c : CueMap => { c with debt := 0 }) (State.abortToLost_frame false s.restartFade .cue (by decide))

theorem State.aborted_queues (s : State) : ∃ done, s.aborted.arb = { s.arb with dwellDue := none, completions := done } :=
  State.abortToLost_queues false s.restartFade

theorem State.aborted_arb {s : State} (hlen : s.arb.completions.length ≤ 8) : s.aborted.arb = { s.arb with
    dwellDue := none
    completions := lastEight (s.arb.completions ++ linkCompletions .aborted none s.inFlight) } :=
  State.abortToLost_arb (s := s.restartFade) hlen false

theorem State.aborted_flag (s : State) : s.aborted.link.flags.completion
    = (s.link.flags.completion || !(linkCompletions .aborted none s.inFlight).isEmpty) :=
  State.abortToLost_flag s.restartFade

theorem State.cleared_frame (s : State) : s.onlyChanges [.changer, .arb, .link, .fade, .cue, .tape] s.cleared :=
  s.aborted_frame.andThen (State.flushAll_owing_none_frame rfl) (by decide) (by decide)

theorem State.cleared_changer (s : State) : s.cleared.changer = s.changer.lost :=
  Eq.trans (State.flushAll_frame s.aborted .changer (by decide)) s.aborted_changer

theorem State.cleared_fade (s : State) : s.cleared.fade =
    ⟨steadyChannel 0, s.fade.audio.takesPending s.clock, none⟩ :=
  Eq.trans (State.flushAll_frame s.aborted .fade (by decide))
    (State.abortToLost_unwatched (s := s.restartFade) rfl rfl false)

theorem State.cleared_arb (s : State) : ∃ done, s.cleared.arb = { s.arb with
    queues := noQueues, dwellDue := none, completions := done } := by
  obtain ⟨done, hdone⟩ := s.aborted_queues
  obtain ⟨q, all, hall⟩ := s.aborted.flushAll_arb
  have hq : s.cleared.arb.queues = noQueues := State.flushAll_queues rfl
  have harb : s.cleared.arb = { s.arb with queues := q, dwellDue := none, completions := all } := by
    rw [hdone] at hall
    exact hall
  refine ⟨all, harb.trans ?_⟩
  rw [harb] at hq
  rw [show q = noQueues from hq]

theorem State.cleared_completions {s : State} (hlen : s.arb.completions.length ≤ 8) : s.cleared.arb.completions =
    lastEight (s.arb.completions ++ linkCompletions .aborted none s.inFlight
      ++ linkCompletions .aborted none s.arb.queues.link) := by
  have hended := State.aborted_arb hlen
  have hlist : s.aborted.arb.completions.length ≤ 8 := by
    rw [hended]
    exact length_lastEight _
  obtain ⟨l, hl⟩ := s.aborted.flushAll_flushed_arb
  refine (congrArg Arbiter.completions hl).trans ?_
  rw [State.flushed_eq hlist]
  dsimp only
  rw [hended, s.aborted_changer, lastEight_append]
  rfl

theorem State.cleared_flag (s : State) : s.cleared.link.flags.completion = (s.link.flags.completion
    || !(linkCompletions .aborted none s.inFlight ++ linkCompletions .aborted none s.arb.queues.link).isEmpty) := by
  obtain ⟨done, hqueues⟩ := s.aborted_queues
  refine s.aborted.flushAll_flag.trans ?_
  have happend (l m : List Completion) : (l ++ m).isEmpty = (l.isEmpty && m.isEmpty) := by cases l <;> rfl
  rw [s.aborted_flag, hqueues, s.aborted_changer, Bool.or_assoc, ← Bool.not_and, happend]
  rfl

theorem State.cleared_cue (s : State) : s.cleared.cue.entries = s.cue.entries := by
  have hcue : s.aborted.flushed.cue = s.aborted.cue := State.flushLink_frame _ .cue (by decide)
  have hjudged := (congrArg State.cue (State.flushAll_owing_none (s := s.aborted) rfl)).trans (State.judgeQueue_cue _)
  refine (congrArg CueMap.entries hjudged).trans ?_
  dsimp only
  rw [hcue, s.aborted_cue]

theorem State.cleared_tape {s : State} (hstill : s.tape.state.playing = false) :
    ∃ b, s.cleared.tape = { s.tape with standing := { s.tape.standing with queue := b } } := by
  have htape : s.aborted.flushed.tape = s.tape :=
    Eq.trans (State.flushLink_frame _ .tape (by decide)) (s.aborted_frame .tape (by decide))
  have hjudged : s.cleared.tape = _ :=
    (congrArg State.tape (State.flushAll_owing_none (s := s.aborted) rfl)).trans (State.judgeQueue_tape _)
  rw [hjudged, htape, if_neg (fun h => absurd h.1 (by simp [State.flushed, noQueues]))]
  split_ifs
  · exact ⟨false, Tape.drops_still hstill _ _⟩
  · exact ⟨s.tape.standing.queue, rfl⟩

/-! ## The blocks and the homing (R155) -/

theorem State.restart_home (pins : Pins) (s : State) :
    (s.cleared.restartBlocks pins).onlyChanges [.changer, .arb, .fade] (s.restart pins) := by
  rw [State.restart_eq]
  split_ifs
  · intro b hb
    have hframe := State.homeWithoutRequest_frame (s.cleared.restartBlocks pins)
    cases b
    case usage => exact (State.homeWithoutRequest_keepsUsage _).1
    case link => exact (State.homeWithoutRequest_keepsUsage _).2
    case changer | arb | fade => exact absurd hb (by decide)
    all_goals exact hframe _ (by decide)
  · exact .refl _ _

theorem State.restartBlocks_frame (pins : Pins) (s : State) :
    s.onlyChanges [.changer, .arb, .link, .cue, .tape, .lamp, .cool, .scan, .dec, .prot, .panel] (s.restartBlocks pins) := by
  intro b hb; cases b <;> first | rfl | simp at hb

theorem State.restart_frame (pins : Pins) (s : State) :
    s.onlyChanges [.changer, .arb, .link, .fade, .cue, .tape, .lamp, .cool, .scan, .dec, .prot, .panel] (s.restart pins) :=
  (s.cleared_frame.andThen (cs := [.changer, .arb, .link, .fade, .cue, .tape, .lamp, .cool, .scan, .dec, .prot,
    .panel]) (s.cleared.restartBlocks_frame pins) (by decide) (by decide)).andThen (s.restart_home pins) (by decide)
    (by decide)

/-- Of the link a restart touches two attention flags (R40, R155). -/
theorem State.restart_link (pins : Pins) (s : State) : ∃ done, (s.restart pins).link =
    { s.link with flags := { s.link.flags with completion := done, fault := true } } := by
  obtain ⟨first, hended⟩ := s.restartFade.abortToLost_link
  obtain ⟨done, hflush⟩ := s.aborted.flushAll_link
  refine ⟨done, ?_⟩
  rw [(s.restart_home pins) .link (by decide)]
  have hcleared : s.cleared.link = { s.link with flags := { s.link.flags with completion := done } } := by
    refine hflush.trans ?_
    rw [show s.aborted.link = _ from hended]
    rfl
  exact congrArg (fun l : LinkPort => { l with flags := { l.flags with fault := true } }) hcleared

theorem State.restart_arb (pins : Pins) (s : State) : (s.restart pins).arb = s.cleared.arb.restart := by
  rw [State.restart_eq]
  split_ifs
  · rw [State.homeWithoutRequest_arb]
    rfl
  · rfl

theorem State.restart_fade (pins : Pins) (s : State) : (s.restart pins).fade.lamp = steadyChannel 0
    ∧ (s.restart pins).fade.watch = none
    ∧ (s.fade.audio.pending = none → (s.restart pins).fade.audio = s.fade.audio) := by
  have hblocks : (s.cleared.restartBlocks pins).fade = ⟨steadyChannel 0, s.fade.audio.takesPending s.clock, none⟩ :=
    s.cleared_fade
  have haudio (h : s.fade.audio.pending = none) (now : Nat) :
      (s.fade.audio.takesPending s.clock).takesPending now = s.fade.audio := by
    rw [FadeChannel.takesPending_none h, FadeChannel.takesPending_none h]
  rw [State.restart_eq]
  split_ifs
  · obtain hkept | htaken := State.homeWithoutRequest_fade (s := s.cleared.restartBlocks pins) (by rw [hblocks]; rfl)
      (by rw [hblocks])
    · rw [hkept, hblocks]
      exact ⟨rfl, rfl, fun h => FadeChannel.takesPending_none h _⟩
    · rw [htaken, hblocks]
      exact ⟨rfl, rfl, fun h => haudio h _⟩
  · rw [hblocks]
    exact ⟨rfl, rfl, fun h => FadeChannel.takesPending_none h _⟩

theorem State.restart_changer (pins : Pins) (s : State) : (s.restart pins).changer =
    if s.changer.trayPresent = true then
      { s.changer.lost with sense := pins.sense }.homesFrom s.clock pins.supplyFail
    else { s.changer.lost with sense := pins.sense } := by
  have hblocks : (s.cleared.restartBlocks pins).changer = { s.changer.lost with sense := pins.sense } :=
    congrArg (fun c : Changer => { c with sense := pins.sense }) s.cleared_changer
  have hclock : (s.cleared.restartBlocks pins).clock = s.clock := s.cleared_frame .clock (by decide)
  have hhome := State.homeWithoutRequest_changer (s := s.cleared.restartBlocks pins) (by rw [hblocks]; rfl)
  rw [hblocks, hclock] at hhome
  rw [State.restart_eq, hblocks]
  by_cases htray : s.changer.trayPresent = true
  · rw [if_pos htray]
    exact (congrArg State.changer (if_pos htray)).trans hhome
  · rw [if_neg htray]
    exact (congrArg State.changer (if_neg htray)).trans hblocks

/-! ## What follows at once (R78, R81, R82) -/

theorem State.offChanged_frame_cool (before : Bool) (s : State) :
    ∃ power due, s.offChanged before = { s with cool := { s.cool with power := power, offDue := due } }
      ∧ (s.cool.power ≠ .coolingDown → power = s.cool.power) := by
  unfold State.offChanged
  split_ifs with hready
  · exact ⟨_, _, rfl, fun hno => absurd (s.offReady_iff.mp hready.1).1 hno⟩
  · exact ⟨s.cool.power, s.cool.offDue, rfl, fun _ => rfl⟩

/-- The duty is 100 until the first HOUSING result (R77, R78). -/
theorem State.duty_unread {s : State} (h : s.cool.th = none) : 30 ≤ s.duty := by
  have hdemand : s.fanDemand = 100 := by
    unfold State.fanDemand
    rw [h]
  unfold State.duty
  rw [hdemand]
  split_ifs <;> omega

/-- Before and after a restart the lamp is dark and the duty is 30 or more, so nothing follows but OFF (R86, R155). -/
theorem State.settleFrom_restart {s : State} (hpl : s.prot.pl = 3) (pins : Pins) :
    s.settleFrom (s.restart pins) = (s.restart pins).offChanged s.offReady := by
  have hhome := s.restart_home pins
  have hswitch : (s.restart pins).lamp.switch = .off := by
    rw [hhome .lamp (by decide)]
    rfl
  have hth : (s.restart pins).cool.th = none := by
    rw [hhome .cool (by decide)]
    rfl
  have hbefore : s.drive = 0 := State.drive_of_protected (by omega)
  have hafter : (s.restart pins).drive = 0 := State.drive_of_switch_off hswitch
  have hlife : (s.restart pins).lifeMark = s.lifeMark := by
    unfold State.lifeMark
    rw [(s.restart_frame pins) .items (by decide), (s.restart_frame pins) .usage (by decide)]
  have hhot : 30 ≤ s.duty := by
    rw [State.duty_of_protected (by omega)]
    omega
  unfold State.settleFrom
  rw [State.driveChanged_stays (by omega)]
  obtain ⟨power, due, hoff, _⟩ := (s.restart pins).offChanged_frame_cool s.offReady
  rw [hoff]
  have hcool : 30 ≤ State.duty { s.restart pins with
      cool := { (s.restart pins).cool with power := power, offDue := due } } := State.duty_unread hth
  have hduty : State.dutyChanged s.duty { s.restart pins with
      cool := { (s.restart pins).cool with power := power, offDue := due } } = { s.restart pins with
      cool := { (s.restart pins).cool with power := power, offDue := due } } := by
    unfold State.dutyChanged
    rw [if_neg (by omega : ¬(s.duty < 30 ∧ _)), if_neg (by omega : ¬(30 ≤ s.duty ∧ _)), ite_self]
  rw [hduty]
  unfold State.lifeChanged
  rw [show State.lifeMark { s.restart pins with
      cool := { (s.restart pins).cool with power := power, offDue := due } } = s.lifeMark from hlife, Bool.and_not_self]
  rfl

/-- The entries of the request in flight and of the waiting LINK requests (R41, R155; log 47). -/
theorem endedCompletions_eq (s : State) : linkCompletions .aborted none s.inFlight
    = (s.changer.record.bind ChangeRecord.request).elim [] (fun q =>
        if q.source = .link then [(⟨q.tag.getD 0#8, .aborted, none⟩ : Completion)] else []) := by
  unfold State.inFlight
  cases s.changer.record.bind ChangeRecord.request with
  | none => rfl
  | some q => by_cases hlink : q.source = .link <;> simp [linkCompletions, hlink]

theorem State.restartReady_iff (s : State) : s.restartReady = true ↔
    s.prot.active = ⟨false, false, false, false⟩ ∧ s.cool.darkStart = none ∧ ∃ th, s.cool.th = some th ∧ th < s.items.coolTemp := by
  have hactive (a : LiveActivity) : a = ⟨false, false, false, false⟩ ↔
      (a.housing = false ∧ a.gate = false) ∧ a.fan = false ∧ a.overcurrent = false := by
    obtain ⟨_, _, _, _⟩ := a
    simp [and_assoc]
  rw [hactive]
  unfold State.restartReady State.hotHousing
  cases s.cool.th with
  | none => simp
  | some th =>
    have hbelow : (!decide (s.items.coolTemp < th) && some th != some s.items.coolTemp) = true ↔ th < s.items.coolTemp := by
      simp only [Bool.and_eq_true, Bool.not_eq_true', decide_eq_false_iff_not, bne_iff_ne, ne_eq, Option.some.injEq]
      omega
    rw [Bool.and_assoc, Bool.and_eq_true, hbelow]
    simp [and_assoc]

/-- Settles O5. -/
theorem mechanismRestartTakesRestartValues : Obligations.MechanismRestartTakesRestartValues := by
  refine ⟨fun pins s hno => ?_, fun pins s hon hpl hactive hdark hcool hread hstill => ?_⟩
  · refine if_neg fun ⟨hon, hpl, hready⟩ => hno ?_
    exact ⟨hon, hpl, s.restartReady_iff.mp hready⟩
  · intro ended flushed
    have hended : ended = linkCompletions .aborted none s.inFlight := by
      rw [endedCompletions_eq]
      unfold ended
      cases s.changer.record.bind ChangeRecord.request <;> rfl
    obtain ⟨th, hth⟩ := Option.ne_none_iff_exists'.mp hread
    have hready := s.restartReady_iff.mpr ⟨hactive, hdark, th, hth, hcool th hth⟩
    have hexec : exec (.mechanismRestart pins) s = .next ((s.restart pins).offChanged s.offReady) :=
      (if_pos ⟨hon, hpl, hready⟩).trans (congrArg Host.Outcome.next (State.settleFrom_restart hpl pins))
    obtain ⟨power, due, hoff, hpower⟩ := (s.restart pins).offChanged_frame_cool s.offReady
    have hhome := s.restart_home pins
    have hclear := s.cleared_frame
    obtain ⟨flag, hlink⟩ := s.restart_link pins
    have hcool : (s.restart pins).cool = { s.cool with
        th := none, lastTach := none, speed := none, warning := pins.supplyFail } := by
      rw [hhome .cool (by decide), ← hclear .cool (by decide)]
      rfl
    have hpanel : (s.restart pins).panel = s.panel.restart pins.keys := by
      rw [hhome .panel (by decide), ← hclear .panel (by decide)]
      rfl
    rw [hcool] at hpower
    have hframe := s.restart_frame pins
    obtain ⟨done, hqueues⟩ := s.cleared_arb
    have harb : (s.restart pins).arb = { s.arb with
        queues := noQueues, stack := [], dwellDue := none, completions := done
        shadow := s.arb.shadow.map (fun h => { h with remainder := none }) } := by
      rw [s.restart_arb, hqueues]
      rfl
    obtain ⟨b, htape⟩ := State.cleared_tape hstill
    obtain ⟨hlamp, hwatch, haudio⟩ := s.restart_fade pins
    have hchanger := s.restart_changer pins
    rw [hoff] at hexec
    refine ⟨_, hexec, fun hlen => ?_, ?_, ?_, (congrArg (·.flags.fault) hlink :), (congrArg LinkPort.strap hlink :),
      (congrArg LinkPort.showMode hlink :), (congrArg Arbiter.queues harb :), (congrArg Arbiter.stack harb :),
      (congrArg Arbiter.dwellDue harb :), (congrArg Arbiter.priority harb :), (congrArg Arbiter.lock harb :),
      (congrArg Arbiter.hold harb :), (congrArg Arbiter.autoMode harb :), (congrArg Arbiter.shadow harb :), hlamp, hwatch, haudio, ?_,
      (congrArg Cooling.th hcool :), (congrArg Cooling.darkStart hcool).trans hdark, (congrArg Cooling.warning hcool :),
      (congrArg Cooling.stalled hcool :), (congrArg Cooling.stallDue hcool :), hpower, ?_, ?_, ?_, ?_, ?_,
      hframe .usage (by decide), hframe .store (by decide), hframe .items (by decide), hframe .law (by decide), ?_,
      (congrArg RemotePanel.held hpanel :), (congrArg RemotePanel.inert hpanel :), (congrArg RemotePanel.focus hpanel :), ?_⟩
    · show (s.restart pins).arb.completions = _
      rw [s.restart_arb, hended]
      exact State.cleared_completions hlen
    · show (s.restart pins).link.flags.completion = _
      rw [hhome .link (by decide), hended]
      exact s.cleared_flag
    · show (s.restart pins).prot = _
      rw [hhome .prot (by decide), ← hclear .prot (by decide)]
      rfl
    · show (s.restart pins).lamp = _
      rw [hhome .lamp (by decide), ← hclear .lamp (by decide)]
      rfl
    · show (s.restart pins).scan = _
      rw [hhome .scan (by decide), ← hclear .scan (by decide)]
      rfl
    · show (s.restart pins).tape = _
      rw [hhome .tape (by decide)]
      exact (congrArg Tape.restart htape :)
    · show (s.restart pins).dec.trackers = _
      rw [hhome .dec (by decide)]
      rfl
    · show (s.restart pins).dec.windowDue = _
      rw [hhome .dec (by decide)]
      have hdec : s.cleared.dec = s.dec := hclear .dec (by decide)
      exact (congrArg CueDecoder.windowDue hdec :)
    · show (s.restart pins).cue = _
      rw [hhome .cue (by decide)]
      exact congrArg (fun e => (⟨e, 0, 0, false⟩ : CueMap)) s.cleared_cue
    · show (s.restart pins).changer.map = _
      rw [hchanger]
      split_ifs
      · rw [Changer.homesFrom_map]
        rfl
      · rfl
    · show ite _ _ _
      dsimp only
      by_cases htray : s.changer.trayPresent = true
      · rw [if_pos htray] at hchanger
        rw [if_pos htray, hchanger]
        by_cases hgate : pins.sense.gateOccupied = true
        · rw [if_neg (by simp [hgate]), Changer.homesFrom_lifts _ _ hgate]
          exact ⟨rfl, rfl⟩
        by_cases hmark : pins.sense.homeMark = true
        · rw [if_pos ⟨by simpa using hgate, hmark⟩, Changer.homesFrom_arrives _ _ hgate hmark]
          exact ⟨rfl, rfl⟩
        · rw [if_neg fun h => hmark h.2, Changer.homesFrom_searches _ _ hgate hmark]
          exact ⟨rfl, rfl⟩
      · rw [if_neg htray] at hchanger
        rw [if_neg htray, hchanger]
        exact ⟨rfl, rfl⟩

end Sys2Proof.Machine
end

section
/-! The grant: which head is taken, what its leaving does to the queues, and the decision at the grant (R7, R23, R27 to R29,
R137, R139). -/

namespace Sys2Proof.Machine

/-! ## The head that is preferred (R27, R28) -/

/-- The best source of a list in rank order: the lowest priority number, and the first in rank among equals (R28). -/
theorem bestSource_first {p : Priorities} {l : List Source} (hrank : l.Pairwise (fun a b => a.rank < b.rank))
    {src : Source} (hsrc : src ∈ l) : ∃ best ∈ l, bestSource p l = some best
      ∧ (p.get best < p.get src ∨ p.get best = p.get src ∧ best.rank ≤ src.rank) := by
  induction l generalizing src with
  | nil => cases hsrc
  | cons a l ih =>
    obtain ⟨hfirst, hrest⟩ := List.pairwise_cons.mp hrank
    unfold bestSource
    cases hbest : bestSource p l with
    | none =>
      have hnil : l = [] := by
        cases l with
        | nil => rfl
        | cons b l =>
          obtain ⟨best, _, hsome, _⟩ := ih hrest List.mem_cons_self
          rw [hbest] at hsome
          cases hsome
      subst hnil
      obtain rfl := List.mem_singleton.mp hsrc
      exact ⟨src, List.mem_cons_self, rfl, .inr ⟨rfl, le_rfl⟩⟩
    | some other =>
      have hother : ∀ x ∈ l, p.get other < p.get x ∨ p.get other = p.get x ∧ other.rank ≤ x.rank := by
        intro x hx
        obtain ⟨best, _, hsome, hle⟩ := ih hrest hx
        cases hbest.symm.trans hsome
        exact hle
      have hmem : other ∈ l := (bestSource_spec p l other hbest).1
      have hbetween := hfirst other hmem
      obtain rfl | htail := List.mem_cons.mp hsrc
      · by_cases hle : p.get src ≤ p.get other
        · exact ⟨src, List.mem_cons_self, if_pos hle, .inr ⟨rfl, le_rfl⟩⟩
        · exact ⟨other, List.mem_cons_of_mem _ hmem, if_neg hle, .inl (by omega)⟩
      · have hless := hother src htail
        by_cases hle : p.get a ≤ p.get other
        · have hbefore := hfirst src htail
          exact ⟨a, List.mem_cons_self, if_pos hle, by omega⟩
        · exact ⟨other, List.mem_cons_of_mem _ hmem, if_neg hle, hless⟩

theorem State.mem_readySources {s : State} {src : Source} : src ∈ s.readySources ↔
    ∃ q rest, s.arb.queues.get src = q :: rest ∧ s.eligible q = true := by
  have hall : src ∈ sourcesByRank := by cases src <;> decide
  unfold State.readySources
  rw [List.mem_filter]
  cases hq : s.arb.queues.get src with
  | nil => simp
  | cons q rest =>
    constructor
    · exact fun ⟨_, h⟩ => ⟨q, rest, rfl, h⟩
    · rintro ⟨q', rest', heq, h⟩
      cases heq
      exact ⟨hall, h⟩

theorem State.readySources_ranked (s : State) : s.readySources.Pairwise (fun a b => a.rank < b.rank) := by
  have hall : sourcesByRank.Pairwise (fun a b => a.rank < b.rank) := by decide
  exact hall.sublist List.filter_sublist

theorem State.eligible_iff (q : Request) (s : State) : s.eligible q = true ↔
    ¬((q.source = .cue ∨ q.source = .dwell) ∧ s.arb.hold = true) ∧ ¬(q.waitFade = true ∧ s.fade.lamp.state ≠ .steady)
      ∧ s.lowSupplyHold = false := by
  unfold State.eligible
  simp [and_assoc, imp_iff_not_or]

theorem State.lowSupplyHold_eq_false (s : State) : s.lowSupplyHold = false ↔
    ∀ sl, s.scan.slots.find? (fun x => x.cfg.role == .supply) = some sl → sl.lowCond = false := by
  unfold State.lowSupplyHold
  change (match s.scan.slots.find? (fun x => x.cfg.role == .supply) with
    | none => false
    | some sl => sl.lowCond) = false ↔ _
  cases s.scan.slots.find? (fun x => x.cfg.role == .supply) with
  | none => exact iff_of_true rfl nofun
  | some sl => exact ⟨fun h _ heq => Option.some.inj heq ▸ h, fun h => h sl rfl⟩

/-! ## The head that leaves its queue (R28, R29, R137, R139) -/

/-- The arbiter and the Cue Map once the head has left (R28, R139). -/
def State.leaves (src : Source) (q : Request) (rest : List Request) (s : State) : State :=
  if src = .cue then (s.takeHead src q rest).reportCue else s.takeHead src q rest

/-- The position that a RETURN pops (R35). -/
def State.pops (q : Request) (s : State) : Option Nat := if q.kind = .ret then s.arb.stack.head? else none

theorem exec_grant {s : State} {src : Source} {q : Request} {rest : List Request} (hsrc : s.preferred = some src)
    (hq : s.arb.queues.get src = q :: rest) (sense : Sense) : exec (.grant sense) s =
      .next ((s.sensed sense).settleFrom (((s.sensed sense).leaves src q rest).decideGrant q (s.pops q))) := by
  have honce : (s.sensed sense).grantOnce = some ((s.sensed sense).settleFrom ((s.sensed sense).grantHead src q rest)) := by
    unfold State.grantOnce
    rw [show (s.sensed sense).preferred = some src from hsrc]
    dsimp only
    rw [show (s.sensed sense).arb.queues.get src = q :: rest from hq]
  show execGrant sense s = _
  unfold execGrant
  rw [State.sensed_eq, honce]
  rfl

theorem exec_grant_none {s : State} (hsrc : s.preferred = none) (sense : Sense) : exec (.grant sense) s = .next s := by
  have honce : (s.sensed sense).grantOnce = none := by
    unfold State.grantOnce
    rw [show (s.sensed sense).preferred = none from hsrc]
  show execGrant sense s = _
  unfold execGrant
  rw [State.sensed_eq, honce]
  rfl

theorem State.leaves_frame (src : Source) (q : Request) (rest : List Request) (s : State) :
    s.onlyChanges [.arb, .cue, .tape, .dec] (s.leaves src q rest) := by
  unfold State.leaves
  split_ifs
  · exact (s.takeHead_frame src q rest).andThen (State.reportCue_frame _) (by decide) (by decide)
  · exact (s.takeHead_frame src q rest).mono (by decide)

theorem State.leaves_arb (src : Source) (q : Request) (rest : List Request) (s : State) :
    ∃ queues shadow, (s.leaves src q rest).arb = { s.arb with
      queues := queues, dwellDue := none, shadow := shadow
      stack := if q.kind = .ret then s.arb.stack.tail else s.arb.stack } := by
  unfold State.leaves
  by_cases hcue : src = .cue
  · obtain ⟨queues, hqueues⟩ := (s.takeHead src q rest).reportCue_arb
    rw [if_pos hcue, hqueues]
    exact ⟨queues, _, rfl⟩
  · rw [if_neg hcue]
    exact ⟨_, _, rfl⟩

/-! ## What the decision leaves of the arbiter (R7, R29, R30) -/

theorem State.liftDone_arb (s : State) : s.liftDone.arb = s.arb := s.liftDone_frame .arb (by decide)

theorem State.homingSuccess_queues (s : State) : s.homingSuccess.arb.queues = s.arb.queues := by
  unfold State.homingSuccess
  split
  · rfl
  · next r hr =>
    dsimp only
    split
    · have hend := State.endChange_arb (s := s.putChanger { s.changer with
        position := some 0, drive := none, lift := false, homingLift := false, stageDue := none }) hr .done .idle false
      rw [hend]
      rfl
    · rw [State.liftDone_arb]
      rw [State.putChanger_arb, State.fixTarget_frame _ _ _ _ .arb (by decide)]
      rfl

theorem State.leaveDipping_queues (s : State) : s.leaveDipping.arb.queues = s.arb.queues := by
  unfold State.leaveDipping
  split
  · unfold State.startHoming
    dsimp only
    by_cases hgate : s.changer.sense.gateOccupied = true
    · rw [if_pos hgate]
      rfl
    · rw [if_neg hgate]
      unfold State.homingSearch
      split
      · exact State.homingSuccess_queues _
      · rfl
  · rw [s.startLift_frame .arb (by decide)]

theorem State.firstStage_queues (q : Request) (s : State) : (s.firstStage q).arb.queues = s.arb.queues := by
  unfold State.firstStage
  dsimp only
  split_ifs
  · exact State.leaveDipping_queues _
  · rfl
  · exact State.leaveDipping_queues _

theorem State.pushOrigin_queues (q : Request) (s : State) : (s.pushOrigin q).arb.queues = s.arb.queues := by
  unfold State.pushOrigin
  split
  · rfl
  · split_ifs <;> rfl

theorem State.endAtGrant_queues (q : Request) (o : ChangeOutcome) (s : State) :
    (s.endAtGrant q o).arb.queues = s.arb.queues :=
  (congrArg Arbiter.queues (State.completeRequest_arb q o s.changer.position s) :)

theorem State.decideGrant_queues (q : Request) (popped : Option Nat) (s : State) :
    (s.decideGrant q popped).arb.queues = s.arb.queues := by
  unfold State.decideGrant
  split_ifs
  · rw [State.endAtGrant_queues, State.pushOrigin_queues]
  · exact State.endAtGrant_queues _ _ _
  · exact State.endAtGrant_queues _ _ _
  · split
    · exact State.firstStage_queues _ _
    · next p _ =>
      have hfix : (s.fixTarget q popped p).1.arb = s.arb := s.fixTarget_frame q popped p .arb (by decide)
      dsimp only
      split_ifs
      · rw [State.endAtGrant_queues, hfix]
      · rw [State.firstStage_queues]
        exact (State.pushOrigin_queues _ _).trans (congrArg Arbiter.queues hfix)

/-! ## The CUE queue once its head has left (R25, R137, R139) -/

/-- How many owed steps join a CUE queue with room (R25, R139). -/
def State.joinsOwed (s : State) : Nat :=
  if s.cool.power ≠ .coolingDown ∧ s.prot.pl < 2 then min (4 - s.arb.queues.cue.length) s.cue.debt else 0

/-- How many steps stay owed once a CUE queue with room has taken what it can (R25, R139). -/
def State.staysOwed (s : State) : Nat :=
  if s.cool.power ≠ .coolingDown ∧ s.prot.pl < 2 then s.cue.debt - s.joinsOwed else 0

theorem State.convertDebt_eq {s : State} (hroom : s.arb.queues.cue.length < 4) : State.convertDebt s.cue.debt s = { s with
    arb := { s.arb with queues := { s.arb.queues with cue := s.arb.queues.cue ++ List.replicate s.joinsOwed owed } }
    cue := { s.cue with debt := s.staysOwed } } := by
  by_cases ht : s.cool.power ≠ .coolingDown ∧ s.prot.pl < 2
  · have hjoins : s.joinsOwed = min (4 - s.arb.queues.cue.length) s.cue.debt := if_pos ht
    have hstays : s.staysOwed = s.cue.debt - s.joinsOwed := if_pos ht
    rw [State.convertDebt_taken ht _ le_rfl, hstays, ← hjoins]
    rfl
  · have hjoins : s.joinsOwed = 0 := if_neg ht
    have hstays : s.staysOwed = 0 := if_neg ht
    rw [State.convertDebt_dropped ht hroom _ le_rfl, hstays, hjoins, List.replicate_zero, List.append_nil]

/-- Settles O7. -/
theorem grantPrefersLowestPriority : Obligations.GrantPrefersLowestPriority := by
  refine ⟨fun q s => ?_, fun s hidle hlost => ?_, fun sense s hnone => exec_grant_none hnone sense,
    fun src s hfree q rest hq helig => ?_, fun sense s src hsrc q rest hq => ?_⟩
  · rw [State.eligible_iff, State.lowSupplyHold_eq_false]
  · have hbusy : s.changerFree = false := by simp [State.changerFree, hidle, hlost]
    unfold State.preferred
    rw [hbusy]
    rfl
  · have hfree' : s.changerFree = true := by simpa [State.changerFree] using hfree
    obtain ⟨best, hmem, hbest, hle⟩ := bestSource_first (p := s.arb.priority) s.readySources_ranked
      (State.mem_readySources.mpr ⟨q, rest, hq, helig⟩)
    obtain ⟨r, others, hr, hready⟩ := State.mem_readySources.mp hmem
    refine ⟨best, ?_, hle, r, by rw [hr]; rfl, hready⟩
    unfold State.preferred
    rw [hfree']
    exact hbest
  · have hqueues (t : State) : (((s.sensed sense).settleFrom (t.decideGrant q (s.pops q)))).arb.queues = t.arb.queues := by
      rw [State.settleFrom_frame _ _ .arb (by decide), State.decideGrant_queues]
    have hcue (t : State) : (((s.sensed sense).settleFrom (t.decideGrant q (s.pops q)))).cue = t.cue := by
      rw [State.settleFrom_frame _ _ .cue (by decide), State.decideGrant_frame _ _ _ .cue (by decide)]
    have htape (t : State) : (((s.sensed sense).settleFrom (t.decideGrant q (s.pops q)))).tape = t.tape := by
      rw [State.settleFrom_frame _ _ .tape (by decide), State.decideGrant_frame _ _ _ .tape (by decide)]
    refine ⟨_, exec_grant hsrc hq sense, fun hno => ?_, fun hyes hdebt => ?_, fun hyes hroom => ?_⟩
    · rw [hqueues]
      exact congrArg (fun u : State => u.arb.queues) (if_neg hno)
    · subst hyes
      have hnone : ((s.sensed sense).takeHead .cue q rest).cue.debt = 0 := hdebt
      rw [hqueues, State.leaves, if_pos rfl, State.reportCue, hnone, State.judgeQueue_frame _ .arb (by decide)]
      rfl
    · subst hyes
      intro joins left n
      obtain ⟨v, hv⟩ : ∃ v, State.convertDebt ((s.sensed sense).takeHead .cue q rest).cue.debt
        ((s.sensed sense).takeHead .cue q rest) = v := ⟨_, rfl⟩
      have hconvert := State.convertDebt_eq (s := (s.sensed sense).takeHead .cue q rest)
        (show rest.length < 4 by omega)
      rw [hv] at hconvert
      have hvqueues : v.arb.queues = s.arb.queues.put .cue (rest ++ List.replicate joins owed) := by
        rw [hconvert]
        rfl
      have hvcue : v.cue = { s.cue with debt := left } := by
        rw [hconvert]
        rfl
      have hvtape : v.tape = s.tape := by rw [hconvert]; rfl
      have hvclock : v.clock = s.clock := by rw [hconvert]; rfl
      have hlen : v.arb.queues.cue.length = n := by
        rw [hvqueues]
        exact List.length_append.trans (congrArg (rest.length + ·) List.length_replicate)
      have hn : n ≤ 4 := by
        unfold n joins
        split_ifs <;> omega
      have hfull : 4 ≤ n ↔ n = 4 := by omega
      have hleaves : (s.sensed sense).leaves .cue q rest = v.judgeQueue := (if_pos rfl).trans (congrArg State.judgeQueue hv)
      rw [hqueues, hcue, htape, hleaves, State.judgeQueue_frame _ .arb (by decide), State.judgeQueue_cue,
        State.judgeQueue_tape, hlen, hvqueues, hvcue, hvtape, hvclock]
      simp only [hfull]
      exact ⟨trivial, trivial, trivial⟩

end Sys2Proof.Machine
end

section
/-! The decision at the grant: the changes that end at once and those that run, with the dip and the first stage (R6 to R12,
R18, R29, R35, R66 to R68, R135, R136). -/

namespace Sys2Proof.Machine

/-! ## The decision, case by case (R7) -/

section Decide
variable {q : Request} {popped : Option Nat} {s : State}

theorem State.decideGrant_stopped (h : s.changer.trayPresent = false ∨ s.cool.warning = true) :
    s.decideGrant q popped = (s.pushOrigin q).endAtGrant q .aborted := if_pos h

theorem State.decideGrant_beyond (htray : s.changer.trayPresent = true) (hwarn : s.cool.warning = false)
    (hgoto : q.kind = .goto) (hfar : s.items.traySize < q.target.getD 0) :
    s.decideGrant q popped = s.endAtGrant q .aborted := by
  unfold State.decideGrant
  rw [if_neg (by simp [htray, hwarn]), if_pos ⟨hgoto, hfar⟩]

theorem State.decideGrant_empty (htray : s.changer.trayPresent = true) (hwarn : s.cool.warning = false)
    (hret : q.kind = .ret) : s.decideGrant q none = s.endAtGrant q .nothing := by
  unfold State.decideGrant
  rw [if_neg (by simp [htray, hwarn]), if_neg (by simp [hret]), if_pos ⟨hret, rfl⟩]

/-- A request that R7 does not end before its target is fixed. -/
def State.goesOn (q : Request) (popped : Option Nat) (s : State) : Prop :=
  s.changer.trayPresent = true ∧ s.cool.warning = false ∧ (q.kind = .goto → q.target.getD 0 ≤ s.items.traySize)
    ∧ (q.kind = .ret → popped ≠ none)

theorem State.decideGrant_known (h : s.goesOn q popped) {p : Nat} (hp : s.changer.position = some p) :
    s.decideGrant q popped =
      if (s.fixTarget q popped p).2.2 = p then (s.fixTarget q popped p).1.endAtGrant (s.fixTarget q popped p).2.1 .nothing
      else (((s.fixTarget q popped p).1.pushOrigin (s.fixTarget q popped p).2.1).putRecord
        (grantRecord (s.fixTarget q popped p).2.1 (some p) (some (s.fixTarget q popped p).2.2) popped)).firstStage
          (s.fixTarget q popped p).2.1 := by
  obtain ⟨htray, hwarn, hgoto, hret⟩ := h
  unfold State.decideGrant
  rw [if_neg (by simp [htray, hwarn]), if_neg fun hno => absurd (hgoto hno.1) (Nat.not_le.mpr hno.2),
    if_neg fun hno => hret hno.1 hno.2]
  split
  · next hno =>
    rw [hp] at hno
    cases hno
  · next p' hp' =>
    cases hp.symm.trans hp'
    rfl

theorem State.decideGrant_unknown (h : s.goesOn q popped) (hp : s.changer.position = none) :
    s.decideGrant q popped = (s.putRecord (grantRecord q none none popped)).firstStage q := by
  obtain ⟨htray, hwarn, hgoto, hret⟩ := h
  unfold State.decideGrant
  rw [if_neg (by simp [htray, hwarn]), if_neg fun hno => absurd (hgoto hno.1) (Nat.not_le.mpr hno.2),
    if_neg fun hno => hret hno.1 hno.2]
  split
  · rfl
  · next p' hp' =>
    rw [hp] at hp'
    cases hp'

end Decide

/-! ## The push of a GOTO's origin (R29, R33) -/

/-- A GOTO whose origin goes onto the return stack (R29). -/
def State.pushes (q : Request) (p : Nat) (s : State) : Prop :=
  q.kind = .goto ∧ q.noPush = false ∧ q.target.getD 0 ≤ s.items.traySize ∧ q.target.getD 0 ≠ p

theorem State.pushOrigin_pushes {q : Request} {p : Nat} {s : State} (hp : s.changer.position = some p)
    (h : s.pushes q p) : s.pushOrigin q = s.pushStack p := by
  unfold State.pushOrigin
  rw [hp]
  exact if_pos h

theorem State.pushOrigin_stays {q : Request} {s : State} (h : ∀ p, s.changer.position = some p → ¬s.pushes q p) :
    s.pushOrigin q = s := by
  unfold State.pushOrigin
  split
  · rfl
  · next p hp => exact if_neg (h p hp)

theorem State.settleFrom_completionFlag (s t : State) :
    (s.settleFrom t).link.flags.completion = t.link.flags.completion := by
  obtain h | h := s.settleFrom_link t <;> rw [h]

theorem State.settleFrom_syncFlag (s t : State) :
    (s.settleFrom t).link.flags.syncTape = t.link.flags.syncTape := by
  obtain h | h := s.settleFrom_link t <;> rw [h]

/-! ## Changes that end at their grant (R7, R35) -/

section Pushed
variable (sense : Sense) (src : Source) (q : Request) (rest : List Request) (s : State)

/-- The part once the head has left and a GOTO has pushed its origin (R28, R29). -/
def State.pushed : State := ((s.sensed sense).leaves src q rest).pushOrigin q

theorem State.leaves_stack : ((s.sensed sense).leaves src q rest).arb.stack
    = if q.kind = .ret then s.arb.stack.tail else s.arb.stack := by
  obtain ⟨queues, shadow, harb⟩ := (s.sensed sense).leaves_arb src q rest
  rw [harb]
  rfl

theorem State.leaves_changer :
    ((s.sensed sense).leaves src q rest).changer = { s.changer with sense := sense } :=
  (s.sensed sense).leaves_frame src q rest .changer (by decide)

theorem State.leaves_items : ((s.sensed sense).leaves src q rest).items = s.items :=
  (s.sensed sense).leaves_frame src q rest .items (by decide)

theorem State.leaves_cool : ((s.sensed sense).leaves src q rest).cool = s.cool :=
  (s.sensed sense).leaves_frame src q rest .cool (by decide)

theorem State.leaves_pushes (p : Nat) : ((s.sensed sense).leaves src q rest).pushes q p ↔ s.pushes q p := by
  unfold State.pushes
  rw [State.leaves_items]

theorem State.pushed_frame : s.onlyChanges [.changer, .arb, .cue, .tape, .dec] (s.pushed sense src q rest) := by
  have hsense : s.onlyChanges [.changer] (s.sensed sense) := by intro b hb; cases b <;> first | rfl | simp at hb
  exact (hsense.andThen ((s.sensed sense).leaves_frame src q rest) (cs := [.changer, .arb, .cue, .tape, .dec]) (by decide)
    (by decide)).andThen (State.pushOrigin_frame q _) (by decide) (by decide)

theorem State.pushed_changer : (s.pushed sense src q rest).changer = { s.changer with sense := sense } :=
  Eq.trans (State.pushOrigin_frame q _ .changer (by decide)) (s.leaves_changer sense src q rest)

theorem State.pushed_arb : ∃ queues shadow stack, (s.pushed sense src q rest).arb = { s.arb with
    queues := queues, dwellDue := none, shadow := shadow, stack := stack } := by
  obtain ⟨queues, shadow, harb⟩ := (s.sensed sense).leaves_arb src q rest
  unfold State.pushed State.pushOrigin
  split
  · exact ⟨queues, shadow, _, harb⟩
  · next p _ =>
    split_ifs
    · unfold State.pushStack
      rw [harb]
      exact ⟨queues, shadow, _, rfl⟩
    · exact ⟨queues, shadow, _, harb⟩

/-- The stack after a grant: a RETURN has popped it, a GOTO has pushed its origin (R29, R33, R35). -/
theorem State.pushed_stack {p : Nat} (hp : s.changer.position = some p) : (s.pushed sense src q rest).arb.stack =
    if q.kind = .ret then s.arb.stack.tail
    else if q.kind = .goto ∧ q.noPush = false ∧ q.target.getD 0 ≤ s.items.traySize ∧ q.target.getD 0 ≠ p then
      (p :: s.arb.stack).take 6
    else s.arb.stack := by
  have hposition : ((s.sensed sense).leaves src q rest).changer.position = some p := by rw [State.leaves_changer, hp]
  by_cases hpush : s.pushes q p
  · have hret : q.kind ≠ .ret := fun h => absurd (h.symm.trans hpush.1) (by decide)
    unfold State.pushed
    rw [State.pushOrigin_pushes hposition ((s.leaves_pushes sense src q rest p).mpr hpush), if_neg hret,
      if_pos (show _ ∧ _ from hpush)]
    show pushPosition ((s.sensed sense).leaves src q rest).arb.stack p = _
    rw [State.leaves_stack, if_neg hret]
    rfl
  · have hstays (p' : Nat) (hp' : ((s.sensed sense).leaves src q rest).changer.position = some p') :
        ¬((s.sensed sense).leaves src q rest).pushes q p' := by
      cases hposition.symm.trans hp'
      exact mt (s.leaves_pushes sense src q rest p).mp hpush
    unfold State.pushed
    rw [State.pushOrigin_stays hstays, State.leaves_stack]
    exact if_congr Iff.rfl rfl (if_neg hpush).symm

theorem State.pushed_stack_unknown (hp : s.changer.position = none) : (s.pushed sense src q rest).arb.stack =
    if q.kind = .ret then s.arb.stack.tail else s.arb.stack := by
  have hstays (p : Nat) (hp' : ((s.sensed sense).leaves src q rest).changer.position = some p) :
      ¬((s.sensed sense).leaves src q rest).pushes q p := by
    rw [State.leaves_changer, hp] at hp'
    cases hp'
  unfold State.pushed
  rw [State.pushOrigin_stays hstays, State.leaves_stack]

theorem State.endsAtGrant_pushed (o : ChangeOutcome) :
    s.endsAtGrant sense q o ((s.sensed sense).settleFrom ((s.pushed sense src q rest).endAtGrant q o)) := by
  obtain ⟨queues, shadow, stack, harb⟩ := s.pushed_arb sense src q rest
  have hchanger := s.pushed_changer sense src q rest
  have hend : s.onlyChanges [.arb, .cue, .tape, .dec, .link, .changer, .lamp, .cool, .store, .prot]
      ((s.sensed sense).settleFrom ((s.pushed sense src q rest).endAtGrant q o)) :=
    ((s.pushed_frame sense src q rest).andThen (State.completeRequest_frame q o _ _)
      (cs := [.arb, .cue, .tape, .dec, .link, .changer]) (by decide) (by decide)).andThen (State.settleFrom_frame _ _)
        (by decide) (by decide)
  have hended : ((s.sensed sense).settleFrom ((s.pushed sense src q rest).endAtGrant q o)).arb
      = ((s.pushed sense src q rest).endAtGrant q o).arb := State.settleFrom_frame _ _ .arb (by decide)
  have hafter : ((s.sensed sense).settleFrom ((s.pushed sense src q rest).endAtGrant q o)).changer
      = (s.pushed sense src q rest).changer := by
    rw [State.settleFrom_frame _ _ .changer (by decide)]
    exact State.completeRequest_frame q o _ _ .changer (by decide)
  refine ⟨hafter.trans hchanger, hend .fade (by decide), hend .usage (by decide), ?_, ?_, ?_⟩
  · rw [hended, State.endAtGrant, State.completeRequest_arb, harb]
  · rw [hended, State.endAtGrant, State.completeRequest_arb]
    show (s.pushed sense src q rest).arb.stack = _
    cases hp : s.changer.position with
    | none =>
      rw [s.pushed_stack_unknown sense src q rest hp]
      cases q.kind <;> rfl
    | some p =>
      rw [s.pushed_stack sense src q rest hp]
      cases q.kind with
      | goto =>
        simp only [true_and]
        rfl
      | ret => rfl
      | stepFwd | stepRev | home => exact (if_neg (by decide)).trans (if_neg fun h => absurd h.1 (by decide))
  · rw [hended, State.endAtGrant, State.completeRequest_arb, hchanger, harb]
    by_cases hlink : q.source = .link
    · rw [if_pos hlink, if_pos hlink]
      refine ⟨rfl, ?_⟩
      rw [State.settleFrom_completionFlag, State.completeRequest, if_pos hlink]
      rfl
    · rw [if_neg hlink, if_neg hlink]

end Pushed

/-- What a request asks for does not depend on what a RETURN would have popped (R35). -/
theorem State.asks_pops {q : Request} {p n : Nat} {s : State} (h : s.asks q s.arb.stack.head? p n) :
    s.asks q (s.pops q) p n := by
  unfold State.asks State.pops at *
  cases hk : q.kind <;> rw [hk] at h <;> exact h

/-- A request that asks for a position is not ended before its target is fixed (R7). -/
theorem State.goesOn_of_asks {q : Request} {popped : Option Nat} {p n : Nat} {s : State}
    (htray : s.changer.trayPresent = true) (hwarn : s.cool.warning = false) (h : s.asks q popped p n) :
    s.goesOn q popped := by
  refine ⟨htray, hwarn, fun hgoto => ?_, fun hret => ?_⟩
  · unfold State.asks at h
    rw [hgoto] at h
    rw [h.1]
    exact h.2
  · unfold State.asks at h
    rw [hret] at h
    rw [h]
    exact Option.some_ne_none n

/-- The target of a step reads the map and the settings alone (R11). -/
theorem State.stepTarget_congr {s t : State} (hmap : t.changer.map = s.changer.map) (hitems : t.items = s.items)
    (d : Direction) (p : Nat) : t.stepTarget d p = s.stepTarget d p := by
  have heligible : (fun q => t.stepEligible q) = fun q => s.stepEligible q := by
    funext q
    unfold State.stepEligible State.entryAt
    rw [hmap]
  unfold State.stepTarget
  rw [hitems, heligible]

theorem State.asks_congr {s t : State} (hmap : t.changer.map = s.changer.map) (hitems : t.items = s.items)
    (q : Request) (popped : Option Nat) (p n : Nat) : t.asks q popped p n ↔ s.asks q popped p n := by
  unfold State.asks
  rw [State.stepTarget_congr hmap hitems, State.stepTarget_congr hmap hitems, hitems]

theorem State.leaves_asks {sense : Sense} {src : Source} {q : Request} {rest : List Request} {s : State}
    {popped : Option Nat} {p n : Nat} :
    ((s.sensed sense).leaves src q rest).asks q popped p n ↔ s.asks q popped p n :=
  State.asks_congr (by rw [State.leaves_changer]) (s.leaves_items sense src q rest) q popped p n

/-- Settles O8. -/
theorem grantEndsAtOnce : Obligations.GrantEndsAtOnce := by
  have hstays {sense : Sense} {src : Source} {q : Request} {rest : List Request} {s : State} (o : ChangeOutcome)
      (hno : ∀ p, s.changer.position = some p → ¬((s.sensed sense).leaves src q rest).pushes q p) :
      s.endsAtGrant sense q o
        ((s.sensed sense).settleFrom (((s.sensed sense).leaves src q rest).endAtGrant q o)) := by
    have hpushed := s.endsAtGrant_pushed sense src q rest o
    unfold State.pushed at hpushed
    rwa [State.pushOrigin_stays (by rw [State.leaves_changer]; exact hno)] at hpushed
  refine ⟨fun sense s src hsrc q rest hq hstop => ?_, fun sense s src hsrc q rest hq htray hwarn hgoto hfar => ?_,
    fun sense s src hsrc q rest hq htray hwarn hret hempty => ?_,
    fun sense s src hsrc q rest hq htray hwarn p hp hask => ?_⟩
  · refine ⟨_, exec_grant hsrc hq sense, ?_⟩
    rw [State.decideGrant_stopped (by rw [State.leaves_changer, State.leaves_cool]; exact hstop)]
    exact s.endsAtGrant_pushed sense src q rest .aborted
  · refine ⟨_, exec_grant hsrc hq sense, ?_⟩
    rw [State.decideGrant_beyond (by rw [State.leaves_changer]; exact htray) (by rw [State.leaves_cool]; exact hwarn) hgoto
      (by rw [State.leaves_items]; exact hfar)]
    refine hstays .aborted fun p _ hpush => absurd hpush.2.2.1 ?_
    rw [State.leaves_items]
    exact Nat.not_le.mpr hfar
  · have hpops : s.pops q = none := by
      unfold State.pops
      rw [if_pos hret, hempty]
      rfl
    refine ⟨_, exec_grant hsrc hq sense, ?_⟩
    rw [hpops, State.decideGrant_empty (by rw [State.leaves_changer]; exact htray)
      (by rw [State.leaves_cool]; exact hwarn) hret]
    exact hstays .nothing fun p _ hpush => absurd (hret.symm.trans hpush.1) (by decide)
  · have hasks : ((s.sensed sense).leaves src q rest).asks q (s.pops q) p p := State.leaves_asks.mpr (State.asks_pops hask)
    have hgoes := State.goesOn_of_asks (by rw [State.leaves_changer]; exact htray) (by rw [State.leaves_cool]; exact hwarn)
      hasks
    refine ⟨_, exec_grant hsrc hq sense, ?_⟩
    rw [State.decideGrant_known hgoes (by rw [State.leaves_changer]; exact hp),
      State.fixTarget_asked (.inr rfl) hasks, if_pos rfl]
    refine hstays .nothing fun p' hp' hpush => ?_
    cases hp.symm.trans hp'
    obtain ⟨hgoto, _, _, hne⟩ := hpush
    unfold State.asks at hask
    rw [hgoto] at hask
    rw [hask.1] at hne
    exact hne rfl

end Sys2Proof.Machine
end

section
/-! The first stage of a change that runs: the watch, the dip, and how it leaves DIPPING (R8 to R10, R12, R18, R66 to R68). -/

namespace Sys2Proof.Machine

/-! ## The dip (R8, R66 to R68) -/

/-- The dip conditions (R8). -/
def State.dips (q : Request) (s : State) : Prop :=
  s.items.dipPolicy = true ∧ q.noDip = false ∧ s.items.dipLevel < min s.fade.lamp.level s.ceiling

theorem State.dipHolds_iff (q : Request) (s : State) : s.dipHolds q = true ↔ s.dips q := by
  simp [State.dipHolds, State.dips, State.effective, and_assoc]

/-- The Fade Engine at the grant of a change that runs and dips (R66, R67). -/
def State.dipped (s : State) : FadeEngine := { s.fade with
  lamp := { s.fade.lamp.takes 0 s.items.dipTime s.clock with state := .dipped }
  watch := some ⟨true, some s.fade.lamp.target, some s.items.restoreTime, none⟩ }

/-- The part in DIPPING, right after the grant (R8, R67). -/
def State.dipping (s : State) : State := { s with fade := s.dipped, changer := { s.changer with state := .dipping } }

theorem State.takeDip_openWatch (s : State) :
    ({ s.openWatch.takeDip with changer := { s.openWatch.changer with state := .dipping } } : State) = s.dipping := by
  unfold State.takeDip
  dsimp only
  rw [FadeChannel.rampTo_eq_takes]
  rfl

/-- The dip is complete at once where its time is 0 alone (R8, R68). -/
theorem State.dipping_dipComplete (s : State) : s.dipping.dipComplete = true ↔ s.items.dipTime = 0 := by
  have hsteps : s.dipping.fade.lamp.steps = 10 * s.items.dipTime := rfl
  have hcount : s.dipping.fade.lamp.count = 0 := rfl
  have hstate : s.dipping.fade.lamp.state = .dipped := rfl
  unfold State.dipComplete
  rw [hsteps, hcount, hstate]
  simp

/-- A change that dips waits in DIPPING, but for a dip time of 0 (R8, R67, R68). -/
theorem State.firstStage_dips {q : Request} {s : State} (hdips : s.dips q) :
    s.firstStage q = if s.items.dipTime = 0 then s.dipping.leaveDipping else s.dipping := by
  unfold State.firstStage
  dsimp only
  rw [if_pos (by rwa [State.dipHolds_iff]), State.takeDip_openWatch]
  exact if_congr s.dipping_dipComplete rfl rfl

theorem State.firstStage_plain {q : Request} {s : State} (hdips : ¬s.dips q) :
    s.firstStage q = s.openWatch.leaveDipping := by
  unfold State.firstStage
  dsimp only
  rw [if_neg (by rwa [State.dipHolds_iff])]

/-- Where the change does not wait in DIPPING, the Fade Engine alone has been written when it goes on (R8, R66, R67). -/
theorem State.firstStage_moves {q : Request} {s : State} (h : ¬s.dips q ∨ s.items.dipTime = 0) :
    ∃ u st, s.firstStage q = u.leaveDipping ∧ u.changer = { s.changer with state := st }
      ∧ s.onlyChanges [.fade, .changer] u := by
  by_cases hdips : s.dips q
  · refine ⟨s.dipping, .dipping, ?_, rfl, ?_⟩
    · rw [State.firstStage_dips hdips, if_pos (h.resolve_left (not_not_intro hdips))]
    · intro b hb; cases b <;> first | rfl | simp at hb
  · refine ⟨s.openWatch, s.changer.state, State.firstStage_plain hdips, rfl, ?_⟩
    intro b hb; cases b <;> first | rfl | simp at hb

/-! ## What the first stage leaves alone (R66 to R68) -/

/-- The search that finds the mark at once: a granted change goes on, its target fixed (R18). -/
theorem State.homingSearch_requested {s : State} {r : ChangeRecord} {q : Request} (hr : s.changer.record = some r)
    (hq : r.request = some q) : s.onlyChanges [.changer, .usage, .link] s.homingSearch := by
  unfold State.homingSearch
  by_cases hmark : s.changer.sense.homeMark = true
  · rw [if_pos hmark]
    unfold State.homingSuccess
    rw [hr]
    dsimp only
    rw [hq]
    exact (((State.putChanger_frame _ _).andThen (State.fixTarget_frame q r.popped 0 _)
      (cs := [.changer, .usage, .link]) (by decide) (by decide)).andThen (State.putChanger_frame _ _)
      (cs := [.changer, .usage, .link]) (by decide) (by decide)).andThen (State.liftDone_frame _) (by decide) (by decide)
  · rw [if_neg hmark]
    exact (State.putChanger_frame _ _).mono (by decide)

/-- A granted change that leaves DIPPING touches neither the arbiter nor the fades (R8, R18). -/
theorem State.leaveDipping_requested {s : State} {r : ChangeRecord} {q : Request} (hr : s.changer.record = some r)
    (hq : r.request = some q) : s.onlyChanges [.changer, .usage, .link] s.leaveDipping := by
  unfold State.leaveDipping
  split
  · unfold State.startHoming
    dsimp only
    split_ifs
    · exact ((s.putChanger_frame _).trans (State.putChanger_frame _ _)).mono (by decide)
    · exact (s.putChanger_frame { s.changer with state := .homing, position := none }).andThen
        (State.homingSearch_requested (s := s.putChanger { s.changer with state := .homing, position := none }) hr hq)
        (by decide) (by decide)
  · exact s.startLift_frame.mono (by decide)

theorem State.leaveDipping_known {s : State} {p : Nat} (hp : s.changer.position = some p) :
    s.onlyChanges [.changer] s.leaveDipping := by
  unfold State.leaveDipping
  split
  · next hno =>
    rw [hp] at hno
    cases hno
  · exact s.startLift_frame

section FirstStage
variable {q : Request} {s : State} {r : ChangeRecord} (hr : s.changer.record = some r) (hq : r.request = some q)
include hr hq

theorem State.firstStage_dipFade (hdips : s.dips q) : (s.firstStage q).fade = s.dipped := by
  rw [State.firstStage_dips hdips]
  split_ifs
  · exact State.leaveDipping_requested (s := s.dipping) hr hq .fade (by decide)
  · rfl

theorem State.firstStage_plainFade (hdips : ¬s.dips q) :
    (s.firstStage q).fade = { s.fade with watch := some ⟨false, none, none, none⟩ } := by
  rw [State.firstStage_plain hdips]
  exact State.leaveDipping_requested (s := s.openWatch) hr hq .fade (by decide)

theorem State.firstStage_arb : (s.firstStage q).arb = s.arb := by
  by_cases hdips : s.dips q
  · rw [State.firstStage_dips hdips]
    split_ifs
    · exact State.leaveDipping_requested (s := s.dipping) hr hq .arb (by decide)
    · rfl
  · rw [State.firstStage_plain hdips]
    exact State.leaveDipping_requested (s := s.openWatch) hr hq .arb (by decide)

end FirstStage

theorem State.firstStage_known {q : Request} {s : State} {p : Nat} (hp : s.changer.position = some p) :
    s.onlyChanges [.changer, .fade] (s.firstStage q) := by
  have hdipping : s.onlyChanges [.changer, .fade] s.dipping := by intro b hb; cases b <;> first | rfl | simp at hb
  have hwatch : s.onlyChanges [.changer, .fade] s.openWatch := by intro b hb; cases b <;> first | rfl | simp at hb
  by_cases hdips : s.dips q
  · rw [State.firstStage_dips hdips]
    split_ifs
    · exact hdipping.andThen (State.leaveDipping_known (s := s.dipping) hp) (by decide) (by decide)
    · exact hdipping
  · rw [State.firstStage_plain hdips]
    exact hwatch.andThen (State.leaveDipping_known (s := s.openWatch) hp) (by decide) (by decide)

/-! ## The first stage itself (R8 to R10, R12, R18) -/

section Stages
variable {q : Request} {s : State}

theorem State.firstStage_waits (hdips : s.dips q) (htime : s.items.dipTime ≠ 0) :
    (s.firstStage q).changer = { s.changer with state := .dipping } := by
  rw [State.firstStage_dips hdips, if_neg htime]
  rfl

theorem State.firstStage_lifts (h : ¬s.dips q ∨ s.items.dipTime = 0) {p : Nat} (hp : s.changer.position = some p)
    (hgate : s.changer.sense.gateOccupied = true) : (s.firstStage q).changer = { s.changer with
      state := .lift, stageDue := some (s.clock + 250000), lift := !s.cool.warning } := by
  obtain ⟨u, st, hfirst, hu, hframe⟩ := State.firstStage_moves h
  have hclock : u.clock = s.clock := hframe .clock (by decide)
  have hcool : u.cool = s.cool := hframe .cool (by decide)
  rw [hfirst, State.leaveDipping_occupied (p := p) (by rw [hu]; exact hp) (by rw [hu]; exact hgate), hu, hclock, hcool]
  rfl

theorem State.firstStage_rotates (h : ¬s.dips q ∨ s.items.dipTime = 0) {r : ChangeRecord} {p n : Nat}
    (hp : s.changer.position = some p) (hgate : s.changer.sense.gateOccupied = false) (hr : s.changer.record = some r)
    (hn : r.target = some n) (hne : n ≠ p) : (s.firstStage q).changer = { s.changer with
      state := .rotate, lift := false, stageDue := some (s.clock + 150000), map := clearedEntries p s.changer.map
      drive := if s.cool.warning = true then none
        else some (if 2 * stepsAhead s.items.traySize p n ≤ s.items.traySize + 1 then .forward else .reverse)
      record := some { r with
        direction := some (if 2 * stepsAhead s.items.traySize p n ≤ s.items.traySize + 1 then .forward else .reverse)
        planned := if 2 * stepsAhead s.items.traySize p n ≤ s.items.traySize + 1 then stepsAhead s.items.traySize p n
          else s.items.traySize + 1 - stepsAhead s.items.traySize p n } } := by
  obtain ⟨u, st, hfirst, hu, hframe⟩ := State.firstStage_moves h
  have hclock : u.clock = s.clock := hframe .clock (by decide)
  have hcool : u.cool = s.cool := hframe .cool (by decide)
  have hitems : u.items = s.items := hframe .items (by decide)
  rw [hfirst, State.leaveDipping_rotates (p := p) (r := r) (n := n) (by rw [hu]; exact hp) (by rw [hu]; exact hgate)
    (by rw [hu]; exact hr) hn hne, hu, hclock, hcool, hitems]
  rfl

theorem State.firstStage_homes (h : ¬s.dips q ∨ s.items.dipTime = 0) (hp : s.changer.position = none)
    (hmark : s.changer.sense.gateOccupied = true ∨ s.changer.sense.homeMark = false) : (s.firstStage q).changer =
      if s.changer.sense.gateOccupied then { s.changer with
        state := .homing, homingLift := true, lift := !s.cool.warning, stageDue := some (s.clock + 250000) }
      else { s.changer with
        state := .homing, homingLift := false, lift := false, stageDue := some (s.clock + 150000)
        drive := if s.cool.warning = true then none else some .forward } := by
  obtain ⟨u, st, hfirst, hu, hframe⟩ := State.firstStage_moves h
  have hclock : u.clock = s.clock := hframe .clock (by decide)
  have hcool : u.cool = s.cool := hframe .cool (by decide)
  rw [hfirst, State.leaveDipping_unknown (by rw [hu]; exact hp) (by rw [hu]; exact hmark), hu, hclock, hcool]
  rfl

end Stages

theorem State.dips_congr {s t : State} (hitems : t.items = s.items) (hlevel : t.fade = s.fade)
    (hceiling : t.ceiling = s.ceiling) (q : Request) : t.dips q ↔ s.dips q := by
  unfold State.dips
  rw [hitems, hlevel, hceiling]

theorem State.ceiling_congr {s t : State} (hlamp : t.lamp = s.lamp) (hcool : t.cool = s.cool) (hitems : t.items = s.items)
    (hprot : t.prot = s.prot) : t.ceiling = s.ceiling := by
  unfold State.ceiling State.switchCeiling State.derateCeiling State.filmCeiling State.protectCeiling State.failedCeiling
  rw [hlamp, hcool, hitems, hprot]

section Formed
variable (sense : Sense) (src : Source) (q : Request) (rest : List Request) (r : ChangeRecord) (s : State)

/-- The part at the moment a granted change runs: its head gone from its queue, the record formed (R6, R28). -/
def State.formed : State := (s.pushed sense src q rest).putRecord r

theorem State.formed_frame : s.onlyChanges [.changer, .arb, .cue, .tape, .dec] (s.formed sense src q rest r) :=
  (s.pushed_frame sense src q rest).andThen (State.putChanger_frame _ _) (by decide) (by decide)

theorem State.formed_changer : (s.formed sense src q rest r).changer = { s.changer with sense := sense, record := some r } :=
  congrArg (fun c : Changer => { c with record := some r }) (s.pushed_changer sense src q rest)

theorem State.formed_dips (after : Request) : (s.formed sense src q rest r).dips after ↔ s.dips after := by
  have hframe := s.formed_frame sense src q rest r
  exact State.dips_congr (hframe .items (by decide)) (hframe .fade (by decide))
    (State.ceiling_congr (hframe .lamp (by decide)) (hframe .cool (by decide)) (hframe .items (by decide))
      (hframe .prot (by decide))) after

theorem State.formed_dipped : (s.formed sense src q rest r).dipped = s.dipped := by
  have hframe := s.formed_frame sense src q rest r
  unfold State.dipped
  rw [hframe .fade (by decide), hframe .items (by decide), hframe .clock (by decide)]

end Formed

/-- The stack after the grant of a change that runs: a GOTO that asks for another position pushes unless it carries
NO-PUSH (R29). -/
theorem State.stack_of_asks {q : Request} {popped : Option Nat} {p n : Nat} {s : State} (hask : s.asks q popped p n)
    (hne : n ≠ p) : (if q.kind = .ret then s.arb.stack.tail
      else if q.kind = .goto ∧ q.noPush = false ∧ q.target.getD 0 ≤ s.items.traySize ∧ q.target.getD 0 ≠ p then
        (p :: s.arb.stack).take 6
      else s.arb.stack) = if q.kind = .ret then s.arb.stack.tail
        else if q.kind = .goto then (if q.noPush then s.arb.stack else (p :: s.arb.stack).take 6)
        else s.arb.stack := by
  unfold State.asks at hask
  cases hk : q.kind with
  | goto =>
    rw [hk] at hask
    rw [hask.1]
    cases hpush : q.noPush with
    | true => exact (if_neg (by decide)).trans (if_neg fun h => absurd h.2.1 (by decide))
    | false => exact (if_neg (by decide)).trans (if_pos ⟨rfl, rfl, hask.2, hne⟩)
  | ret => rfl
  | stepFwd | stepRev | home => exact (if_neg (by decide)).trans (if_neg fun h => absurd h.1 (by decide))

/-- Settles O9. -/
theorem grantStartsTheChange : Obligations.GrantStartsTheChange := by
  intro sense s src hsrc q rest hq htray hwarn p hp hle popped ahead dips moves n hask hne
  set r := grantRecord q (some p) (some n) popped with hr
  set v := s.formed sense src q rest r with hv
  have hasks : ((s.sensed sense).leaves src q rest).asks q (s.pops q) p n := State.leaves_asks.mpr (State.asks_pops hask)
  have hgoes := State.goesOn_of_asks (by rw [State.leaves_changer]; exact htray) (by rw [State.leaves_cool]; exact hwarn)
    hasks
  have hdecide : ((s.sensed sense).leaves src q rest).decideGrant q (s.pops q) = v.firstStage q := by
    rw [State.decideGrant_known hgoes (by rw [State.leaves_changer]; exact hp),
      State.fixTarget_of_asks (by rw [State.leaves_items]; exact hle) hasks, if_neg hne]
    rfl
  have hexec := exec_grant hsrc hq sense
  rw [hdecide] at hexec
  have hframe := s.formed_frame sense src q rest r
  have hchanger := s.formed_changer sense src q rest r
  have hvdips := s.formed_dips sense src q rest r q
  have hdipped := s.formed_dipped sense src q rest r
  have hstack : v.arb.stack = _ := s.pushed_stack sense src q rest hp
  rw [← hv] at hframe hchanger hvdips hdipped
  have hrecord : v.changer.record = some r := by rw [hchanger]
  have hclock : v.clock = s.clock := hframe .clock (by decide)
  have hitems : v.items = s.items := hframe .items (by decide)
  have hcool : v.cool = s.cool := hframe .cool (by decide)
  have hposition : v.changer.position = some p := by rw [hchanger, hp]
  have hvmoves (hmoves : moves) : ¬v.dips q ∨ v.items.dipTime = 0 := by
    rw [hitems, hvdips]
    exact hmoves
  refine ⟨_, hexec, ?_, ?_, ?_, fun hdips => ?_, fun hdips => ?_, fun hwaits => ?_, fun hmoves hgate => ?_,
    fun hmoves hgate => ?_⟩
  · rw [State.settleFrom_frame _ _ .arb (by decide), State.firstStage_arb hrecord rfl, hstack,
      State.stack_of_asks hask hne]
    cases q.kind <;> rfl
  · rw [State.settleFrom_frame _ _ .arb (by decide), State.firstStage_arb hrecord rfl]
    obtain ⟨queues, shadow, stack, harb⟩ := s.pushed_arb sense src q rest
    exact (congrArg Arbiter.dwellDue harb :)
  · rw [State.settleFrom_frame _ _ .usage (by decide), State.firstStage_known hposition .usage (by decide)]
    exact hframe .usage (by decide)
  · rw [State.settleFrom_frame _ _ .fade (by decide), State.firstStage_dipFade hrecord rfl (hvdips.mpr hdips), hdipped]
    exact ⟨rfl, rfl⟩
  · rw [State.settleFrom_frame _ _ .fade (by decide), State.firstStage_plainFade hrecord rfl (hvdips.not.mpr hdips),
      hframe .fade (by decide)]
  · have hno : dips ∧ s.items.dipTime ≠ 0 := ⟨by_contra fun h => hwaits (.inl h), fun h => hwaits (.inr h)⟩
    rw [State.settleFrom_frame _ _ .changer (by decide),
      State.firstStage_waits (hvdips.mpr hno.1) (by rw [hitems]; exact hno.2), hchanger]
  · rw [State.settleFrom_frame _ _ .changer (by decide),
      State.firstStage_lifts (hvmoves hmoves) hposition (by rw [hchanger]; exact hgate), hclock, hcool, hwarn, hchanger]
    rfl
  · rw [State.settleFrom_frame _ _ .changer (by decide),
      State.firstStage_rotates (hvmoves hmoves) hposition (by rw [hchanger]; exact hgate) hrecord rfl hne, hclock, hcool,
      hwarn, hitems, hchanger]
    rfl

end Sys2Proof.Machine
end

section
/-! A change granted in LOST, and a cue step that is off its expected slot (R18, R29, R135, R136). -/

namespace Sys2Proof.Machine

theorem State.pushed_unknown {s : State} (hp : s.changer.position = none) (sense : Sense) (src : Source) (q : Request)
    (rest : List Request) : s.pushed sense src q rest = (s.sensed sense).leaves src q rest := by
  refine State.pushOrigin_stays fun p hp' => ?_
  rw [State.leaves_changer, hp] at hp'
  cases hp'

/-- Settles O10. -/
theorem grantInLostHomesFirst : Obligations.GrantInLostHomesFirst := by
  intro sense s src hsrc q rest hq htray hwarn hp hgoto hret dips moves formed
  set v := s.formed sense src q rest formed with hv
  have hgoes : ((s.sensed sense).leaves src q rest).goesOn q (s.pops q) := by
    refine ⟨by rw [State.leaves_changer]; exact htray, by rw [State.leaves_cool]; exact hwarn,
      by rw [State.leaves_items]; exact hgoto, fun hkind => ?_⟩
    unfold State.pops
    rw [if_pos hkind]
    exact mt List.head?_eq_none_iff.mp (hret hkind)
  have hdecide : ((s.sensed sense).leaves src q rest).decideGrant q (s.pops q) = v.firstStage q := by
    rw [State.decideGrant_unknown hgoes (by rw [State.leaves_changer]; exact hp), ← State.pushed_unknown hp]
    rfl
  have hexec := exec_grant hsrc hq sense
  rw [hdecide] at hexec
  have hframe := s.formed_frame sense src q rest formed
  have hchanger := s.formed_changer sense src q rest formed
  have hvdips := s.formed_dips sense src q rest formed q
  have hdipped := s.formed_dipped sense src q rest formed
  have hstack : v.arb.stack = _ := s.pushed_stack_unknown sense src q rest hp
  rw [← hv] at hframe hchanger hvdips hdipped
  have hrecord : v.changer.record = some formed := by rw [hchanger]
  have hclock : v.clock = s.clock := hframe .clock (by decide)
  have hitems : v.items = s.items := hframe .items (by decide)
  have hcool : v.cool = s.cool := hframe .cool (by decide)
  have hposition : v.changer.position = none := by rw [hchanger, hp]
  have hvmoves (hmoves : moves) : ¬v.dips q ∨ v.items.dipTime = 0 := by
    rw [hitems, hvdips]
    exact hmoves
  refine ⟨_, hexec, ?_, fun hdips => ?_, fun hdips => ?_, fun hwaits => ?_, fun hmoves hgate => ?_,
    fun hmoves hgate hmark => ?_⟩
  · rw [State.settleFrom_frame _ _ .arb (by decide), State.firstStage_arb hrecord rfl, hstack]
  · rw [State.settleFrom_frame _ _ .fade (by decide), State.firstStage_dipFade hrecord rfl (hvdips.mpr hdips), hdipped]
    exact ⟨rfl, rfl⟩
  · rw [State.settleFrom_frame _ _ .fade (by decide), State.firstStage_plainFade hrecord rfl (hvdips.not.mpr hdips),
      hframe .fade (by decide)]
  · have hno : dips ∧ s.items.dipTime ≠ 0 := ⟨by_contra fun h => hwaits (.inl h), fun h => hwaits (.inr h)⟩
    rw [State.settleFrom_frame _ _ .changer (by decide),
      State.firstStage_waits (hvdips.mpr hno.1) (by rw [hitems]; exact hno.2), hchanger]
  · have hvgate : v.changer.sense.gateOccupied = true := by rw [hchanger]; exact hgate
    rw [State.settleFrom_frame _ _ .changer (by decide), State.firstStage_homes (hvmoves hmoves) hposition (.inl hvgate),
      if_pos hvgate, hclock, hcool, hwarn, hchanger]
    rfl
  · have hvgate : v.changer.sense.gateOccupied = false := by rw [hchanger]; exact hgate
    have hvmark : v.changer.sense.homeMark = false := by rw [hchanger]; exact hmark
    rw [State.settleFrom_frame _ _ .changer (by decide), State.firstStage_homes (hvmoves hmoves) hposition (.inr hvmark),
      if_neg (by rw [hvgate]; decide), hclock, hcool, hwarn, hchanger]
    rfl

end Sys2Proof.Machine
end

section
/-! A cue step that is off the expected slot of its entry (R29, R135, R136). -/

namespace Sys2Proof.Machine

/-! ## The comparison (R135, R136) -/

/-- A mismatch counted and SYNC raised (R135). -/
def State.missed (s : State) : State := (s.gainCounter .syncErrs).raiseFlag .syncTape

theorem State.missed_syncErrs (s : State) : s.usage.counters.syncErrs.gained s.missed.usage.counters.syncErrs := by
  have hgain : s.missed.usage.counters.syncErrs = s.usage.counters.syncErrs.gainIf true := by
    unfold State.missed
    rw [show s.gainCounter .syncErrs = s.gainCounterIf true .syncErrs from rfl, State.gainCounterIf_eq]
    rfl
  rw [hgain]
  exact Counter.gainIf_true rfl _

theorem State.missed_flag (s : State) : s.missed.link.flags.syncTape = true := rfl

theorem State.expectedSlot_eq {q : Request} {s : State} (hkind : q.kind = .stepFwd) (hcue : q.source = .cue) {ref : Nat}
    (href : q.cueRef = some ref) {e : CueEntry} (he : s.cue.entries.find? (fun x => x.position == ref) = some e)
    {slot : Nat} (hslot : e.slot = some slot) (hle : slot ≤ s.items.traySize) : s.expectedSlot q = some slot := by
  unfold State.expectedSlot
  rw [if_pos ⟨hcue, hkind⟩, href]
  show (match s.cue.entries.find? (fun x => x.position == ref) with
    | none => none
    | some e => e.slot.filter (fun t => decide (t ≤ s.items.traySize))) = _
  rw [he]
  dsimp only
  rw [hslot]
  simp [Option.filter, hle]

/-- The request as it runs once its target has been compared with the expected slot (R135, R136). -/
def Request.resynced (q : Request) (slot : Nat) : Request := { q with kind := .goto, target := some slot, noPush := true }

theorem State.fixTarget_compared {q : Request} {popped : Option Nat} {p slot : Nat} {s : State}
    (hslot : s.expectedSlot q = some slot) : s.fixTarget q popped p =
      if s.targetFrom q popped p = slot then (s, q, s.targetFrom q popped p)
      else if s.items.autoResync then (s.missed, q.resynced slot, slot)
      else (s.missed, q, s.targetFrom q popped p) := by
  unfold State.fixTarget
  rw [hslot]
  rfl

theorem State.targetFrom_stepFwd {q : Request} (hkind : q.kind = .stepFwd) (popped : Option Nat) {p : Nat} {s : State}
    (hp : p ≤ s.items.traySize) : s.targetFrom q popped p =
      if s.items.skipEmpty then s.stepTarget .forward p else if p = s.items.traySize then 0 else p + 1 := by
  unfold State.targetFrom
  rw [hkind]
  exact State.stepTarget_eq hp .forward

/-! ## The change that goes on (R6, R7) -/

/-- The record as the first stage leaves it keeps its request and target (R6, R10). -/
theorem State.firstStage_record {q : Request} {s : State} {r : ChangeRecord} {p n : Nat}
    (hp : s.changer.position = some p) (hr : s.changer.record = some r) (hn : r.target = some n) (hne : n ≠ p) :
    ∃ r', (s.firstStage q).changer.record = some r' ∧ r'.request = r.request ∧ r'.target = r.target := by
  by_cases hmoves : ¬s.dips q ∨ s.items.dipTime = 0
  · by_cases hgate : s.changer.sense.gateOccupied = true
    · rw [State.firstStage_lifts hmoves hp hgate]
      exact ⟨r, hr, rfl, rfl⟩
    · rw [State.firstStage_rotates hmoves hp (by simpa using hgate) hr hn hne]
      exact ⟨_, rfl, rfl, rfl⟩
  · rw [not_or, not_not] at hmoves
    rw [State.firstStage_waits hmoves.1 hmoves.2]
    exact ⟨r, hr, rfl, rfl⟩

/-- What the decision makes of a request that pushes nothing, its target fixed (R7, R29). -/
def State.decides (q : Request) (p n : Nat) (popped : Option Nat) (s : State) : State :=
  if n = p then s.endAtGrant q .nothing
  else (s.putRecord (grantRecord q (some p) (some n) popped)).firstStage q

section Decides
variable {q : Request} {p n : Nat} {popped : Option Nat} {s : State}

theorem State.decides_record (hp : s.changer.position = some p) (hne : n ≠ p) :
    ∃ r, (s.decides q p n popped).changer.record = some r ∧ r.request = some q ∧ r.target = some n := by
  unfold State.decides
  rw [if_neg hne]
  exact State.firstStage_record (s := s.putRecord (grantRecord q (some p) (some n) popped)) hp rfl rfl hne

theorem State.decides_here : (s.decides q p p popped).changer = s.changer := by
  unfold State.decides
  rw [if_pos rfl]
  exact State.completeRequest_frame q .nothing _ _ .changer (by decide)

theorem State.decides_keeps (hlink : q.source ≠ .link) (hp : s.changer.position = some p) :
    s.onlyChanges [.changer, .fade] (s.decides q p n popped) := by
  unfold State.decides
  split_ifs
  · have hnone : s.endAtGrant q .nothing = s := if_neg hlink
    rw [hnone]
    exact .refl _ _
  · exact (s.putChanger_frame _).andThen
      (State.firstStage_known (s := s.putRecord (grantRecord q (some p) (some n) popped)) hp) (by decide) (by decide)

end Decides

/-- A step that R135 compares, and the GOTO that R136 makes of it, push nothing (R29). -/
theorem State.decideGrant_decides {q q' : Request} {popped : Option Nat} {s w : State} {p n : Nat}
    (h : s.goesOn q popped) (hp : s.changer.position = some p) (hfix : s.fixTarget q popped p = (w, q', n))
    (hpush : ∀ p, ¬w.pushes q' p) : s.decideGrant q popped = w.decides q' p n popped := by
  rw [State.decideGrant_known h hp, hfix]
  dsimp only
  rw [State.pushOrigin_stays fun p _ => hpush p]
  rfl

/-- The head that leaves takes no entry from the cue map (R126, R139). -/
theorem State.leaves_entries {s : State} (hdebt : s.cue.debt = 0) (q : Request) (rest : List Request) :
    (s.leaves .cue q rest).cue.entries = s.cue.entries := by
  have hnone : (s.takeHead .cue q rest).cue.debt = 0 := hdebt
  unfold State.leaves
  rw [if_pos rfl, State.reportCue, hnone]
  exact (congrArg CueMap.entries (State.judgeQueue_cue _) :)

/-- What the grant of a request makes of the part, its target compared with the expected slot (R7, R29, R135, R136). -/
theorem exec_grant_compared {s w : State} {src : Source} {q q' : Request} {rest : List Request} {p n : Nat} {sense : Sense}
    (hsrc : s.preferred = some src) (hq : s.arb.queues.get src = q :: rest)
    (hgoes : ((s.sensed sense).leaves src q rest).goesOn q (s.pops q)) (hp : s.changer.position = some p)
    (hfix : ((s.sensed sense).leaves src q rest).fixTarget q (s.pops q) p = (w, q', n)) (hpush : ∀ p, ¬w.pushes q' p)
    (hlink : q'.source ≠ .link) : ∃ t, exec (.grant sense) s = .next t
      ∧ t.arb.stack = ((s.sensed sense).leaves src q rest).arb.stack ∧ t.usage = w.usage
      ∧ t.link.flags.syncTape = w.link.flags.syncTape
      ∧ (n ≠ p → ∃ r, t.changer.record = some r ∧ r.request = some q' ∧ r.target = some n)
      ∧ (n = p → t.changer.record = s.changer.record) := by
  have hw : ((s.sensed sense).leaves src q rest).onlyChanges [.usage, .link] w := by
    have hframe := ((s.sensed sense).leaves src q rest).fixTarget_frame q (s.pops q) p
    rwa [hfix] at hframe
  have hchanger : w.changer = { s.changer with sense := sense } :=
    Eq.trans (hw .changer (by decide)) (s.leaves_changer sense src q rest)
  have hwp : w.changer.position = some p := by rw [hchanger, hp]
  have hkeeps := State.decides_keeps (n := n) (popped := s.pops q) hlink hwp
  have hexec := exec_grant hsrc hq sense
  rw [State.decideGrant_decides hgoes (by rw [State.leaves_changer, hp]) hfix hpush] at hexec
  refine ⟨_, hexec, ?_, ?_, ?_, fun hne => ?_, fun heq => ?_⟩
  · rw [State.settleFrom_frame _ _ .arb (by decide), hkeeps .arb (by decide), hw .arb (by decide)]
  · rw [State.settleFrom_frame _ _ .usage (by decide), hkeeps .usage (by decide)]
  · rw [State.settleFrom_syncFlag, hkeeps .link (by decide)]
  · rw [State.settleFrom_frame _ _ .changer (by decide)]
    exact State.decides_record hwp hne
  · subst heq
    rw [State.settleFrom_frame _ _ .changer (by decide), State.decides_here, hchanger]

/-! ## The homing that succeeds (R18, R136) -/

theorem State.homingSuccess_compared {s w : State} {r : ChangeRecord} {q q' : Request} {n : Nat}
    (hr : s.changer.record = some r) (hq : r.request = some q)
    (hfix : (s.putChanger { s.changer with
      position := some 0, drive := none, lift := false, homingLift := false, stageDue := none }).fixTarget q r.popped 0
        = (w, q', n)) : s.homingSuccess = (w.putChanger { w.changer with
      state := .lift, record := some { r with request := some q', origin := some 0, target := some n } }).liftDone := by
  unfold State.homingSuccess
  rw [hr]
  dsimp only
  rw [hq]
  dsimp only
  rw [hfix]

/-- A homing that has succeeded goes on from position 0 to the target that was fixed (R18). -/
theorem State.homed_goesOn {w : State} {r : ChangeRecord} {n : Nat} (hp : w.changer.position = some 0)
    (hr : w.changer.record = some r) (hn : r.target = some n) : w.liftDone.changer.position = some 0
      ∧ w.liftDone.changer.state = (if n = 0 then ChangerState.settle else .rotate)
      ∧ ∃ r', w.liftDone.changer.record = some r' ∧ r'.origin = r.origin ∧ r'.target = r.target ∧ r'.request = r.request := by
  rw [State.liftDone_eq hr hp hn]
  by_cases hzero : n = 0
  · rw [if_pos hzero, if_pos hzero, State.enterSettle_eq hr]
    exact ⟨hp, rfl, _, rfl, rfl, rfl, rfl⟩
  · rw [if_neg hzero, if_neg hzero, State.startRotate_eq]
    exact ⟨hp, rfl, _, rfl, rfl, rfl, rfl⟩

/-- Settles O11. -/
theorem cueStepResyncs : Obligations.CueStepResyncs := by
  refine ⟨?_, ?_⟩
  · intro sense s hsrc q rest hq htray hwarn hdebt hkind hcue p hp hle ref href e he slot hslot hring next
    set u := (s.sensed sense).leaves .cue q rest with hu
    have hchanger : u.changer = { s.changer with sense := sense } := s.leaves_changer sense .cue q rest
    have hitems : u.items = s.items := s.leaves_items sense .cue q rest
    have husage : u.usage = s.usage := (s.sensed sense).leaves_frame .cue q rest .usage (by decide)
    have hexpected : u.expectedSlot q = some slot := by
      refine State.expectedSlot_eq hkind hcue href (e := e) ?_ hslot (by rw [hitems]; exact hring)
      rw [hu, State.leaves_entries (s := s.sensed sense) hdebt]
      exact he
    have htarget : u.targetFrom q (s.pops q) p = next := by
      rw [State.targetFrom_stepFwd hkind _ (by rw [hitems]; exact hle),
        State.stepTarget_congr (s := s) (by rw [hchanger]) hitems, hitems]
    have hgoes : u.goesOn q (s.pops q) := by
      refine ⟨by rw [hchanger]; exact htray, ?_, fun h => absurd (hkind.symm.trans h) (by decide),
        fun h => absurd (hkind.symm.trans h) (by decide)⟩
      rw [hu, State.leaves_cool]
      exact hwarn
    have hstack : u.arb.stack = s.arb.stack := by
      rw [hu, State.leaves_stack, if_neg (by rw [hkind]; decide)]
    have hcuelink : q.source ≠ .link := by rw [hcue]; decide
    have hstep (w : State) (p : Nat) : ¬w.pushes q p := fun h => absurd (hkind.symm.trans h.1) (by decide)
    have hfix := State.fixTarget_compared (popped := s.pops q) (p := p) hexpected
    rw [htarget, hitems] at hfix
    by_cases hsame : next = slot
    · rw [if_pos hsame] at hfix
      obtain ⟨t, hexec, htstack, htusage, _, hruns, _⟩ :=
        exec_grant_compared hsrc hq hgoes hp hfix (hstep u) hcuelink
      refine ⟨t, hexec, htstack.trans hstack, fun _ => ⟨htusage.trans husage, fun hne => ?_⟩, fun h => absurd hsame h,
        fun h => absurd hsame h, fun h => absurd hsame h, fun h => absurd hsame h, fun h => absurd hsame h⟩
      rw [← hsame] at hne ⊢
      exact hruns hne
    · rw [if_neg hsame] at hfix
      have hmissed : s.usage.counters.syncErrs.gained u.missed.usage.counters.syncErrs := by
        rw [← husage]
        exact u.missed_syncErrs
      by_cases hauto : s.items.autoResync = true
      · rw [if_pos hauto] at hfix
        obtain ⟨t, hexec, htstack, htusage, htflag, hruns, hhere⟩ :=
          exec_grant_compared hsrc hq hgoes hp hfix (fun _ h => absurd h.2.1 (by simp [Request.resynced])) hcuelink
        refine ⟨t, hexec, htstack.trans hstack, fun h => absurd h hsame,
          fun _ => ⟨by rw [htusage]; exact hmissed, htflag.trans u.missed_flag⟩, fun _ _ hne => hruns hne,
          fun _ _ heq => hhere heq, fun _ h => ?_, fun _ h => ?_⟩ <;>
        · rw [hauto] at h
          cases h
      · rw [if_neg hauto] at hfix
        obtain ⟨t, hexec, htstack, htusage, htflag, hruns, hhere⟩ :=
          exec_grant_compared hsrc hq hgoes hp hfix (hstep _) hcuelink
        exact ⟨t, hexec, htstack.trans hstack, fun h => absurd h hsame,
          fun _ => ⟨by rw [htusage]; exact hmissed, htflag.trans u.missed_flag⟩, fun _ h => absurd h hauto,
          fun _ h => absurd h hauto, fun _ _ hne => hruns hne, fun _ _ heq => hhere heq⟩
  · intro s hst hlift r hr hsteps q hq hkind hcue ref href e he slot hslot hring next resyncs goal
    have hexec := execIndexPulse_search (m := true) hst hr hlift hsteps
    rw [State.homingStep_mark rfl] at hexec
    set f := (s.finds r).putChanger { (s.finds r).changer with
      position := some 0, drive := none, lift := false, homingLift := false, stageDue := none } with hf
    have hffound : s.onlyChanges [.changer] f := by intro b hb; cases b <;> first | rfl | simp at hb
    have hexpected : f.expectedSlot q = some slot := State.expectedSlot_eq hkind hcue href he hslot hring
    have htarget : f.targetFrom q r.popped 0 = next := by
      rw [State.targetFrom_stepFwd hkind _ (Nat.zero_le _), State.stepTarget_congr (s := s) (t := f) rfl rfl]
      show (if s.items.skipEmpty then _ else if 0 = s.items.traySize then 0 else 0 + 1) = _
      simp only [eq_comm (a := 0), Nat.zero_add]
      rfl
    have hfix := State.fixTarget_compared (popped := r.popped) (p := 0) hexpected
    rw [htarget] at hfix
    obtain ⟨w, hw, hoff, hon⟩ : ∃ w, f.fixTarget q r.popped 0 = (w, if resyncs then q.resynced slot else q, goal)
        ∧ (next ≠ slot → w = f.missed) ∧ (next = slot → w = f) := by
      by_cases hsame : next = slot
      · have hno : ¬resyncs := fun h => h.1 hsame
        rw [hfix, if_pos hsame, if_neg hno]
        exact ⟨f, by rw [show goal = next from if_neg hno], fun h => absurd hsame h, fun _ => rfl⟩
      · rw [hfix, if_neg hsame]
        refine ⟨f.missed, ?_, fun _ => rfl, fun h => absurd h hsame⟩
        by_cases hauto : s.items.autoResync = true
        · have hyes : resyncs := ⟨hsame, hauto⟩
          rw [if_pos (show f.items.autoResync = true from hauto), if_pos hyes, show goal = slot from if_pos hyes]
        · have hno : ¬resyncs := fun h => hauto h.2
          rw [if_neg (show ¬f.items.autoResync = true from hauto), if_neg hno, show goal = next from if_neg hno]
    have hframe : f.onlyChanges [.usage, .link] w := by
      have hfixed := f.fixTarget_frame q r.popped 0
      rwa [hw] at hfixed
    have hdone := State.homingSuccess_compared (s := s.finds r) rfl hq hw
    set v := w.putChanger { w.changer with
      state := .lift
      record := some { { r with homingSteps := r.homingSteps + 1, moved := true } with
        request := some (if resyncs then q.resynced slot else q), origin := some 0, target := some goal } } with hv
    have hposition : v.changer.position = some 0 := congrArg Changer.position (hframe .changer (by decide))
    obtain ⟨hat, hstate, r', hr', horigin, htarget', hrequest⟩ := State.homed_goesOn (w := v) hposition rfl rfl
    have hvframe : s.onlyChanges [.changer, .usage, .link] v.liftDone :=
      ((hffound.andThen hframe (cs := [.changer, .usage, .link]) (by decide) (by decide)).andThen (State.putChanger_frame _ _)
        (cs := [.changer, .usage, .link]) (by decide) (by decide)).andThen (State.liftDone_frame _) (by decide) (by decide)
    have husage : v.liftDone.usage = w.usage := State.liftDone_frame v .usage (by decide)
    have hlink : v.liftDone.link = w.link := State.liftDone_frame v .link (by decide)
    refine ⟨_, hexec, ?_⟩
    have hd : ((s.sensed { s.changer.sense with homeMark := true }).searches r).homingSuccess = v.liftDone := hdone
    rw [hd, State.settleFrom_frame _ _ .changer (by decide), State.settleFrom_frame _ _ .arb (by decide),
      State.settleFrom_frame _ _ .fade (by decide), State.settleFrom_frame _ _ .usage (by decide),
      State.settleFrom_syncFlag, husage, hlink]
    refine ⟨hat, hstate, ⟨r', hr', horigin, htarget', hrequest⟩, hvframe .arb (by decide), hvframe .fade (by decide),
      fun hsame => ?_, fun hne => ?_⟩
    · rw [hon hsame]
      rfl
    · rw [hoff hne]
      exact ⟨f.missed_syncErrs, rfl⟩

end Sys2Proof.Machine
end

section
/-! A window: its class, the four trackers, and what the recognition of a burst leaves alone (R105, R119 to R122). -/

namespace Sys2Proof.Machine

/-! ## The class of a window (R105, R119, R120) -/

theorem State.cueGateOpen_iff (s : State) : s.cueGateOpen = true ↔
    ∀ sl, s.scan.slots.find? (fun x => x.cfg.role == .cueLevel) = some sl → ∃ r, sl.result = some r ∧ s.dec.levelLow ≤ r := by
  unfold State.cueGateOpen
  show (match s.scan.slots.find? (fun x => x.cfg.role == .cueLevel) with
    | none => true
    | some sl => match sl.result with
      | none => false
      | some r => decide (s.dec.levelLow ≤ r)) = true ↔ _
  cases s.scan.slots.find? (fun x => x.cfg.role == .cueLevel) with
  | none => exact iff_of_true rfl nofun
  | some sl =>
    dsimp only
    cases hres : sl.result with
    | none =>
      refine iff_of_false (fun h => absurd (show false = true from h) (by decide)) fun h => ?_
      obtain ⟨r, hr, _⟩ := h sl rfl
      rw [hres] at hr
      cases hr
    | some r =>
      refine decide_eq_true_iff.trans ⟨fun h sl' heq => ?_, fun h => ?_⟩
      · cases heq
        exact ⟨r, hres, h⟩
      · obtain ⟨r', hr', hle⟩ := h sl rfl
        cases hres.symm.trans hr'
        exact hle

/-- The bands are tried in the order of the classes, six times as wide in search (R120). -/
theorem classify_eq {mode : DecodingMode} (hmode : mode ≠ .off) (gate : Bool) (count : Nat) :
    classify mode gate count =
      if ¬gate = true then none
      else toneClasses.find? (fun k => k.holds (if mode = .playSpeed then 1 else 6) count) := by
  unfold classify
  cases gate with
  | false => rfl
  | true =>
    cases mode with
    | off => exact absurd rfl hmode
    | playSpeed | search => rfl

theorem ToneClass.holds_iff (factor count : Nat) (k : ToneClass) :
    k.holds factor count = true ↔ factor * k.band.1 ≤ count ∧ count ≤ factor * k.band.2 := by
  simp [ToneClass.holds]

theorem toneClasses_find (holds : ToneClass → Bool) : toneClasses.find? holds =
    if holds .a then some .a else if holds .b then some .b else if holds .c then some .c
    else if holds .d then some .d else none := by
  simp only [toneClasses, List.find?_cons, List.find?_nil]
  cases holds .a <;> cases holds .b <;> cases holds .c <;> cases holds .d <;> rfl

/-! ## One tracker (R121, R122) -/

theorem Trackers.get_close (need counter : Nat) (cls : Option ToneClass) (t : Trackers) (k : ToneClass) :
    (t.close need counter cls).get k = (t.get k).close need counter (cls == some k) := by
  cases k <;> rfl

section Tracker
variable {need counter : Nat} {w : Tracker}

theorem Tracker.close_idle (h : w.state = .idle) :
    w.close need counter true = ⟨.running, 1, counter, 0, 0, false⟩ := by
  unfold Tracker.close
  rw [h]
  rfl

theorem Tracker.close_ends (h : w.state ≠ .active) : w.close need counter false = idleTracker := by
  unfold Tracker.close
  cases hst : w.state with
  | idle | running => rfl
  | active => exact absurd hst h

theorem Tracker.close_runs (h : w.state = .running) : w.close need counter true =
    if need ≤ w.run + 1 then ⟨.active, 0, w.first, 0, w.run + 1, false⟩ else { w with run := w.run + 1 } := by
  unfold Tracker.close
  rw [h]
  rfl

theorem Tracker.close_holds (h : w.state = .active) : w.close need counter true =
    { w with misses := 0, length := w.length + 1, stuck := w.stuck || decide (w.length + 1 = 31) } := by
  unfold Tracker.close
  rw [h]
  rfl

theorem Tracker.close_misses (h : w.state = .active) : w.close need counter false =
    if 1 ≤ w.misses then idleTracker
    else { w with misses := w.misses + 1, length := w.length + 1, stuck := w.stuck || decide (w.length + 1 = 31) } := by
  have hsecond : 2 ≤ w.misses + 1 ↔ 1 ≤ w.misses := by omega
  unfold Tracker.close
  rw [h]
  exact (if_neg (by decide)).trans (if_congr hsecond rfl rfl)

/-- A close recognises a burst of the window's own class alone (R121). -/
theorem Tracker.recognised_own {own : Bool} (h : w.recognised (w.close need counter own) = true) :
    own = true ∧ w.state = .running := by
  have hstates : w.state = .running ∧ (w.close need counter own).state = .active := by
    simpa [Tracker.recognised] using h
  refine ⟨?_, hstates.1⟩
  cases own with
  | true => rfl
  | false =>
    have hidle : (w.close need counter false).state = .idle := by
      rw [Tracker.close_ends (by rw [hstates.1]; decide)]
      rfl
    exact absurd (hidle.symm.trans hstates.2) (by decide)

end Tracker

/-! ## The fold over the classes (R121, R122, R124) -/

theorem State.offer_frame_tape (r : Request) (s : State) : s.onlyChanges [.arb, .cue, .tape] (s.offer r).1 := by
  have hjoin : s.onlyChanges [.arb] (s.join r) := by intro b hb; cases b <;> first | rfl | simp at hb
  have hconvert (n : Nat) (u : State) : u.onlyChanges [.arb, .cue] (State.convertDebt n u) := by
    induction n generalizing u with
    | zero => exact .refl _ u
    | succ n ih =>
      have howed : u.onlyChanges [.arb, .cue] u.offerOwed := by
        unfold State.offerOwed
        dsimp only
        split_ifs <;> (intro b hb; cases b <;> first | rfl | simp at hb)
      unfold State.convertDebt
      split_ifs
      · exact howed.trans (ih _)
      · exact .refl _ u
  unfold State.offer
  split
  · exact .refl _ s
  · dsimp only
    split_ifs
    · exact (hjoin.andThen (hconvert _ _) (cs := [.arb, .cue]) (by decide) (by decide)).andThen
        (State.judgeQueue_frame_tape _) (by decide) (by decide)
    · exact hjoin.mono (by decide)

/-- The blocks that a burst may write: the decoder, whose mode a pause keeps, is none of them (R124, R125). -/
abbrev burstBlocks : List Block := [.cue, .usage, .arb, .tape, .link]

theorem State.actClass_frame_tape (cls : ToneClass) (ref : Option Nat) (s : State) :
    s.onlyChanges [.arb, .cue, .tape, .link] (s.actClass cls ref) := by
  unfold State.actClass
  cases cls with
  | a =>
    dsimp only
    split_ifs
    · exact (s.offer_frame_tape _).andThen (State.oweStep_frame _) (by decide) (by decide)
    · exact (s.offer_frame_tape _).mono (by decide)
  | b =>
    dsimp only
    split_ifs
    · exact (s.offer_frame_tape _).andThen (State.raiseFlag_frame _ _) (by decide) (by decide)
    · exact (s.offer_frame_tape _).mono (by decide)
  | c => exact (s.addReason_frame_tape _).mono (by decide)
  | d => exact .refl _ s

theorem State.dispatchBurst_frame_tape (mode : DecodingMode) (p : Nat) (cls : ToneClass) (s : State) :
    s.onlyChanges burstBlocks (s.dispatchBurst mode p cls) := by
  cases mode with
  | playSpeed =>
    exact ((s.gainCounter_frame .cues).andThen (State.learnCue_frame p cls _) (cs := burstBlocks) (by decide)
      (by decide)).trans ((State.actClass_frame_tape cls _ _).mono (by decide))
  | search =>
    dsimp only [State.dispatchBurst, State.searchCue]
    split
    · exact (s.confirmEntry_frame _ _).mono (by decide)
    · exact .refl _ s
  | off => exact .refl _ s

theorem State.closeClass_frame_tape (mode : DecodingMode) (before after : Trackers) (s : State) (k : ToneClass) :
    s.onlyChanges burstBlocks (s.closeClass mode before after k) := by
  unfold State.closeClass
  dsimp only
  refine State.onlyChanges.trans ?_ ((State.raiseFlagIf_frame _ _ _).mono (by decide))
  split
  · exact s.dispatchBurst_frame_tape _ _ _
  · exact .refl _ s

theorem State.closeClasses_frame (mode : DecodingMode) (before after : Trackers) (l : List ToneClass) (s : State) :
    s.onlyChanges burstBlocks (l.foldl (State.closeClass mode before after) s) := by
  induction l generalizing s with
  | nil => exact .refl _ s
  | cons k l ih => exact (s.closeClass_frame_tape mode before after k).trans (ih _)

/-! ## CUEMAP is raised and never cleared by a window (R122, R128, R138) -/

theorem State.raiseFlagIf_keeps {s : State} (h : s.link.flags.cuemap = true) (b : Bool) :
    (s.raiseFlagIf b .cuemap).link.flags.cuemap = true := by
  unfold State.raiseFlagIf
  split_ifs
  · rfl
  · exact h

theorem State.gainCounter_cuemap (i : CounterIndex) (s : State) :
    (s.gainCounter i).link.flags.cuemap = s.link.flags.cuemap := by
  rw [show s.gainCounter i = s.gainCounterIf true i from rfl, State.gainCounterIf_eq]

theorem State.confirmEntry_cuemap {s : State} (h : s.link.flags.cuemap = true) (e : CueEntry) (cls : ToneClass) :
    (s.confirmEntry e cls).link.flags.cuemap = true :=
  State.raiseFlagIf_keeps (s := { s with cue := { s.cue with
    entries := s.cue.entries.map (fun (x : CueEntry) => if x.position = e.position then x.confirm cls else x) } }) h _

theorem State.learnCue_cuemap {s : State} (h : s.link.flags.cuemap = true) (p : Nat) (cls : ToneClass) :
    (s.learnCue p cls).1.link.flags.cuemap = true := by
  unfold State.learnCue
  split
  · exact State.confirmEntry_cuemap h _ _
  · split_ifs
    · exact h
    · rfl

theorem State.actClass_cuemap {s : State} (h : s.link.flags.cuemap = true) (cls : ToneClass) (ref : Option Nat) :
    (s.actClass cls ref).link.flags.cuemap = true := by
  have hoffer (r : Request) : (s.offer r).1.link.flags.cuemap = true := by
    rw [s.offer_frame_tape r .link (by decide), h]
  unfold State.actClass
  cases cls with
  | a =>
    dsimp only
    split_ifs
    · unfold State.oweStep
      split_ifs
      · exact hoffer _
      · rfl
    · exact hoffer _
  | b =>
    dsimp only
    split_ifs
    · rfl
    · exact hoffer _
  | c =>
    rw [s.addReason_frame_tape _ .link (by decide), h]
  | d => exact h

theorem State.dispatchBurst_cuemap {s : State} (h : s.link.flags.cuemap = true) (mode : DecodingMode) (p : Nat)
    (cls : ToneClass) : (s.dispatchBurst mode p cls).link.flags.cuemap = true := by
  cases mode with
  | playSpeed => exact State.actClass_cuemap (State.learnCue_cuemap ((s.gainCounter_cuemap .cues).trans h) p cls) cls _
  | search =>
    dsimp only [State.dispatchBurst, State.searchCue]
    split
    · exact State.confirmEntry_cuemap h _ _
    · exact h
  | off => exact h

theorem State.closeClass_cuemap {s : State} (h : s.link.flags.cuemap = true) (mode : DecodingMode) (before after : Trackers)
    (k : ToneClass) : (s.closeClass mode before after k).link.flags.cuemap = true := by
  unfold State.closeClass
  dsimp only
  split_ifs
  · exact State.raiseFlagIf_keeps (State.dispatchBurst_cuemap h _ _ _) _
  · exact State.raiseFlagIf_keeps h _

theorem State.closeClasses_cuemap (mode : DecodingMode) (before after : Trackers) (l : List ToneClass) {s : State}
    (h : s.link.flags.cuemap = true) : (l.foldl (State.closeClass mode before after) s).link.flags.cuemap = true := by
  induction l generalizing s with
  | nil => exact h
  | cons k l ih => exact ih (State.closeClass_cuemap h mode before after k)

/-- A burst that becomes stuck at the close raises CUEMAP (R122). -/
theorem State.closeClasses_stuck {mode : DecodingMode} {before after : Trackers} {l : List ToneClass} {k : ToneClass}
    (hk : k ∈ l) (hstuck : (before.get k).becameStuck (after.get k) = true) (s : State) :
    (l.foldl (State.closeClass mode before after) s).link.flags.cuemap = true := by
  induction l generalizing s with
  | nil => cases hk
  | cons x l ih =>
    rw [List.foldl_cons]
    obtain rfl | hmem := List.mem_cons.mp hk
    · refine State.closeClasses_cuemap mode before after l ?_
      unfold State.closeClass
      dsimp only
      rw [hstuck]
      rfl
    · exact ih hmem _

/-! ## The window (R119) -/

/-- The part at the moment a window closes, before it is classified. -/
def State.atWindow (s : State) : State := { s with
  clock := max s.clock s.dec.windowDue, dec := { s.dec with windowDue := s.dec.windowDue + 20000 } }

/-- The trackers and the latest window, once a window has closed (R119, R121). -/
def State.windowed (count : Nat) (s : State) : State :=
  let cls := classify s.tape.state.mode s.cueGateOpen count
  { s.atWindow with dec := { s.atWindow.dec with
      trackers := s.dec.trackers.close s.tape.state.mode.recognition s.tape.counter cls, lastWindow := some ⟨count, cls⟩ } }

theorem exec_windowClose_off {s : State} (h : s.tape.state.mode = .off) (count : Nat) :
    exec (.windowClose count) s = .next s.atWindow := congrArg Host.Outcome.next (if_pos h)

theorem exec_windowClose_on {s : State} (h : s.tape.state.mode ≠ .off) (count : Nat) : exec (.windowClose count) s =
    .next (toneClasses.foldl (State.closeClass s.tape.state.mode s.dec.trackers (s.windowed count).dec.trackers)
      (s.windowed count)) := congrArg Host.Outcome.next (if_neg h)

theorem TransportState.mode_off (st : TransportState) : st.mode = .off ↔ st ∈ [.stopped, .ended, .noCassette] := by
  cases st <;> decide

theorem TransportState.mode_play (st : TransportState) : st.mode = .playSpeed ↔ st ∈ [.play, .paused] := by
  cases st <;> decide

theorem DecodingMode.search_of {m : DecodingMode} (hoff : m ≠ .off) (hplay : m ≠ .playSpeed) : m = .search := by
  cases m with
  | off => exact absurd rfl hoff
  | playSpeed => exact absurd rfl hplay
  | search => rfl

/-- Settles O38. -/
theorem windowTurnsTheTrackers : Obligations.WindowTurnsTheTrackers := by
  refine ⟨fun count s hoff => exec_windowClose_off (s.tape.state.mode_off.mpr hoff) count, fun count s hon => ?_⟩
  intro need factor within gate cls
  have hmode : s.tape.state.mode ≠ .off := by
    intro h
    have := s.tape.state.mode_off.mp h
    cases hst : s.tape.state <;> simp [hst] at this hon
  have hneed : s.tape.state.mode.recognition = need := by
    unfold need
    by_cases hplay : s.tape.state ∈ [.play, .paused]
    · rw [if_pos hplay, s.tape.state.mode_play.mpr hplay]
      rfl
    · have hsearch : s.tape.state.mode = .search :=
        DecodingMode.search_of hmode (mt s.tape.state.mode_play.mp hplay)
      rw [if_neg hplay, hsearch]
      rfl
  have hfactor : (if s.tape.state.mode = .playSpeed then 1 else 6) = factor :=
    if_congr s.tape.state.mode_play rfl rfl
  have hcls : classify s.tape.state.mode s.cueGateOpen count = cls := by
    rw [classify_eq hmode, toneClasses_find, hfactor]
    exact if_congr (not_congr s.cueGateOpen_iff) rfl (if_congr (ToneClass.holds_iff _ _ .a) rfl
      (if_congr (ToneClass.holds_iff _ _ .b) rfl (if_congr (ToneClass.holds_iff _ _ .c) rfl
        (if_congr (ToneClass.holds_iff _ _ .d) rfl rfl))))
  have hframe := State.closeClasses_frame s.tape.state.mode s.dec.trackers (s.windowed count).dec.trackers toneClasses
    (s.windowed count)
  refine ⟨_, exec_windowClose_on hmode count, ?_, ?_, ?_, fun k => ?_, ?_⟩
  · rw [hframe .clock (by decide)]
    rfl
  · rw [hframe .dec (by decide)]
    rfl
  · rw [hframe .dec (by decide), ← hcls]
    rfl
  · intro w w' idle stuck
    have hw' : w' = w.close need s.tape.counter (cls == some k) := by
      unfold w'
      rw [hframe .dec (by decide), ← hneed, ← hcls]
      exact Trackers.get_close _ _ _ _ k
    have hown (h : cls = some k) : (cls == some k) = true := beq_iff_eq.mpr h
    have hother (h : cls ≠ some k) : (cls == some k) = false := beq_eq_false_iff_ne.mpr h
    refine ⟨fun hst h => ?_, fun hst h => ?_, fun hst h hrun => ?_, fun hst h hrun => ?_, fun hst h => ?_,
      fun hst h hmiss => ?_, fun hst h hmiss => ?_, fun hst h hlen hstuck => ?_⟩
    · rw [hw', hown h, Tracker.close_idle hst]
    · rw [hw', hother h, Tracker.close_ends hst]
      rfl
    · rw [hw', hown h, Tracker.close_runs hst, if_neg (by omega)]
    · rw [hw', hown h, Tracker.close_runs hst, if_pos hrun]
    · rw [hw', hown h, Tracker.close_holds hst]
    · rw [hw', hother h, Tracker.close_misses hst, if_neg (by omega), hmiss]
    · rw [hw', hother h, Tracker.close_misses hst, if_pos hmiss]
      rfl
    · refine State.closeClasses_stuck (k := k) (by cases k <;> decide) ?_ _
      have hafter : (s.windowed count).dec.trackers.get k = w.close need s.tape.counter (cls == some k) := by
        rw [← hneed, ← hcls]
        exact Trackers.get_close _ _ _ _ k
      unfold Tracker.becameStuck
      rw [hafter, hown h, Tracker.close_holds hst]
      simp [hlen, hstuck, w]
  · have hwindow : s.onlyChanges [.clock, .dec] (s.windowed count) := by
      intro b hb; cases b <;> first | rfl | simp at hb
    exact hwindow.andThen hframe (by decide) (by decide)

end Sys2Proof.Machine
end

section
/-! A burst that is recognised: what it learns or confirms, and what its class does (R124, R125, R128, R129, R137,
R138). -/

namespace Sys2Proof.Machine

/-! ## The nearest entry (R128) -/

/-- e is within tolerance, and as near as any entry, the lower one where two are equally near. -/
def CueEntry.nearIn (tol p : Nat) (l : List CueEntry) (e : CueEntry) : Prop :=
  tapeDistance p e.position ≤ tol ∧ ∀ x ∈ l, tapeDistance p e.position < tapeDistance p x.position
    ∨ (tapeDistance p e.position = tapeDistance p x.position ∧ e.position ≤ x.position)

theorem nearestEntry_far {tol p : Nat} {l : List CueEntry} (h : ∀ e ∈ l, tol < tapeDistance p e.position) :
    nearestEntry tol p l = none := by
  induction l with
  | nil => rfl
  | cons e rest ih =>
    obtain ⟨he, hrest⟩ := List.forall_mem_cons.mp h
    unfold nearestEntry
    rw [ih hrest]
    exact if_neg (Nat.not_le.mpr he)

/-- In a map that rises, the search finds an entry that is near. -/
theorem nearestEntry_some {tol p : Nat} {l : List CueEntry} (hsorted : l.Pairwise (fun a b => a.position < b.position))
    {e : CueEntry} (h : nearestEntry tol p l = some e) : e ∈ l ∧ e.nearIn tol p l := by
  induction l generalizing e with
  | nil => cases h
  | cons x rest ih =>
    obtain ⟨habove, hrest⟩ := List.pairwise_cons.mp hsorted
    unfold nearestEntry at h
    split at h
    · next hnone =>
      have hfar := nearestEntry_none hnone
      split_ifs at h with hx
      cases h
      refine ⟨List.mem_cons_self, hx, List.forall_mem_cons.mpr ⟨.inr ⟨rfl, le_rfl⟩, fun y hy => .inl ?_⟩⟩
      exact Nat.lt_of_le_of_lt hx (hfar y hy)
    · next other hother =>
      obtain ⟨hmem, hnear, hleast⟩ := ih hrest hother
      split_ifs at h with hx
      · cases h
        refine ⟨List.mem_cons_self, hx.1, List.forall_mem_cons.mpr ⟨.inr ⟨rfl, le_rfl⟩, fun y hy => ?_⟩⟩
        have hlow := habove y hy
        obtain hlt | ⟨heq, _⟩ := hleast y hy
        · exact .inl (Nat.lt_of_le_of_lt hx.2 hlt)
        · obtain hlt | heq' := Nat.lt_or_eq_of_le (hx.2.trans heq.le)
          · exact .inl hlt
          · exact .inr ⟨heq', hlow.le⟩
      · cases h
        refine ⟨List.mem_cons_of_mem _ hmem, hnear, List.forall_mem_cons.mpr ⟨.inl ?_, hleast⟩⟩
        by_contra hnot
        exact hx ⟨(Nat.not_lt.mp hnot).trans hnear, Nat.not_lt.mp hnot⟩

/-- A near entry is the one that the search finds. -/
theorem nearestEntry_near {tol p : Nat} {l : List CueEntry} (hsorted : l.Pairwise (fun a b => a.position < b.position))
    {e : CueEntry} (he : e ∈ l) (hnear : e.nearIn tol p l) : nearestEntry tol p l = some e := by
  cases hfound : nearestEntry tol p l with
  | none => exact absurd hnear.1 (Nat.not_le.mpr (nearestEntry_none hfound e he))
  | some other =>
    obtain ⟨hmem, _, hleast⟩ := nearestEntry_some hsorted hfound
    have hsame : e.position = other.position := by
      have h1 := hnear.2 other hmem
      have h2 := hleast e he
      omega
    have hnodup : (l.map (fun x : CueEntry => x.position)).Nodup := List.pairwise_map.mpr (hsorted.imp Nat.ne_of_lt)
    rw [List.inj_on_of_nodup_map hnodup he hmem hsame]

/-! ## Learning and confirming (R128, R129) -/

section Learn
variable {s : State} {p : Nat} {k : ToneClass}

theorem State.confirmEntry_entries (e : CueEntry) (k : ToneClass) (s : State) : (s.confirmEntry e k).cue.entries
    = s.cue.entries.map (fun (x : CueEntry) => if x.position = e.position then x.confirm k else x) := by
  unfold State.confirmEntry
  rw [State.raiseFlagIf_frame _ _ _ .cue (by decide)]

theorem State.confirmEntry_changed {e : CueEntry} (h : e.cls ≠ k) (s : State) :
    (s.confirmEntry e k).link.flags.cuemap = true := by
  unfold State.confirmEntry State.raiseFlagIf
  rw [if_pos (bne_iff_ne.mpr h)]
  rfl

theorem State.learnCue_near {e : CueEntry} (h : nearestEntry s.items.tolerance p s.cue.entries = some e) :
    s.learnCue p k = (s.confirmEntry e k, some e.position) := by
  unfold State.learnCue
  rw [h]

theorem State.learnCue_far (h : nearestEntry s.items.tolerance p s.cue.entries = none) : s.learnCue p k =
    if s.cue.entries.length < 48 then
      ({ s with cue := { s.cue with entries := insertEntry ⟨p, k, 0, none⟩ s.cue.entries } }, some p)
    else (s.raiseFlag .cuemap, none) := by
  unfold State.learnCue
  rw [h]

theorem State.searchCue_near {e : CueEntry} (h : nearestEntry s.items.tolerance p s.cue.entries = some e) :
    s.searchCue p k = s.confirmEntry e k := by
  unfold State.searchCue
  rw [h]

theorem State.searchCue_far (h : nearestEntry s.items.tolerance p s.cue.entries = none) : s.searchCue p k = s := by
  unfold State.searchCue
  rw [h]

theorem State.searchCue_frame (p : Nat) (k : ToneClass) (s : State) : s.onlyChanges [.cue, .link] (s.searchCue p k) := by
  unfold State.searchCue
  split
  · exact s.confirmEntry_frame _ _
  · exact .refl _ s

/-- Learning writes the entries alone of the map. -/
theorem State.learnCue_cue (p : Nat) (k : ToneClass) (s : State) :
    (s.learnCue p k).1.cue = { s.cue with entries := (s.learnCue p k).1.cue.entries } := by
  cases hnear : nearestEntry s.items.tolerance p s.cue.entries with
  | some e =>
    rw [State.learnCue_near hnear]
    unfold State.confirmEntry
    rw [State.raiseFlagIf_frame _ _ _ .cue (by decide)]
  | none =>
    rw [State.learnCue_far hnear]
    split_ifs <;> rfl

theorem State.searchCue_cue (p : Nat) (k : ToneClass) (s : State) :
    (s.searchCue p k).cue = { s.cue with entries := (s.searchCue p k).cue.entries } := by
  cases hnear : nearestEntry s.items.tolerance p s.cue.entries with
  | some e =>
    rw [State.searchCue_near hnear]
    unfold State.confirmEntry
    rw [State.raiseFlagIf_frame _ _ _ .cue (by decide)]
  | none => rw [State.searchCue_far hnear]

end Learn

/-! ## What a class does (R124, R138) -/

/-- The step request of a cue (R124). -/
def cueStep (kind : ReqKind) (ref : Option Nat) : Request := { plainRequest kind .cue with cueRef := ref }

section Act
variable {s : State} {k : ToneClass} {kind : ReqKind} {ref : Option Nat}

theorem State.refuses_cueStep (kind : ReqKind) (ref : Option Nat) (s : State) : s.refuses (cueStep kind ref) =
    if s.cool.power = .coolingDown then some .standby else if 2 ≤ s.prot.pl then some .plProtected
    else if 4 ≤ s.arb.queues.cue.length then some .full else none := by
  unfold State.refuses
  rw [if_neg (c := (cueStep kind ref).source = .link ∧ _) (fun h => absurd h.1 nofun)]
  exact if_congr (and_iff_left rfl) rfl rfl

theorem State.offer_cueStep_joins (ht : s.takesSteps) (hroom : s.arb.queues.cue.length < 4) (hdebt : s.cue.debt = 0) :
    s.offer (cueStep kind ref) = ((s.join (cueStep kind ref)).judgeQueue, .accepted) := by
  have hnone : s.refuses (cueStep kind ref) = none := by
    rw [State.refuses_cueStep, if_neg ht.1, if_neg (Nat.not_le.mpr ht.2), if_neg (Nat.not_le.mpr hroom)]
  have hnodebt : (s.join (cueStep kind ref)).cue.debt = 0 := hdebt
  unfold State.offer
  rw [hnone]
  show ((State.convertDebt (s.join (cueStep kind ref)).cue.debt (s.join (cueStep kind ref))).judgeQueue, _) = _
  rw [hnodebt]
  rfl

theorem State.offer_cueStep_full (ht : s.takesSteps) (hfull : 4 ≤ s.arb.queues.cue.length) :
    s.offer (cueStep kind ref) = (s, .full) := by
  have hsome : s.refuses (cueStep kind ref) = some .full := by
    rw [State.refuses_cueStep, if_neg ht.1, if_neg (Nat.not_le.mpr ht.2), if_pos hfull]
  unfold State.offer
  rw [hsome]

theorem State.offer_cueStep_dropped (ht : ¬s.takesSteps) :
    (s.offer (cueStep kind ref)).1 = s ∧ (s.offer (cueStep kind ref)).2 ≠ .full := by
  have hsome : s.refuses (cueStep kind ref) = some .standby ∨ s.refuses (cueStep kind ref) = some .plProtected := by
    rw [State.refuses_cueStep]
    by_cases hpower : s.cool.power = .coolingDown
    · exact .inl (if_pos hpower)
    · rw [if_neg hpower]
      exact .inr (if_pos (Nat.not_lt.mp fun h => ht ⟨hpower, h⟩))
  unfold State.offer
  rcases hsome with h | h <;> rw [h] <;> exact ⟨rfl, nofun⟩

/-- The kind of the step that a class A or B asks for (R124). -/
def ToneClass.stepKind (k : ToneClass) : ReqKind := if k = .a then .stepFwd else .stepRev

theorem State.actClass_joins (hk : k = .a ∨ k = .b) (ht : s.takesSteps) (hroom : s.arb.queues.cue.length < 4)
    (hdebt : s.cue.debt = 0) : s.actClass k ref = (s.join (cueStep k.stepKind ref)).judgeQueue := by
  have hjoins (kind : ReqKind) := State.offer_cueStep_joins (kind := kind) (ref := ref) ht hroom hdebt
  obtain rfl | rfl := hk
  · have haccepted : (s.offer (cueStep .stepFwd ref)).2 ≠ .full := by
      rw [hjoins .stepFwd]
      nofun
    exact (if_neg haccepted).trans (congrArg Prod.fst (hjoins .stepFwd))
  · have haccepted : (s.offer (cueStep .stepRev ref)).2 ≠ .full := by
      rw [hjoins .stepRev]
      nofun
    exact (if_neg haccepted).trans (congrArg Prod.fst (hjoins .stepRev))

theorem State.actClass_dropped (hk : k = .a ∨ k = .b) (ht : ¬s.takesSteps) : s.actClass k ref = s := by
  have hdropped (kind : ReqKind) := State.offer_cueStep_dropped (kind := kind) (ref := ref) ht
  obtain rfl | rfl := hk
  · exact (if_neg (hdropped .stepFwd).2).trans (hdropped .stepFwd).1
  · exact (if_neg (hdropped .stepRev).2).trans (hdropped .stepRev).1

theorem State.actClass_owes (ht : s.takesSteps) (hfull : 4 ≤ s.arb.queues.cue.length) :
    s.actClass .a ref = s.oweStep := by
  have hoffer := State.offer_cueStep_full (kind := .stepFwd) (ref := ref) ht hfull
  refine (if_pos (congrArg Prod.snd hoffer)).trans ?_
  rw [show s.offer { plainRequest .stepFwd .cue with cueRef := ref } = _ from hoffer]

theorem State.actClass_loses (ht : s.takesSteps) (hfull : 4 ≤ s.arb.queues.cue.length) :
    s.actClass .b ref = s.raiseFlag .cuemap := by
  have hoffer := State.offer_cueStep_full (kind := .stepRev) (ref := ref) ht hfull
  refine (if_pos (congrArg Prod.snd hoffer)).trans ?_
  rw [show s.offer { plainRequest .stepRev .cue with cueRef := ref } = _ from hoffer]

theorem State.oweStep_debt (h : s.cue.debt ≤ 15) : s.oweStep.cue.debt = min 15 (s.cue.debt + 1) := by
  unfold State.oweStep
  by_cases hlt : s.cue.debt < 15
  · rw [if_pos hlt]
    show s.cue.debt + 1 = _
    omega
  · rw [if_neg hlt]
    show s.cue.debt = _
    omega

theorem State.oweStep_entries (s : State) : s.oweStep.cue.entries = s.cue.entries := by
  unfold State.oweStep
  split_ifs <;> rfl

/-- The class of a burst acts on the queue and the tape, never on the map. -/
theorem State.actClass_entries (hdebt : s.cue.debt ≠ 0 → 4 ≤ s.arb.queues.cue.length) :
    (s.actClass k ref).cue.entries = s.cue.entries := by
  have hstep (hk : k = .a ∨ k = .b) : (s.actClass k ref).cue.entries = s.cue.entries := by
    by_cases ht : s.takesSteps
    · by_cases hroom : s.arb.queues.cue.length < 4
      · have hzero : s.cue.debt = 0 := by
          by_contra h
          exact absurd (hdebt h) (Nat.not_le.mpr hroom)
        rw [State.actClass_joins hk ht hroom hzero, State.judgeQueue_cue]
        rfl
      · obtain rfl | rfl := hk
        · rw [State.actClass_owes ht (Nat.not_lt.mp hroom), State.oweStep_entries]
        · rw [State.actClass_loses ht (Nat.not_lt.mp hroom)]
          rfl
    · rw [State.actClass_dropped hk ht]
  cases k with
  | a => exact hstep (.inl rfl)
  | b => exact hstep (.inr rfl)
  | c => exact congrArg (·.entries) (s.addReason_frame_tape .cueStop .cue (by decide))
  | d => rfl

end Act

end Sys2Proof.Machine
end

section
/-! The window in which a burst is recognised (R121, R124, R125, R128, R129, R137, R138). -/

namespace Sys2Proof.Machine

/-! ## One recognised class in the fold (R121) -/

section Fold
variable {mode : DecodingMode} {before after : Trackers} {k : ToneClass}

theorem State.closeClass_unrecognised (h : (before.get k).recognised (after.get k) = false) (s : State) :
    s.closeClass mode before after k = s.raiseFlagIf ((before.get k).becameStuck (after.get k)) .cuemap := by
  unfold State.closeClass
  dsimp only
  rw [if_neg (by rw [h]; decide)]

theorem State.closeClasses_unrecognised {l : List ToneClass}
    (h : ∀ j ∈ l, (before.get j).recognised (after.get j) = false) (s : State) :
    s.onlyChanges [.link] (l.foldl (State.closeClass mode before after) s) := by
  induction l generalizing s with
  | nil => exact .refl _ s
  | cons j l ih =>
    obtain ⟨hj, hl⟩ := List.forall_mem_cons.mp h
    rw [List.foldl_cons, State.closeClass_unrecognised hj]
    exact (State.raiseFlagIf_frame _ _ _).trans (ih hl _)

/-- The one class that is recognised is dispatched; the others move attention flags alone. -/
theorem State.closeClasses_recognises {l : List ToneClass} (hl : l.Nodup) (hk : k ∈ l)
    (hown : (before.get k).recognised (after.get k) = true)
    (hothers : ∀ j, j ≠ k → (before.get j).recognised (after.get j) = false) (s : State) :
    ∃ u, s.onlyChanges [.link] u
      ∧ (u.dispatchBurst mode (after.get k).first k).onlyChanges [.link] (l.foldl (State.closeClass mode before after) s)
      ∧ ((u.dispatchBurst mode (after.get k).first k).link.flags.cuemap = true →
        (l.foldl (State.closeClass mode before after) s).link.flags.cuemap = true) := by
  induction l generalizing s with
  | nil => cases hk
  | cons j l ih =>
    obtain ⟨hnotin, hnodup⟩ := List.nodup_cons.mp hl
    rw [List.foldl_cons]
    by_cases hjk : j = k
    · subst hjk
      have hclose : s.closeClass mode before after j = (s.dispatchBurst mode (after.get j).first j).raiseFlagIf
          ((before.get j).becameStuck (after.get j)) .cuemap := by
        unfold State.closeClass
        dsimp only
        rw [if_pos hown]
      have hrest := State.closeClasses_unrecognised (mode := mode) (before := before) (after := after) (l := l)
        (fun i hi => hothers i fun h => hnotin (h ▸ hi)) (s.closeClass mode before after j)
      refine ⟨s, .refl _ s, ?_, fun hflag => State.closeClasses_cuemap _ _ _ _ ?_⟩
      · exact State.onlyChanges.trans (by rw [hclose]; exact State.raiseFlagIf_frame _ _ _) hrest
      · rw [hclose]
        exact State.raiseFlagIf_keeps hflag _
    · obtain ⟨u, hu, hrest⟩ := ih hnodup ((List.mem_cons.mp hk).resolve_left (Ne.symm hjk)) (s.closeClass mode before after j)
      rw [State.closeClass_unrecognised (hothers j hjk)] at hu
      exact ⟨u, (State.raiseFlagIf_frame _ _ _).trans hu, hrest⟩

end Fold

/-! ## The burst at its recognition -/

theorem toneClasses_nodup : toneClasses.Nodup := by decide

theorem mem_toneClasses (k : ToneClass) : k ∈ toneClasses := by cases k <;> decide

/-- A tracker that a window makes ACTIVE has its burst dispatched, from the counter at its first window. -/
theorem windowClose_recognises {count : Nat} {k : ToneClass} {s t : State} (h : exec (.windowClose count) s = .next t)
    (hrun : (s.dec.trackers.get k).state = .running) (hactive : (t.dec.trackers.get k).state = .active) :
    s.tape.state.mode ≠ .off ∧ ∃ u, s.onlyChanges [.clock, .dec, .link] u
      ∧ (u.dispatchBurst s.tape.state.mode (s.dec.trackers.get k).first k).onlyChanges [.link] t
      ∧ ((u.dispatchBurst s.tape.state.mode (s.dec.trackers.get k).first k).link.flags.cuemap = true →
        t.link.flags.cuemap = true) := by
  by_cases hmode : s.tape.state.mode = .off
  · rw [exec_windowClose_off hmode] at h
    cases h
    exact absurd (hrun.symm.trans hactive) nofun
  · rw [exec_windowClose_on hmode] at h
    cases h
    have hframe := State.closeClasses_frame s.tape.state.mode s.dec.trackers (s.windowed count).dec.trackers toneClasses
      (s.windowed count)
    rw [hframe .dec (by decide)] at hactive
    have hclose (j : ToneClass) : (s.windowed count).dec.trackers.get j = (s.dec.trackers.get j).close
        s.tape.state.mode.recognition s.tape.counter (classify s.tape.state.mode s.cueGateOpen count == some j) :=
      Trackers.get_close _ _ _ _ j
    have hown : (s.dec.trackers.get k).recognised ((s.windowed count).dec.trackers.get k) = true := by
      unfold Tracker.recognised
      rw [hrun, hactive]
      rfl
    have hcls : classify s.tape.state.mode s.cueGateOpen count = some k := by
      rw [hclose] at hown
      exact beq_iff_eq.mp (Tracker.recognised_own hown).1
    have hothers (j : ToneClass) (hj : j ≠ k) :
        (s.dec.trackers.get j).recognised ((s.windowed count).dec.trackers.get j) = false := by
      rw [Bool.eq_false_iff, hclose]
      intro hrec
      exact hj (Option.some_injective _ ((beq_iff_eq.mp (Tracker.recognised_own hrec).1).symm.trans hcls))
    have hfirst : ((s.windowed count).dec.trackers.get k).first = (s.dec.trackers.get k).first := by
      rw [hclose, hcls, beq_self_eq_true, Tracker.close_runs hrun]
      split_ifs <;> rfl
    obtain ⟨u, hu, hrest⟩ := State.closeClasses_recognises (mode := s.tape.state.mode) toneClasses_nodup (mem_toneClasses k)
      hown hothers (s.windowed count)
    rw [hfirst] at hrest
    have hwindow : s.onlyChanges [.clock, .dec] (s.windowed count) := by
      intro b hb; cases b <;> first | rfl | simp at hb
    exact ⟨hmode, u, hwindow.andThen hu (by decide) (by decide), hrest⟩

/-- What the recognition of a burst at play speed makes of the part before its class acts: m holds the map, and ref is the
entry that the burst belongs to (R124, R128). -/
structure State.Learned (s : State) (p : Nat) (k : ToneClass) (m : State) (ref : Option Nat) : Prop where
  frame : s.onlyChanges [.clock, .dec, .link, .usage, .cue] m
  cue : m.cue = { s.cue with entries := m.cue.entries }
  counted : s.usage.counters.cues.gained m.usage.counters.cues
  near : ∀ e ∈ s.cue.entries, e.nearIn s.items.tolerance p s.cue.entries →
    m.cue.entries = s.cue.entries.map (fun (x : CueEntry) => if x.position = e.position then x.confirm k else x)
    ∧ ref = some e.position ∧ (e.cls ≠ k → m.link.flags.cuemap = true)
  far : (∀ e ∈ s.cue.entries, s.items.tolerance < tapeDistance p e.position) →
    m.cue.entries = (if s.cue.entries.length < 48 then insertEntry ⟨p, k, 0, none⟩ s.cue.entries else s.cue.entries)
    ∧ ref = (if s.cue.entries.length < 48 then some p else none)
    ∧ (¬s.cue.entries.length < 48 → m.link.flags.cuemap = true)

theorem State.learnCue_learned {s u : State} (hu : s.onlyChanges [.clock, .dec, .link] u)
    (hsorted : s.cue.entries.Pairwise (fun a b => a.position < b.position)) (p : Nat) (k : ToneClass) :
    s.Learned p k ((u.gainCounter .cues).learnCue p k).1 ((u.gainCounter .cues).learnCue p k).2 := by
  have hgain := u.gainCounter_frame .cues
  have hcue : (u.gainCounter .cues).cue = s.cue := Eq.trans (hgain .cue (by decide)) (hu .cue (by decide))
  have hitems : (u.gainCounter .cues).items = s.items := Eq.trans (hgain .items (by decide)) (hu .items (by decide))
  have hsearch (r : Option CueEntry) (h : nearestEntry s.items.tolerance p s.cue.entries = r) :
      nearestEntry (u.gainCounter .cues).items.tolerance p (u.gainCounter .cues).cue.entries = r := by
    rw [hcue, hitems, h]
  have hlearn := State.learnCue_frame p k (u.gainCounter .cues)
  refine ⟨?_, ?_, ?_, fun e he hnear => ?_, fun hfar => ?_⟩
  · exact (hu.andThen hgain (cs := [.clock, .dec, .link, .usage]) (by decide) (by decide)).andThen hlearn
      (by decide) (by decide)
  · rw [State.learnCue_cue, hcue]
  · rw [hlearn .usage (by decide), show u.gainCounter .cues = u.gainCounterIf true .cues from rfl, State.gainCounterIf_eq,
      show u.usage = s.usage from hu .usage (by decide)]
    exact Counter.gainIf_true rfl _
  · rw [State.learnCue_near (hsearch _ (nearestEntry_near hsorted he hnear))]
    exact ⟨(State.confirmEntry_entries _ _ _).trans (by rw [hcue]), rfl, fun h => State.confirmEntry_changed h _⟩
  · rw [State.learnCue_far (hsearch _ (nearestEntry_far hfar)), hcue]
    by_cases hroom : s.cue.entries.length < 48
    · rw [if_pos hroom, if_pos hroom, if_pos hroom]
      exact ⟨rfl, rfl, fun h => absurd hroom h⟩
    · rw [if_neg hroom, if_neg hroom, if_neg hroom]
      exact ⟨congrArg (·.entries) hcue, rfl, fun _ => rfl⟩

theorem insertEntry_far {tol p : Nat} {k : ToneClass} {l : List CueEntry} (h : ∀ e ∈ l, tol < tapeDistance p e.position) :
    insertEntry ⟨p, k, 0, none⟩ l = l.filter (fun e => decide (e.position < p)) ++ ⟨p, k, 0, none⟩
      :: l.filter (fun e => decide (p < e.position)) := by
  have habove : ∀ e ∈ l, (!decide (e.position < p)) = decide (p < e.position) := by
    intro e he
    have hdist := h e he
    unfold tapeDistance at hdist
    rw [← decide_not, decide_eq_decide]
    omega
  unfold insertEntry
  rw [List.filter_congr habove]

end Sys2Proof.Machine
end

section
/-! A recognised burst is learned and dispatched (R124, R125, R128, R129, R137, R138). -/

namespace Sys2Proof.Machine

section Joined
variable {s : State} {r : Request}

/-- A cue step that joins is counted, and the QUEUE reason judged on the length with it (R137). -/
theorem State.joins_cue_queue (hr : r.source = .cue) :
    (s.join r).judgeQueue.arb.queues.cue = s.arb.queues.cue ++ [r] := by
  rw [State.judgeQueue_frame_tape _ .arb (by decide)]
  unfold State.join
  rw [hr]
  rfl

theorem State.joins_cue (hr : r.source = .cue) : (s.join r).judgeQueue.cue = { s.cue with
    queueLen := s.arb.queues.cue.length + 1
    queueAsked := if 4 ≤ s.arb.queues.cue.length + 1 then true else if s.arb.queues.cue.length + 1 ≤ 1 then false
      else s.cue.queueAsked } := by
  have hlen : (s.join r).arb.queues.cue.length = s.arb.queues.cue.length + 1 := by
    unfold State.join
    rw [hr]
    exact List.length_append
  rw [State.judgeQueue_cue, hlen]
  rfl

theorem State.joins_tape (hr : r.source = .cue) : (s.join r).judgeQueue.tape =
    if 4 ≤ s.arb.queues.cue.length + 1 ∧ s.cue.queueAsked = false then s.tape.adds .queue
    else if s.arb.queues.cue.length + 1 ≤ 1 ∧ s.cue.queueAsked = true then s.tape.drops .queue s.clock
    else s.tape := by
  have hlen : (s.join r).arb.queues.cue.length = s.arb.queues.cue.length + 1 := by
    unfold State.join
    rw [hr]
    exact List.length_append
  rw [State.judgeQueue_tape, hlen]
  rfl

end Joined

/-- Settles O39. -/
theorem burstIsLearnedAndDispatched : Obligations.BurstIsLearnedAndDispatched := by
  intro count k s t hexec hrun hactive ⟨_, hspaced, _⟩ ⟨hdebtMax, _, hdebtFull⟩ p dist near far play
    takes ref req
  have hsorted : s.cue.entries.Pairwise (fun a b => a.position < b.position) :=
    hspaced.imp fun h => Nat.lt_of_le_of_lt (Nat.le_add_right _ _) h
  obtain ⟨hmode, u, hu, ht, hflag⟩ := windowClose_recognises hexec hrun hactive
  by_cases hplay : play
  · rw [s.tape.state.mode_play.mpr (by simpa [play] using hplay)] at ht hflag
    obtain ⟨m, r, hlearned, ht, hflag⟩ : ∃ m r, s.Learned p k m r ∧ (m.actClass k r).onlyChanges [.link] t
        ∧ ((m.actClass k r).link.flags.cuemap = true → t.link.flags.cuemap = true) :=
      ⟨_, _, State.learnCue_learned hu hsorted p k, ht, hflag⟩
    have hmarb : m.arb = s.arb := hlearned.frame .arb (by decide)
    have hmtape : m.tape = s.tape := hlearned.frame .tape (by decide)
    have hmdebt : m.cue.debt = s.cue.debt := congrArg (·.debt) hlearned.cue
    have hmasked : m.cue.queueAsked = s.cue.queueAsked := congrArg (·.queueAsked) hlearned.cue
    have hmtakes : m.takesSteps ↔ takes := by
      unfold State.takesSteps
      rw [show m.cool = s.cool from hlearned.frame .cool (by decide), show m.prot = s.prot from hlearned.frame .prot (by decide)]
    have htcue : t.cue = (m.actClass k r).cue := ht .cue (by decide)
    have htarb : t.arb = (m.actClass k r).arb := ht .arb (by decide)
    have httape : t.tape = (m.actClass k r).tape := ht .tape (by decide)
    have htclock : t.clock = m.clock := Eq.trans (ht .clock (by decide)) (State.actClass_frame_tape k r m .clock (by decide))
    have hentries : t.cue.entries = m.cue.entries := by
      rw [htcue]
      refine State.actClass_entries fun h => ?_
      rw [hmdebt] at h
      rw [hmarb, hdebtFull (Nat.pos_of_ne_zero h)]
    have hcuemap (h : m.link.flags.cuemap = true) : t.link.flags.cuemap = true := hflag (State.actClass_cuemap h k r)
    have hjoins (hk : k = .a ∨ k = .b) (htakes : takes) (hroom : s.arb.queues.cue.length < 4) :
        m.actClass k r = (m.join (cueStep k.stepKind r)).judgeQueue := by
      refine State.actClass_joins hk (hmtakes.mpr htakes) (by rw [hmarb]; exact hroom) ?_
      rw [hmdebt]
      by_contra h
      exact absurd (hdebtFull (Nat.pos_of_ne_zero h)) (Nat.ne_of_lt hroom)
    have hqueue (hk : k = .a ∨ k = .b) (htakes : takes) (hroom : s.arb.queues.cue.length < 4) :
        t.arb.queues.cue = s.arb.queues.cue ++ [cueStep k.stepKind r] := by
      rw [htarb, hjoins hk htakes hroom, State.joins_cue_queue rfl, hmarb]
    have href (hk : k = .a ∨ k = .b) (htakes : takes) (hroom : s.arb.queues.cue.length < 4) : ref = r := by
      unfold ref
      rw [hqueue hk htakes hroom, List.getLast?_append_of_ne_nil _ (List.cons_ne_nil _ _)]
      rfl
    refine ⟨fun e he hnear => ?_, fun hfar => ?_, fun _ => ?_, fun h => absurd hplay h, fun _ hk htakes hroom => ⟨?_, ?_, ?_⟩,
      fun _ hk htakes hroom => ?_, fun _ hk htakes hfull => ?_, fun _ hk htakes hfull => ?_, fun _ htakes => ?_,
      fun _ hk => ?_, fun _ hk => ?_⟩
    · obtain ⟨hmap, _, hchanged⟩ := hlearned.near e he hnear
      exact ⟨hentries.trans hmap, fun h => hcuemap (hchanged h)⟩
    · obtain ⟨hmap, _, hfullMap⟩ := hlearned.far hfar
      refine ⟨?_, fun _ h => hcuemap (hfullMap (by omega))⟩
      rw [hentries, hmap, insertEntry_far hfar]
      exact if_congr (and_iff_right hplay).symm rfl rfl
    · rw [show t.usage = m.usage from Eq.trans (ht .usage (by decide)) (State.actClass_frame_tape k r m .usage (by decide))]
      exact hlearned.counted
    · rw [href hk htakes hroom]
      exact hqueue hk htakes hroom
    · exact fun e he hnear => (href hk htakes hroom).trans (hlearned.near e he hnear).2.1
    · exact fun hfar => (href hk htakes hroom).trans (hlearned.far hfar).2.1
    · intro n
      have hfour : 4 ≤ n ↔ n = 4 := by omega
      have hcue := htcue.trans ((congrArg State.cue (hjoins hk htakes hroom)).trans (State.joins_cue rfl))
      rw [hmarb] at hcue
      refine ⟨congrArg (·.queueLen) hcue, (congrArg (·.debt) hcue).trans hmdebt, ?_, ?_⟩
      · rw [hcue, hmasked]
        exact if_congr hfour rfl rfl
      · rw [httape, hjoins hk htakes hroom, State.joins_tape rfl, hmarb, hmtape, hmasked, htclock]
        exact if_congr (and_congr_left' hfour) rfl rfl
    · subst hk
      have howes : m.actClass .a r = m.oweStep :=
        State.actClass_owes (hmtakes.mpr htakes) (by rw [hmarb]; exact hfull.ge)
      refine ⟨?_, ?_, fun hdebt => hflag ?_⟩
      · rw [htarb, howes, m.oweStep_frame .arb (by decide), hmarb]
      · rw [htcue, howes, State.oweStep_debt (hmdebt.trans_le hdebtMax), hmdebt]
      · rw [howes]
        unfold State.oweStep
        rw [if_neg (by omega)]
        rfl
    · subst hk
      have hloses : m.actClass .b r = m.raiseFlag .cuemap :=
        State.actClass_loses (hmtakes.mpr htakes) (by rw [hmarb]; exact hfull.ge)
      refine ⟨?_, ?_, hflag ?_⟩
      · rw [htarb, hloses]
        exact hmarb
      · rw [htcue, hloses]
        exact hmdebt
      · rw [hloses]
        rfl
    · have hkeeps : (m.actClass k r).arb = m.arb ∧ (m.actClass k r).cue = m.cue := by
        cases k with
        | a => rw [State.actClass_dropped (.inl rfl) (mt hmtakes.mp htakes)]; exact ⟨rfl, rfl⟩
        | b => rw [State.actClass_dropped (.inr rfl) (mt hmtakes.mp htakes)]; exact ⟨rfl, rfl⟩
        | c => exact ⟨m.addReason_frame_tape .cueStop .arb (by decide), m.addReason_frame_tape .cueStop .cue (by decide)⟩
        | d => exact ⟨rfl, rfl⟩
      rw [htarb, htcue, hkeeps.1, hkeeps.2]
      exact ⟨hmarb, hmdebt⟩
    · subst hk
      have hpauses : t.tape = s.tape.adds .cueStop :=
        httape.trans ((State.addReason_tape .cueStop m).trans (by rw [hmtape]))
      rw [htarb, hpauses, show (m.actClass .c r).arb = m.arb from m.addReason_frame_tape .cueStop .arb (by decide)]
      unfold Tape.adds
      rw [if_pos hplay]
      exact ⟨hmarb, rfl, rfl, rfl⟩
    · subst hk
      rw [htarb, httape, htcue]
      exact ⟨hmarb, hmtape, hmdebt⟩
  · have hsearch : s.tape.state.mode = .search :=
      DecodingMode.search_of hmode (mt s.tape.state.mode_play.mp (by simpa [play] using hplay))
    rw [hsearch] at ht hflag
    have hcue : u.cue = s.cue := hu .cue (by decide)
    have hitems : u.items = s.items := hu .items (by decide)
    have hfind (r : Option CueEntry) (h : nearestEntry s.items.tolerance p s.cue.entries = r) :
        nearestEntry u.items.tolerance p u.cue.entries = r := by rw [hcue, hitems, h]
    have htcue : t.cue = (u.searchCue p k).cue := ht .cue (by decide)
    have hframe := (hu.andThen (u.searchCue_frame p k) (cs := [.clock, .dec, .link, .cue]) (by decide) (by decide)).andThen
      ht (cs := [.clock, .dec, .link, .cue]) (by decide) (by decide)
    refine ⟨fun e he hnear => ?_, fun hfar => ⟨?_, fun h => absurd h hplay⟩, fun h => absurd h hplay, fun _ => ?_,
      fun h => absurd h hplay, fun h => absurd h hplay, fun h => absurd h hplay, fun h => absurd h hplay,
      fun h => absurd h hplay, fun h => absurd h hplay, fun h => absurd h hplay⟩
    · have hnearest := State.searchCue_near (k := k) (hfind _ (nearestEntry_near hsorted he hnear))
      refine ⟨?_, fun hcls => hflag ?_⟩
      · rw [htcue, hnearest, State.confirmEntry_entries, hcue]
        rfl
      · exact (congrArg (fun v : State => v.link.flags.cuemap) hnearest).trans (State.confirmEntry_changed hcls u)
    · rw [htcue, State.searchCue_far (hfind _ (nearestEntry_far hfar)), hcue, if_neg fun h => hplay h.1]
    · refine ⟨hframe .usage (by decide), hframe .arb (by decide), hframe .tape (by decide), ?_⟩
      rw [htcue, State.searchCue_cue, hcue]

end Sys2Proof.Machine
end

section
/-! A scan pass, slot by slot: what one read writes, and what the other reads leave of it (R92, R93, R96 to R103). -/

namespace Sys2Proof.Machine

/-! ## Attention flags that stand (R117) -/

/-- Every flag that was raised is raised still; COMPLETION, which a flush writes too, is left out. -/
def State.keepsFlags (s t : State) : Prop :=
  ∀ f, f ≠ .completion → s.link.flags.get f = true → t.link.flags.get f = true

theorem State.keepsFlags.of_link {s t : State} (h : t.link = s.link) : s.keepsFlags t := fun f _ hf => by rwa [h]

theorem State.keepsFlags.refl (s : State) : s.keepsFlags s := .of_link rfl

theorem State.keepsFlags.trans {s t u : State} (h1 : s.keepsFlags t) (h2 : t.keepsFlags u) : s.keepsFlags u :=
  fun f hne hf => h2 f hne (h1 f hne hf)

theorem Attention.get_put_raised {a : Attention} {f : AttentionFlag} (g : AttentionFlag) (h : a.get f = true) :
    (a.put g true).get f = true := by
  by_cases hfg : f = g
  · rw [hfg, Attention.get_put_same]
  · revert h
    cases f <;> cases g <;> first | exact id | exact absurd rfl hfg

theorem State.raiseFlag_keepsFlags (f : AttentionFlag) (s : State) : s.keepsFlags (s.raiseFlag f) :=
  fun _ _ h => Attention.get_put_raised f h

theorem State.raiseFlagIf_keepsFlags (b : Bool) (f : AttentionFlag) (s : State) : s.keepsFlags (s.raiseFlagIf b f) := by
  unfold State.raiseFlagIf
  split_ifs
  · exact s.raiseFlag_keepsFlags f
  · exact .refl s

theorem State.settleFrom_keepsFlags (s t : State) : t.keepsFlags (s.settleFrom t) := by
  intro f _ hf
  obtain h | h := s.settleFrom_link t
  · rwa [h]
  · rw [h]
    exact Attention.get_put_raised .lamp hf

theorem State.handPL_keepsFlags (old : Nat) (s : State) : s.keepsFlags (s.handPL old) := by
  intro f hne hf
  obtain ⟨done, h⟩ := s.handPL_link old
  rw [h]
  cases f with
  | completion => exact absurd rfl hne
  | fault | limit | cuemap | lamp | counter | syncTape | showStore => exact hf

theorem State.raise_keepsFlags (c : Cause) (s : State) : s.keepsFlags (s.raise c) :=
  .trans (t := s.recordRaise c) (State.raiseFlag_keepsFlags .fault { s with prot := s.prot.record c s.usage.uptime })
    (State.handPL_keepsFlags _ _)

theorem State.liveChange_keepsFlags (c : Cause) (old new : Bool) (s : State) : s.keepsFlags (s.liveChange c old new) := by
  have hactive : s.keepsFlags (s.liveActive c) := by
    unfold State.liveActive
    dsimp only
    split_ifs
    · exact .refl s
    · exact .of_link rfl
    · exact State.raise_keepsFlags c { s with prot := { s.prot with active := s.prot.active.put c true } }
  unfold State.liveChange
  split_ifs
  · exact .refl s
  · exact hactive
  · exact .of_link rfl

theorem State.deliverHigh_keepsFlags (role : Role) (old new : Bool) (s : State) :
    s.keepsFlags (s.deliverHigh role old new) := by
  unfold State.deliverHigh
  split
  · exact .refl s
  · exact s.liveChange_keepsFlags _ _ _

theorem State.failureTest_keepsFlags (r low : Nat) (s : State) : s.keepsFlags (s.failureTest r low) := by
  unfold State.failureTest
  split_ifs
  · exact .refl s
  · exact State.raiseFlag_keepsFlags .lamp { s with lamp := { s.lamp with failed := true, failCount := 0 } }
  · exact .of_link rfl
  · exact .of_link rfl

theorem State.deliverResult_keepsFlags (role : Role) (r low : Nat) (s : State) :
    s.keepsFlags (s.deliverResult role r low) := by
  cases role with
  | housing => exact .of_link (State.testCooldownEnd_frame _ .link (by decide))
  | lampCurrent => exact s.failureTest_keepsFlags r low
  | cueLevel => exact .of_link rfl
  | none | gate | supply => exact .refl s

/-! ## The low limit of the decoder stands (R105) -/

theorem State.stopTape_levelLow (cause : StopCause) (s : State) : (s.stopTape cause).dec.levelLow = s.dec.levelLow := by
  have hstops (st : TransportState) : (s.setTransport st).dec.levelLow = s.dec.levelLow := by
    unfold State.setTransport
    dsimp only
    split_ifs <;> rfl
  unfold State.stopTape
  cases s.tape.state with
  | noCassette | stopped => rfl
  | play | paused | fastFwd | rewind | seek | ended => exact hstops .stopped

theorem State.handPL_levelLow (old : Nat) (s : State) : (s.handPL old).dec.levelLow = s.dec.levelLow := by
  have hsafe : s.crossToSafe.dec = s.dec := by
    unfold State.crossToSafe
    rw [State.addReason_frame_tape _ _ .dec (by decide)]
    exact State.flushAll_owing_none_frame (s := { s with cue := { s.cue with debt := 0 } }) rfl .dec (by decide)
  have hfirst : (if old < 2 ∧ 2 ≤ s.prot.pl then s.crossToSafe
      else if 2 ≤ old ∧ s.prot.pl < 2 then s.removeReason .safe else s).dec = s.dec := by
    split_ifs
    · exact hsafe
    · exact State.removeReason_frame_tape _ _ .dec (by decide)
    · rfl
  unfold State.handPL
  dsimp only
  split
  · exact (State.stopTape_levelLow .lockout _).trans (congrArg (·.levelLow) hfirst)
  · exact congrArg (·.levelLow) hfirst

theorem State.deliverHigh_levelLow (role : Role) (old new : Bool) (s : State) :
    (s.deliverHigh role old new).dec.levelLow = s.dec.levelLow := by
  have hactive (c : Cause) : (s.liveActive c).dec.levelLow = s.dec.levelLow := by
    unfold State.liveActive
    dsimp only
    split_ifs
    · rfl
    · rfl
    · exact State.handPL_levelLow _ _
  unfold State.deliverHigh State.liveChange
  split
  · rfl
  · split_ifs
    · rfl
    · exact hactive _
    · rfl

/-! ## One read (R92, R93) -/

/-- What a pass makes of a slot with its raw count. -/
def ScanSlot.passed (raw : BitVec 12) (sl : ScanSlot) : ScanSlot :=
  if sl.cfg.enable then sl.read (slotResult sl.cfg raw.toNat) else sl

/-- A slot is read and its result handed to its consumer; its high condition is still to be handed on. -/
def State.reads (i : Nat) (sl : ScanSlot) (r : Nat) (s : State) : State :=
  (State.raiseFlagIf (sl.latchedNew (sl.read r)) .limit
    { s with scan := { s.scan with slots := s.scan.slots.set i (sl.read r) } }).deliverResult sl.cfg.role r sl.cfg.low

section Read
variable {s : State} {i : Nat} {sl : ScanSlot} (raw : BitVec 12)

theorem State.readSlot_enabled (h : s.scan.slots[i]? = some sl) (hen : sl.cfg.enable = true) :
    s.readSlot i raw = s.settleFrom ((s.reads i sl (slotResult sl.cfg raw.toNat)).deliverHigh sl.cfg.role sl.highCond
      (sl.read (slotResult sl.cfg raw.toNat)).highCond) := by
  unfold State.readSlot
  rw [h]
  exact if_pos hen

/-- A slot that is absent or disabled is skipped (R93). -/
theorem State.readSlot_skips (h : ∀ sl, s.scan.slots[i]? = some sl → sl.cfg.enable = false) : s.readSlot i raw = s := by
  unfold State.readSlot
  cases hsl : s.scan.slots[i]? with
  | none => rfl
  | some sl => exact if_neg (by rw [h sl hsl]; decide)

/-- A read either skips its slot or is one of an enabled slot. -/
theorem State.readSlot_cases (i : Nat) (s : State) : (∀ raw, s.readSlot i raw = s)
    ∨ ∃ sl, s.scan.slots[i]? = some sl ∧ sl.cfg.enable = true := by
  by_cases h : ∃ sl, s.scan.slots[i]? = some sl ∧ sl.cfg.enable = true
  · exact .inr h
  · refine .inl fun raw => State.readSlot_skips raw fun sl hsl => ?_
    rw [← Bool.not_eq_true]
    exact fun hen => h ⟨sl, hsl, hen⟩

theorem State.reads_frame (i : Nat) (sl : ScanSlot) (r : Nat) (s : State) :
    s.onlyChanges [.scan, .link, .cool, .lamp, .dec] (s.reads i sl r) := by
  refine State.onlyChanges.andThen (as := [.scan, .link]) ?_ (State.deliverResult_frame _ _ _ _) (by decide) (by decide)
  refine State.onlyChanges.andThen (as := [.scan]) ?_ (State.raiseFlagIf_frame _ _ _) (by decide) (by decide)
  intro b hb; cases b <;> first | rfl | simp at hb

theorem State.readSlot_scan (i : Nat) (s : State) :
    (s.readSlot i raw).scan = { s.scan with slots := s.scan.slots.modify i (ScanSlot.passed raw) } := by
  cases hsl : s.scan.slots[i]? with
  | none =>
    have hlen := List.getElem?_eq_none_iff.mp hsl
    have hskip : s.readSlot i raw = s := State.readSlot_skips raw fun sl h => nomatch hsl.symm.trans h
    rw [hskip, List.modify_eq_self hlen]
  | some sl =>
    have hmodify : s.scan.slots.modify i (ScanSlot.passed raw) = s.scan.slots.set i (sl.passed raw) := by
      rw [List.modify_eq_set_getElem?, hsl]
      rfl
    rw [hmodify]
    cases hen : sl.cfg.enable with
    | false =>
      have hsame : sl.passed raw = sl := if_neg (by rw [hen]; decide)
      obtain ⟨hi, heq⟩ := List.getElem?_eq_some_iff.mp hsl
      have hskip : s.readSlot i raw = s := State.readSlot_skips raw fun sl' h => by
        rw [hsl] at h
        cases h
        exact hen
      rw [hskip, hsame, ← heq, List.set_getElem_self]
    | true =>
      have hread : sl.passed raw = sl.read (slotResult sl.cfg raw.toNat) := if_pos hen
      rw [State.readSlot_enabled raw hsl hen, State.settleFrom_frame _ _ .scan (by decide),
        State.deliverHigh_frame _ _ _ _ .scan (by decide), hread]
      unfold State.reads
      rw [State.deliverResult_frame _ _ _ _ .scan (by decide), State.raiseFlagIf_frame _ _ _ .scan (by decide)]

theorem State.reads_keepsFlags (i : Nat) (sl : ScanSlot) (r : Nat) (s : State) : s.keepsFlags (s.reads i sl r) := by
  refine .trans ?_ (State.deliverResult_keepsFlags _ _ _ _)
  exact State.raiseFlagIf_keepsFlags _ _ { s with scan := { s.scan with slots := s.scan.slots.set i (sl.read r) } }

theorem State.readSlot_keepsFlags (i : Nat) (s : State) : s.keepsFlags (s.readSlot i raw) := by
  obtain h | ⟨sl, hsl, hen⟩ := s.readSlot_cases i
  · rw [h]
    exact .refl s
  · rw [State.readSlot_enabled raw hsl hen]
    exact ((s.reads_keepsFlags i sl _).trans (State.deliverHigh_keepsFlags _ _ _ _)).trans (State.settleFrom_keepsFlags _ _)

/-- A latched status that is set raises LIMIT (R97). -/
theorem State.readSlot_limit (h : s.scan.slots[i]? = some sl) (hen : sl.cfg.enable = true)
    (hnew : sl.latchedNew (sl.read (slotResult sl.cfg raw.toNat)) = true) :
    (s.readSlot i raw).link.flags.limit = true := by
  rw [State.readSlot_enabled raw h hen]
  refine ((State.deliverHigh_keepsFlags _ _ _ _).trans (State.settleFrom_keepsFlags _ _)) .limit (by decide) ?_
  refine State.deliverResult_keepsFlags _ _ _ _ .limit (by decide) ?_
  unfold State.raiseFlagIf
  rw [if_pos hnew]
  rfl

theorem State.deliverResult_th (role : Role) (r low : Nat) (s : State) :
    (s.deliverResult role r low).cool.th = if role = .housing then some r else s.cool.th := by
  have hends (u : State) : u.testCooldownEnd.cool.th = u.cool.th := by
    unfold State.testCooldownEnd
    split
    · split_ifs <;> rfl
    · rfl
  cases role with
  | housing => exact hends _
  | lampCurrent => exact congrArg (·.th) (s.failureTest_frame r low .cool (by decide))
  | cueLevel | none | gate | supply => rfl

theorem State.deliverResult_levelLow (role : Role) (r low : Nat) (s : State) :
    (s.deliverResult role r low).dec.levelLow = if role = .cueLevel then low else s.dec.levelLow := by
  cases role with
  | housing => exact congrArg (·.levelLow) (State.testCooldownEnd_frame _ .dec (by decide))
  | lampCurrent => exact congrArg (·.levelLow) (s.failureTest_frame r low .dec (by decide))
  | cueLevel | none | gate | supply => rfl

theorem State.readSlot_th (h : s.scan.slots[i]? = some sl) (hen : sl.cfg.enable = true) : (s.readSlot i raw).cool.th =
    if sl.cfg.role = .housing then some (slotResult sl.cfg raw.toNat) else s.cool.th := by
  rw [State.readSlot_enabled raw h hen, (State.settleFrom_cool _ _).1, State.deliverHigh_frame _ _ _ _ .cool (by decide)]
  unfold State.reads
  rw [State.deliverResult_th, State.raiseFlagIf_frame _ _ _ .cool (by decide)]

theorem State.readSlot_levelLow (h : s.scan.slots[i]? = some sl) (hen : sl.cfg.enable = true) :
    (s.readSlot i raw).dec.levelLow = if sl.cfg.role = .cueLevel then sl.cfg.low else s.dec.levelLow := by
  rw [State.readSlot_enabled raw h hen, State.settleFrom_frame _ _ .dec (by decide), State.deliverHigh_levelLow]
  unfold State.reads
  rw [State.deliverResult_levelLow, State.raiseFlagIf_frame _ _ _ .dec (by decide)]

end Read

/-! ## The pass (R93) -/

theorem State.readSlotsFrom_append (a b : List (BitVec 12)) (i : Nat) (s : State) :
    State.readSlotsFrom i (a ++ b) s = State.readSlotsFrom (i + a.length) b (State.readSlotsFrom i a s) := by
  induction a generalizing i s with
  | nil => rfl
  | cons raw a ih =>
    rw [List.cons_append, List.length_cons, Nat.add_comm a.length, ← Nat.add_assoc]
    exact ih (i + 1) _

/-- The turn of slot i: the slots below it are read before, those above it after. -/
theorem State.readSlotsFrom_turn {raws : List (BitVec 12)} {i : Nat} {raw : BitVec 12} (h : raws[i]? = some raw) (s : State) :
    State.readSlotsFrom 0 raws s = State.readSlotsFrom (i + 1) (raws.drop (i + 1))
      ((State.readSlotsFrom 0 (raws.take i) s).readSlot i raw) := by
  obtain ⟨hi, heq⟩ := List.getElem?_eq_some_iff.mp h
  have hsplit : raws = raws.take i ++ raw :: raws.drop (i + 1) := by
    rw [← heq, ← List.drop_eq_getElem_cons hi, List.take_append_drop]
  have hlen : (raws.take i).length = i := List.length_take_of_le hi.le
  conv_lhs => rw [hsplit, State.readSlotsFrom_append, hlen, Nat.zero_add]
  rfl

/-- What every read of a pass keeps, the pass keeps; each slot is still unread at its turn. -/
theorem State.readSlotsFrom_induct {P : State → Prop} {i : Nat} {raws : List (BitVec 12)} {s : State} (hs : P s)
    (hread : ∀ j raw v, i ≤ j → raws[j - i]? = some raw → v.scan.slots[j]? = s.scan.slots[j]? → P v → P (v.readSlot j raw)) :
    P (State.readSlotsFrom i raws s) := by
  induction raws generalizing i s with
  | nil => exact hs
  | cons raw raws ih =>
    refine ih (hread i raw s le_rfl (by simp) rfl hs) fun j raw' v hij hraw hslot hv => ?_
    refine hread j raw' v (Nat.le_of_succ_le hij) ?_ ?_ hv
    · rw [show j - i = j - (i + 1) + 1 by omega, List.getElem?_cons_succ]
      exact hraw
    · have hne : i ≠ j := by omega
      rw [hslot, State.readSlot_scan]
      simp [hne]

end Sys2Proof.Machine
end

section
/-! A scan pass reads every enabled slot (R92, R93, R96, R97, R99, R102, R105). -/

namespace Sys2Proof.Machine

/-! ## One slot of a pass -/

theorem filter_single {α : Type} {p : α → Bool} {l : List α} (h : (l.filter p).length ≤ 1) {i j : Nat} {x y : α}
    (hi : l[i]? = some x) (hj : l[j]? = some y) (hx : p x = true) (hy : p y = true) : i = j := by
  induction l generalizing i j with
  | nil => cases hi
  | cons a l ih =>
    have halone (b : α) (hab : p a = true) (hb : b ∈ l) (hpb : p b = true) : False := by
      rw [List.filter_cons_of_pos hab, List.length_cons] at h
      have hnone := List.eq_nil_of_length_eq_zero (by omega : (l.filter p).length = 0)
      exact List.filter_eq_nil_iff.mp hnone b hb hpb
    cases i with
    | zero =>
      cases j with
      | zero => rfl
      | succ j =>
        cases hi
        exact (halone y hx (List.mem_of_getElem? hj) hy).elim
    | succ i =>
      cases j with
      | zero =>
        cases hj
        exact (halone x hy (List.mem_of_getElem? hi) hx).elim
      | succ j =>
        have hle : (l.filter p).length ≤ 1 := ((List.sublist_cons_self a l).filter p).length_le.trans h
        exact congrArg (· + 1) (ih hle hi hj)

theorem conditionStep_eq (active : Bool) (n : Nat) (beyond back : Bool) : conditionStep active n beyond back =
    if (if active then back else beyond) then (if n + 1 < 3 then (active, n + 1) else (!active, 0)) else (active, 0) := by
  have hcount : (if 3 ≤ n + 1 then (!active, 0) else (active, n + 1)) = if n + 1 < 3 then (active, n + 1) else (!active, 0) := by
    by_cases h : n + 1 < 3
    · rw [if_pos h, if_neg (by omega)]
    · rw [if_neg h, if_pos (by omega)]
  exact if_congr Iff.rfl hcount rfl

theorem ScanSlot.latchedNew_read {r : Nat} {sl : ScanSlot}
    (h : (sl.latchedHigh = false ∧ sl.cfg.high < r) ∨ (sl.latchedLow = false ∧ r < sl.cfg.low)) :
    sl.latchedNew (sl.read r) = true := by
  unfold ScanSlot.latchedNew ScanSlot.read
  obtain ⟨hlatched, hbeyond⟩ | ⟨hlatched, hbeyond⟩ := h <;> simp [hlatched, hbeyond]

/-! ## The state a pass starts from, and what it leaves -/

/-- The part as a pass begins to read. -/
def State.atPass (s : State) : State := { (s.reachAt s.scanDue).passWithoutCurrent with
  scan := { s.scan with lastPass := some (max s.clock s.scanDue) } }

theorem exec_scanPass (raws : List (BitVec 12)) (s : State) :
    exec (.scanPass raws) s = .next (State.readSlotsFrom 0 raws s.atPass) := rfl

theorem State.atPass_frame (s : State) : s.onlyChanges [.clock, .lamp, .scan] s.atPass := by
  refine (s.reachAt_frame s.scanDue).andThen (bs := [.lamp, .scan]) ?_ (by decide) (by decide)
  refine (State.passWithoutCurrent_frame _).andThen (bs := [.scan]) ?_ (by decide) (by decide)
  intro b hb; cases b <;> first | rfl | simp at hb

theorem State.atPass_clock (s : State) : s.atPass.clock = max s.clock s.scanDue :=
  State.passWithoutCurrent_frame (s.reachAt s.scanDue) .clock (by decide)

theorem State.readSlotsFrom_shape (i : Nat) (raws : List (BitVec 12)) (s : State) :
    (State.readSlotsFrom i raws s).clock = s.clock ∧ (State.readSlotsFrom i raws s).scan.lastPass = s.scan.lastPass
      ∧ (State.readSlotsFrom i raws s).scan.slots.length = s.scan.slots.length := by
  refine State.readSlotsFrom_induct
    (P := fun v => v.clock = s.clock ∧ v.scan.lastPass = s.scan.lastPass ∧ v.scan.slots.length = s.scan.slots.length)
    ⟨rfl, rfl, rfl⟩ fun j raw v _ _ _ ⟨hclock, hpass, hlength⟩ => ?_
  rw [State.readSlot_scan]
  exact ⟨(v.readSlot_items_clock j raw).2.trans hclock, hpass, (List.length_modify _ _ _).trans hlength⟩

/-- The other reads of a pass leave a slot alone. -/
theorem State.readSlotsFrom_other {i k : Nat} {raws : List (BitVec 12)} (hk : k < i ∨ i + raws.length ≤ k) (s : State) :
    (State.readSlotsFrom i raws s).scan.slots[k]? = s.scan.slots[k]? := by
  refine State.readSlotsFrom_induct (P := fun v => v.scan.slots[k]? = s.scan.slots[k]?) rfl fun j raw v hij hraw _ hv => ?_
  have hj : j - i < raws.length := (List.getElem?_eq_some_iff.mp hraw).1
  have hne : j ≠ k := by omega
  rw [State.readSlot_scan]
  simp [hne, hv]

section Turn
variable {s : State} {raws : List (BitVec 12)} {i : Nat} {raw : BitVec 12} {sl : ScanSlot}

/-- The state in which a slot's turn finds the part. -/
def State.atTurn (raws : List (BitVec 12)) (i : Nat) (s : State) : State := State.readSlotsFrom 0 (raws.take i) s.atPass

theorem State.atTurn_slot (raws : List (BitVec 12)) (i : Nat) (s : State) :
    (s.atTurn raws i).scan.slots[i]? = s.scan.slots[i]? :=
  (State.readSlotsFrom_other (i := 0) (raws := raws.take i) (.inr (by simp)) s.atPass).trans rfl

/-- After its turn the rest of the pass follows. -/
theorem exec_scanPass_turn (hraw : raws[i]? = some raw) (s : State) : exec (.scanPass raws) s =
    .next (State.readSlotsFrom (i + 1) (raws.drop (i + 1)) ((s.atTurn raws i).readSlot i raw)) := by
  rw [exec_scanPass, State.readSlotsFrom_turn hraw]
  rfl

/-- What the turn of slot i makes, and every read of another slot keeps, holds at the end of the pass. -/
theorem State.turn_induct {P : State → Prop} (hraw : raws[i]? = some raw) (s : State)
    (hturn : (s.atTurn raws i).scan.slots[i]? = s.scan.slots[i]? → P ((s.atTurn raws i).readSlot i raw))
    (hread : ∀ j raw v, j ≠ i → raws[j]? = some raw → v.scan.slots[j]? = s.scan.slots[j]? → P v → P (v.readSlot j raw)) :
    ∃ t, exec (.scanPass raws) s = .next t ∧ P t := by
  refine ⟨_, exec_scanPass_turn hraw s, State.readSlotsFrom_induct (hturn (s.atTurn_slot raws i)) fun j raw' v hij hraw' hslot hv => ?_⟩
  have hj : raws[j]? = some raw' := by
    rw [List.getElem?_drop, show i + 1 + (j - (i + 1)) = j by omega] at hraw'
    exact hraw'
  refine hread j raw' v (by omega) hj (hslot.trans ?_) hv
  have hother : ((s.atTurn raws i).readSlot i raw).scan.slots[j]? = (s.atTurn raws i).scan.slots[j]? := by
    have hne : i ≠ j := by omega
    rw [State.readSlot_scan]
    simp [hne]
  exact hother.trans ((State.readSlotsFrom_other (i := 0) (raws := raws.take i)
    (.inr (by rw [List.length_take]; omega)) s.atPass).trans rfl)

end Turn

theorem State.readSlot_th_other {v : State} {j : Nat} (raw : BitVec 12)
    (h : ∀ sl, v.scan.slots[j]? = some sl → sl.cfg.role ≠ .housing) : (v.readSlot j raw).cool.th = v.cool.th := by
  obtain hskip | ⟨sl, hsl, hen⟩ := v.readSlot_cases j
  · rw [hskip]
  · rw [State.readSlot_th raw hsl hen, if_neg (h sl hsl)]

theorem State.readSlot_levelLow_other {v : State} {j : Nat} (raw : BitVec 12)
    (h : ∀ sl, v.scan.slots[j]? = some sl → sl.cfg.role ≠ .cueLevel) : (v.readSlot j raw).dec.levelLow = v.dec.levelLow := by
  obtain hskip | ⟨sl, hsl, hen⟩ := v.readSlot_cases j
  · rw [hskip]
  · rw [State.readSlot_levelLow raw hsl hen, if_neg (h sl hsl)]

/-- Settles O30. -/
theorem scanPassReadsEveryEnabledSlot : Obligations.ScanPassReadsEveryEnabledSlot := by
  intro raws s dueAt turn
  have hdue : max s.clock s.scanDue = dueAt := by
    unfold State.scanDue dueAt
    cases s.scan.lastPass with
    | none => exact max_self _
    | some last => exact max_eq_right (le_max_left _ _)
  obtain ⟨hclock, hpass, hlength⟩ := State.readSlotsFrom_shape 0 raws s.atPass
  refine ⟨_, exec_scanPass raws s, hclock.trans (s.atPass_clock.trans hdue), hpass.trans (congrArg some hdue), hlength, ?_⟩
  intro i sl hsl raw hraw r high low
  have hends {P : State → Prop}
      (hturn : (s.atTurn raws i).scan.slots[i.val]? = some sl → P ((s.atTurn raws i).readSlot i raw))
      (hread : ∀ j raw v, j ≠ i.val → raws[j]? = some raw → v.scan.slots[j]? = s.scan.slots[j]? → P v → P (v.readSlot j raw)) :
      P (State.readSlotsFrom 0 raws s.atPass) := by
    obtain ⟨t, ht, hP⟩ := State.turn_induct (P := P) hraw s (fun h => hturn (h.trans hsl)) hread
    cases (exec_scanPass raws s).symm.trans ht
    exact hP
  have honly (role : Role) (hrole : sl.cfg.role = role)
      (hone : (s.scan.slots.filter (fun x => x.cfg.role == role)).length = 1) (j : Nat) (hj : j ≠ i.val) (x : ScanSlot)
      (hx : s.scan.slots[j]? = some x) : x.cfg.role ≠ role :=
    fun h => hj (filter_single hone.le hx hsl (beq_iff_eq.mpr h) (beq_iff_eq.mpr hrole))
  refine ⟨?_, fun hen hnew => ?_, fun hen hrole hone => ?_, fun hen hrole hone => ?_⟩
  · refine hends (P := fun v => v.scan.slots[i.val]? = _) (fun h => ?_) fun j raw v hj _ _ hv => ?_
    · rw [State.readSlot_scan, List.getElem?_modify_eq, h]
      show some (sl.passed raw) = _
      have hhigh : conditionStep sl.highCond sl.highCount (decide (sl.cfg.high < r)) (decide (r + 20 ≤ sl.cfg.high)) = high :=
        conditionStep_eq _ _ _ _
      have hlow : conditionStep sl.lowCond sl.lowCount (decide (r < sl.cfg.low)) (decide (sl.cfg.low + 20 ≤ r)) = low :=
        conditionStep_eq _ _ _ _
      rw [← hhigh, ← hlow]
      exact apply_ite some _ _ _
    · rw [State.readSlot_scan]
      simp [hj, hv]
  · refine hends (P := fun v => v.link.flags.limit = true) (fun h => ?_)
      fun j raw v _ _ _ hv => State.readSlot_keepsFlags raw j v .limit (by decide) hv
    exact State.readSlot_limit raw h hen (ScanSlot.latchedNew_read hnew)
  · refine hends (P := fun v => v.cool.th = some r) (fun h => ?_) fun j raw v hj _ hslot hv => ?_
    · rw [State.readSlot_th raw h hen, if_pos hrole]
      rfl
    · rw [State.readSlot_th_other raw fun x hx => honly .housing hrole hone j hj x (hslot.symm.trans hx), hv]
  · refine hends (P := fun v => v.dec.levelLow = sl.cfg.low) (fun h => ?_) fun j raw v hj _ hslot hv => ?_
    · rw [State.readSlot_levelLow raw h hen, if_pos hrole]
    · rw [State.readSlot_levelLow_other raw fun x hx => honly .cueLevel hrole hone j hj x (hslot.symm.trans hx), hv]

end Sys2Proof.Machine
end

section
/-! What a pass does beyond the slots: the live causes of the high conditions and the lamp failure test (R57, R99, R102,
R103, R142, R143). -/

namespace Sys2Proof.Machine

/-! ## Roles (R91) -/

theorem RoleLaw.apart {slots : List ScanSlot} (h : RoleLaw (slots.map ScanSlot.cfg)) {i j : Nat} {x y : ScanSlot}
    (hi : slots[i]? = some x) (hj : slots[j]? = some y) (hne : i ≠ j) (hx : x.cfg.role ≠ .none) :
    x.cfg.role ≠ y.cfg.role := by
  obtain ⟨_, hpair, _⟩ := h
  have hless {i j : Nat} {x y : ScanSlot} (hi : slots[i]? = some x) (hj : slots[j]? = some y) (hlt : i < j) :
      x.cfg.role = .none ∨ x.cfg.role ≠ y.cfg.role := by
    obtain ⟨hi', rfl⟩ := List.getElem?_eq_some_iff.mp hi
    obtain ⟨hj', rfl⟩ := List.getElem?_eq_some_iff.mp hj
    exact List.pairwise_iff_getElem.mp (List.pairwise_map.mp hpair) i j hi' hj' hlt
  obtain hlt | hlt := Nat.lt_or_gt_of_ne hne
  · exact (hless hi hj hlt).resolve_left hx
  · intro heq
    obtain hnone | hdiff := hless hj hi hlt
    · exact hx (heq.trans hnone)
    · exact hdiff heq.symm

theorem RoleLaw.enabled {slots : List ScanSlot} (h : RoleLaw (slots.map ScanSlot.cfg)) {x : ScanSlot} (hx : x ∈ slots)
    (hrole : x.cfg.role ≠ .none) : x.cfg.enable = true :=
  h.2.2.1 _ (List.mem_map_of_mem hx) hrole

/-! ## A high condition that stands (R99) -/

/-- A third read in a row turns a condition (R99). -/
theorem conditionStep_turns (active : Bool) (n : Nat) (beyond back : Bool) : (conditionStep active n beyond back).1 =
    if 2 ≤ n ∧ (if active then back else beyond) = true then !active else active := by
  rw [conditionStep_eq]
  by_cases hcounts : (if active then back else beyond) = true
  · rw [if_pos hcounts]
    by_cases hthird : n + 1 < 3
    · rw [if_pos hthird, if_neg (by omega)]
    · rw [if_neg hthird, if_pos ⟨by omega, hcounts⟩]
  · rw [if_neg hcounts, if_neg fun h => hcounts h.2]

/-- The read that turns the high condition of a slot. -/
def ScanSlot.turns (r : Nat) (sl : ScanSlot) : Prop :=
  2 ≤ sl.highCount ∧ (if sl.highCond = true then r + 20 ≤ sl.cfg.high else sl.cfg.high < r)

theorem ScanSlot.read_highCond (r : Nat) (sl : ScanSlot) :
    (sl.turns r → (sl.read r).highCond = !sl.highCond) ∧ (¬sl.turns r → (sl.read r).highCond = sl.highCond) := by
  have hcond : (sl.read r).highCond = (conditionStep sl.highCond sl.highCount (decide (sl.cfg.high < r))
      (decide (r + 20 ≤ sl.cfg.high))).1 := rfl
  have hiff : (if sl.highCond = true then r + 20 ≤ sl.cfg.high else sl.cfg.high < r)
      ↔ (if sl.highCond then decide (r + 20 ≤ sl.cfg.high) else decide (sl.cfg.high < r)) = true := by
    cases sl.highCond <;> exact decide_eq_true_iff.symm
  rw [hcond, conditionStep_turns, ScanSlot.turns, hiff]
  exact ⟨fun h => if_pos h, fun h => if_neg h⟩

/-! ## The part at rest in the Protect Unit -/

/-- Nothing was raised, cleared or crossed on the way from s to t. -/
structure State.QuietTo (s t : State) : Prop where
  frame : s.onlyChanges [.clock, .scan, .link, .cool, .lamp, .dec, .prot, .store] t
  stack : t.prot.stack = s.prot.stack
  pl : t.prot.pl = s.prot.pl
  last : t.prot.last = s.prot.last
  active : ∀ c, c ≠ .fanStall → t.prot.active.get c = s.prot.active.get c
  flags : s.keepsFlags t

theorem State.QuietTo.of_prot {s t : State} (hframe : s.onlyChanges [.clock, .scan, .link, .cool, .lamp, .dec, .store] t)
    (hflags : s.keepsFlags t) : s.QuietTo t := by
  have hprot : t.prot = s.prot := hframe .prot (by decide)
  exact ⟨hframe.mono (by decide), by rw [hprot], by rw [hprot], by rw [hprot], fun c _ => by rw [hprot], hflags⟩

theorem State.QuietTo.refl (s : State) : s.QuietTo s := .of_prot (.refl _ s) (.refl s)

theorem State.QuietTo.trans {s t u : State} (h1 : s.QuietTo t) (h2 : t.QuietTo u) : s.QuietTo u :=
  ⟨h1.frame.trans h2.frame, h2.stack.trans h1.stack, h2.pl.trans h1.pl, h2.last.trans h1.last,
    fun c hc => (h2.active c hc).trans (h1.active c hc), h1.flags.trans h2.flags⟩

/-- A settling may end the fan's cause and no other (R81). -/
theorem State.settleFrom_active (s t : State) {c : Cause} (hc : c ≠ .fanStall) :
    (s.settleFrom t).prot.active.get c = t.prot.active.get c := by
  have h : ((t.driveChanged s.drive).offChanged s.offReady).prot = t.prot :=
    (driveChanged_frame _ _).andThen (cs := [.cool, .lamp, .store]) (offChanged_frame _ _) (by decide) (by decide)
      .prot (by decide)
  have hlife : (s.settleFrom t).prot = (((t.driveChanged s.drive).offChanged s.offReady).dutyChanged s.duty).prot :=
    raiseFlagIf_frame _ _ _ .prot (by decide)
  rw [hlife, ← h]
  generalize (t.driveChanged s.drive).offChanged s.offReady = u
  unfold State.dutyChanged
  split_ifs
  · rfl
  · rfl
  · cases c with
    | fanStall => exact absurd rfl hc
    | _ => rfl
  · rfl

theorem State.settleFrom_quiet_prot (s t : State) : t.QuietTo (s.settleFrom t) := by
  obtain ⟨hstack, hpl, hlast⟩ := s.settleFrom_prot t
  exact ⟨(s.settleFrom_frame t).mono (by decide), hstack, hpl, hlast, fun c hc => s.settleFrom_active t hc,
    s.settleFrom_keepsFlags t⟩

section Read
variable {s : State} {i : Nat} {sl : ScanSlot} (raw : BitVec 12)

theorem State.reads_quiet (i : Nat) (sl : ScanSlot) (r : Nat) (s : State) : s.QuietTo (s.reads i sl r) :=
  .of_prot ((s.reads_frame i sl r).mono (by decide)) (s.reads_keepsFlags i sl r)

/-- A read in which the high condition does not turn reaches the Protect Unit in nothing. -/
theorem State.readSlot_quiet (h : ∀ sl, s.scan.slots[i]? = some sl → sl.cfg.enable = true →
    ¬sl.turns (slotResult sl.cfg raw.toNat)) : s.QuietTo (s.readSlot i raw) := by
  obtain hskip | ⟨sl, hsl, hen⟩ := s.readSlot_cases i
  · rw [hskip]
    exact .refl s
  · have hstays (u : State) : u.deliverHigh sl.cfg.role sl.highCond sl.highCond = u := by
      unfold State.deliverHigh
      split
      · rfl
      · exact if_pos rfl
    rw [State.readSlot_enabled raw hsl hen, (ScanSlot.read_highCond _ sl).2 (h sl hsl hen), hstays]
    exact (s.reads_quiet i sl _).trans (State.settleFrom_quiet_prot _ _)

/-- A high condition that becomes active raises the cause of its role (R102, R103, R143). -/
theorem State.readSlot_raises {c : Cause} (hsl : s.scan.slots[i]? = some sl) (hen : sl.cfg.enable = true)
    (hcond : sl.highCond = false) (hturns : sl.turns (slotResult sl.cfg raw.toNat)) (hcause : sl.cfg.role.cause = some c)
    (hfan : c ≠ .fanStall) (hoff : s.prot.active.get c = false) (hfree : ∀ e ∈ s.prot.stack, e.cause ≠ c) :
    s.raisedBy c c.minLevel (s.readSlot i raw) ∧ (s.readSlot i raw).prot.active.get c = (s.prot.active.put c true).get c := by
  have hframe := s.reads_frame i sl (slotResult sl.cfg raw.toNat)
  have hprot : (s.reads i sl (slotResult sl.cfg raw.toNat)).prot = s.prot := hframe .prot (by decide)
  have hdeliver (u : State) : u.deliverHigh sl.cfg.role sl.highCond (sl.read (slotResult sl.cfg raw.toNat)).highCond
      = u.liveActive c := by
    rw [(ScanSlot.read_highCond _ sl).1 hturns, hcond]
    unfold State.deliverHigh
    rw [hcause]
    rfl
  obtain ⟨hraised, hactive⟩ := State.liveActive_raisedBy (c := c) (s := s.reads i sl (slotResult sl.cfg raw.toNat))
    (by rw [hprot]; exact hoff) (by rw [hprot]; exact hfree)
  rw [State.readSlot_enabled raw hsl hen, hdeliver]
  refine ⟨State.raisedBy_congr hprot (congrArg (·.uptime) (hframe .usage (by decide))) (hframe .tape (by decide))
    (hraised.settle s), ?_⟩
  rw [State.settleFrom_active _ _ hfan, hactive, hprot]

end Read

/-- What a raise made stands while nothing else reaches the Protect Unit, and counts from before it too. -/
theorem State.raisedBy.quiet {c : Cause} {least : Nat} {s u v t : State} (hbefore : s.QuietTo u)
    (h : u.raisedBy c least v) (hafter : v.QuietTo t) : s.raisedBy c least t := by
  obtain ⟨hpl, hstack, hlast, hflag, hsafe, hlockout⟩ := h
  have husage : u.usage = s.usage := hbefore.frame .usage (by decide)
  have htape : u.tape = s.tape := hbefore.frame .tape (by decide)
  rw [hbefore.pl] at hpl hstack hlast hsafe hlockout
  rw [hbefore.stack, husage] at hstack
  rw [hbefore.last, husage] at hlast
  rw [htape] at hlockout
  refine ⟨hafter.pl.trans hpl, hafter.stack.trans hstack, hafter.last.trans hlast,
    hafter.flags .fault (by decide) hflag, fun hlow hle => ?_, fun hlow hle hne => ?_⟩
  · rw [show t.arb = v.arb from hafter.frame .arb (by decide), show t.cue = v.cue from hafter.frame .cue (by decide),
      show t.tape = v.tape from hafter.frame .tape (by decide)]
    exact hsafe hlow hle
  · rw [show t.tape = v.tape from hafter.frame .tape (by decide)]
    exact hlockout hlow hle hne

/-! ## The lamp failure test (R57) -/

/-- What the drive reads of the lamp, and the failure test writes of it. -/
structure LampDrive.AgreesWith (l m : LampDrive) : Prop where
  switch : m.switch = l.switch
  failed : m.failed = l.failed
  failCount : m.failCount = l.failCount
  guardEngaged : m.guardEngaged = l.guardEngaged
  mainsNormal : m.mainsNormal = l.mainsNormal

theorem LampDrive.AgreesWith.of_eq {l m : LampDrive} (h : m = l) : l.AgreesWith m := by
  subst h
  exact ⟨rfl, rfl, rfl, rfl, rfl⟩

theorem LampDrive.AgreesWith.trans {l m n : LampDrive} (h1 : l.AgreesWith m) (h2 : m.AgreesWith n) : l.AgreesWith n :=
  ⟨h2.switch.trans h1.switch, h2.failed.trans h1.failed, h2.failCount.trans h1.failCount,
    h2.guardEngaged.trans h1.guardEngaged, h2.mainsNormal.trans h1.mainsNormal⟩

theorem State.settleFrom_lampAgrees (s t : State) : t.lamp.AgreesWith (s.settleFrom t).lamp := by
  rw [State.settleFrom_lamp]
  split_ifs <;> exact ⟨rfl, rfl, rfl, rfl, rfl⟩

section Lamp
variable {s : State} {i : Nat} {sl : ScanSlot} (raw : BitVec 12)

/-- A read of a slot without LAMP-CURRENT leaves the lamp to its settling. -/
theorem State.readSlot_lamp_other (h : ∀ sl, s.scan.slots[i]? = some sl → sl.cfg.enable = true → sl.cfg.role ≠ .lampCurrent) :
    s.lamp.AgreesWith (s.readSlot i raw).lamp := by
  obtain hskip | ⟨sl, hsl, hen⟩ := s.readSlot_cases i
  · rw [hskip]
    exact .of_eq rfl
  · have hresult (u : State) (r low : Nat) : (u.deliverResult sl.cfg.role r low).lamp = u.lamp := by
      cases hrole : sl.cfg.role with
      | lampCurrent => exact absurd hrole (h sl hsl hen)
      | housing => exact State.testCooldownEnd_frame _ .lamp (by decide)
      | cueLevel | none | gate | supply => rfl
    rw [State.readSlot_enabled raw hsl hen]
    refine .trans (.of_eq ?_) (State.settleFrom_lampAgrees _ _)
    rw [State.deliverHigh_frame _ _ _ _ .lamp (by decide)]
    unfold State.reads
    rw [hresult, State.raiseFlagIf_frame _ _ _ .lamp (by decide)]

/-- The failure test, counted (R57). -/
theorem State.failureTest_eq {r low : Nat} (hok : s.lamp.failed = false) :
    let counts := s.lamp.mainsNormal = true ∧ 200 ≤ s.drive ∧ r < low
    (s.failureTest r low).lamp.failCount = (if counts ∧ s.lamp.failCount < 2 then s.lamp.failCount + 1 else 0)
      ∧ (s.failureTest r low).lamp.failed = decide (counts ∧ 2 ≤ s.lamp.failCount)
      ∧ (counts → 2 ≤ s.lamp.failCount → (s.failureTest r low).link.flags.lamp = true) := by
  intro counts
  have hnormal : (s.lampNormal = true ∧ 200 ≤ s.drive ∧ r < low) ↔ counts := by
    unfold State.lampNormal counts
    rw [hok]
    rfl
  have htest : s.failureTest r low = if counts then
      if 3 ≤ s.lamp.failCount + 1 then
        { s with lamp := { s.lamp with failed := true, failCount := 0 } }.raiseFlag .lamp
      else { s with lamp := { s.lamp with failCount := s.lamp.failCount + 1 } }
    else { s with lamp := { s.lamp with failCount := 0 } } :=
    (if_neg (by rw [hok]; decide)).trans (if_congr hnormal rfl rfl)
  by_cases hcounts : counts
  · rw [if_pos hcounts] at htest
    by_cases hthird : 2 ≤ s.lamp.failCount
    · rw [htest, if_pos (by omega), if_neg (by omega)]
      exact ⟨rfl, (decide_eq_true ⟨hcounts, hthird⟩).symm, fun _ _ => rfl⟩
    · rw [htest, if_neg (by omega), if_pos ⟨hcounts, by omega⟩]
      exact ⟨rfl, hok.trans (decide_eq_false fun h => hthird h.2).symm, fun _ h => absurd h hthird⟩
  · rw [htest, if_neg hcounts, if_neg fun h => hcounts h.1]
    exact ⟨rfl, hok.trans (decide_eq_false fun h => hcounts h.1).symm, fun h => absurd h hcounts⟩

/-- The LAMP-CURRENT read is the failure test at the drive of its turn (R57, R93). -/
theorem State.readSlot_failureTest (hsl : s.scan.slots[i]? = some sl) (hen : sl.cfg.enable = true)
    (hrole : sl.cfg.role = .lampCurrent) (hok : s.lamp.failed = false) :
    let counts := s.lamp.mainsNormal = true ∧ 200 ≤ s.drive ∧ slotResult sl.cfg raw.toNat < sl.cfg.low
    (s.readSlot i raw).lamp.failCount = (if counts ∧ s.lamp.failCount < 2 then s.lamp.failCount + 1 else 0)
      ∧ (s.readSlot i raw).lamp.failed = decide (counts ∧ 2 ≤ s.lamp.failCount)
      ∧ (counts → 2 ≤ s.lamp.failCount → (s.readSlot i raw).link.flags.lamp = true) := by
  intro counts
  set u := State.raiseFlagIf (sl.latchedNew (sl.read (slotResult sl.cfg raw.toNat))) .limit
    { s with scan := { s.scan with slots := s.scan.slots.set i (sl.read (slotResult sl.cfg raw.toNat)) } } with hu
  have hframe : s.onlyChanges [.scan, .link] u := by
    refine State.onlyChanges.andThen (as := [.scan]) ?_ (State.raiseFlagIf_frame _ _ _) (by decide) (by decide)
    intro b hb; cases b <;> first | rfl | simp at hb
  have hlamp : u.lamp = s.lamp := hframe .lamp (by decide)
  have hreads : s.reads i sl (slotResult sl.cfg raw.toNat) = u.failureTest (slotResult sl.cfg raw.toNat) sl.cfg.low := by
    unfold State.reads
    rw [hrole, hu]
    rfl
  obtain ⟨hcount, hfailed, hflag⟩ := State.failureTest_eq (s := u) (r := slotResult sl.cfg raw.toNat) (low := sl.cfg.low)
    (by rw [hlamp]; exact hok)
  rw [hlamp, State.drive_of_frame hframe (by decide)] at hcount hfailed hflag
  rw [State.readSlot_enabled raw hsl hen, hreads]
  have hagrees := State.settleFrom_lampAgrees s ((u.failureTest (slotResult sl.cfg raw.toNat) sl.cfg.low).deliverHigh
    sl.cfg.role sl.highCond (sl.read (slotResult sl.cfg raw.toNat)).highCond)
  have hhigh := State.deliverHigh_frame sl.cfg.role sl.highCond (sl.read (slotResult sl.cfg raw.toNat)).highCond
    (u.failureTest (slotResult sl.cfg raw.toNat) sl.cfg.low) .lamp (by decide)
  refine ⟨hagrees.failCount.trans ((congrArg (·.failCount) hhigh).trans hcount),
    hagrees.failed.trans ((congrArg (·.failed) hhigh).trans hfailed), fun hc hthird => ?_⟩
  exact (State.deliverHigh_keepsFlags _ _ _ _).trans (State.settleFrom_keepsFlags _ _) .lamp (by decide) (hflag hc hthird)

end Lamp

theorem State.drive_of_failed {s : State} (h : s.lamp.failed = true) : s.drive = 0 := by
  have hceiling : s.failedCeiling = 0 := if_pos h
  unfold State.drive State.effective State.ceiling
  rw [if_neg (by simp [h]), hceiling]
  simp

end Sys2Proof.Machine
end

section
/-! The third pass beyond a limit raises the cause of the role, and the third counting pass fails the lamp (R57, R99, R102,
R103, R143). -/

namespace Sys2Proof.Machine

theorem State.atPass_lamp (s : State) : s.atPass.lamp =
    if s.scan.slots.any (fun sl => sl.cfg.enable && sl.cfg.role == .lampCurrent) then s.lamp
    else { s.lamp with failCount := 0 } := by
  have h : s.atPass.lamp = (s.reachAt s.scanDue).passWithoutCurrent.lamp := rfl
  rw [h]
  unfold State.passWithoutCurrent
  exact apply_ite State.lamp _ _ _

section Turn
variable {s : State} {raws : List (BitVec 12)} {i : Nat}

/-- What holds as the pass begins, and every read below slot i keeps, holds at the turn of slot i. -/
theorem State.atTurn_induct {P : State → Prop} (hstart : P s.atPass)
    (hread : ∀ j raw v, j < i → raws[j]? = some raw → v.scan.slots[j]? = s.scan.slots[j]? → P v → P (v.readSlot j raw)) :
    P (s.atTurn raws i) := by
  refine State.readSlotsFrom_induct hstart fun j raw v _ hraw hslot hv => ?_
  rw [Nat.sub_zero, List.getElem?_take] at hraw
  split_ifs at hraw with hj
  exact hread j raw v hj hraw hslot hv

theorem State.atTurn_succ {raw : BitVec 12} (h : raws[i]? = some raw) (s : State) :
    s.atTurn raws (i + 1) = (s.atTurn raws i).readSlot i raw := by
  obtain ⟨hi, heq⟩ := List.getElem?_eq_some_iff.mp h
  have hlen : (raws.take i).length = i := List.length_take_of_le hi.le
  unfold State.atTurn
  rw [List.take_succ_eq_append_getElem hi, State.readSlotsFrom_append, hlen, heq, Nat.zero_add]
  rfl

end Turn

/-- The HOUSING result that the turn of slot j delivers (R102). -/
def housingHeard (slots : List ScanSlot) (raws : List (BitVec 12)) (j : Nat) : Option Nat :=
  slots[j]?.elim none fun x => raws[j]?.elim none fun c =>
    if x.cfg.role = .housing then some (slotResult x.cfg c.toNat) else none

theorem housingHeard_isSome {slots : List ScanSlot} {raws : List (BitVec 12)} {j : Nat}
    (h : (housingHeard slots raws j).isSome) : ∃ x, slots[j]? = some x ∧ x.cfg.role = .housing := by
  unfold housingHeard at h
  cases hx : slots[j]? with
  | none =>
    rw [hx] at h
    cases h
  | some x =>
    refine ⟨x, rfl, ?_⟩
    by_contra hrole
    rw [hx] at h
    cases hc : raws[j]? with
    | none =>
      rw [hc] at h
      cases h
    | some c =>
      rw [hc] at h
      exact absurd h (by simp [hrole])

/-- The one value heard on the way replaces the first. -/
theorem heard_eq {f g : Nat → Option Nat} {n : Nat} (hone : ∀ j k, (f j).isSome → (f k).isSome → j = k)
    (hstep : ∀ k, k < n → g (k + 1) = if (f k).isSome then f k else g k) :
    g n = if ((List.range n).findSome? f).isSome then (List.range n).findSome? f else g 0 := by
  induction n with
  | zero => rfl
  | succ n ih =>
    rw [hstep n (Nat.lt_succ_self n), List.range_succ, List.findSome?_append]
    have hlast : [n].findSome? f = f n := by
      rw [List.findSome?_cons]
      cases f n <;> rfl
    rw [hlast]
    cases hfn : f n with
    | none =>
      rw [Option.or_none]
      exact ih fun k hk => hstep k (Nat.lt_succ_of_lt hk)
    | some v =>
      have hnone : (List.range n).findSome? f = none := by
        rw [List.findSome?_eq_none_iff]
        intro j hj
        by_contra hsome
        have heq := hone j n (Option.isSome_iff_ne_none.mpr hsome) (by rw [hfn]; rfl)
        exact absurd (List.mem_range.mp hj) (by omega)
      rw [hnone]
      rfl

/-- Settles O31. -/
theorem thirdPassBeyondTheLimitActs : Obligations.ThirdPassBeyondTheLimitActs := by
  refine ⟨fun raws s hnone => ?_, ?_⟩
  · have hany : ¬s.scan.slots.any (fun sl => sl.cfg.enable && sl.cfg.role == .lampCurrent) = true := by
      rw [List.any_eq_true]
      rintro ⟨sl, hsl, h⟩
      exact hnone sl hsl (by simpa using h)
    have hstart : s.atPass.lamp = { s.lamp with failCount := 0 } := s.atPass_lamp.trans (if_neg hany)
    obtain ⟨hcount, hfailed⟩ := State.readSlotsFrom_induct (i := 0) (raws := raws) (s := s.atPass)
      (P := fun v => v.lamp.failCount = 0 ∧ v.lamp.failed = s.lamp.failed) (by rw [hstart]; exact ⟨rfl, rfl⟩)
      fun j raw v _ _ hslot hv => by
        have hagrees := State.readSlot_lamp_other (s := v) (i := j) raw fun x hx hen hrole =>
          hnone x (List.mem_of_getElem? (hslot.symm.trans hx)) ⟨hen, hrole⟩
        exact ⟨hagrees.failCount.trans hv.1, hagrees.failed.trans hv.2⟩
    exact ⟨_, exec_scanPass raws s, hcount, hfailed⟩
  · intro raws s hroles i sl hsl raw hraw hen result turns hothers
    have hlen : s.scan.slots.length = 8 := (List.length_map _).symm.trans hroles.1
    have hquiet (j : Nat) (c : BitVec 12) (v : State) (hj : j ≠ i.val) (hc : raws[j]? = some c)
        (hslot : v.scan.slots[j]? = s.scan.slots[j]?) : v.QuietTo (v.readSlot j c) := by
      refine State.readSlot_quiet c fun x hx hxen hturns => ?_
      have hx' := hslot.symm.trans hx
      have hj8 : j < 8 := by
        exact hlen ▸ (List.getElem?_eq_some_iff.mp hx').1
      exact hothers ⟨j, hj8⟩ (fun h => hj (congrArg Fin.val h)) x hx' c hc ⟨hxen, hturns⟩
    have hbefore : s.QuietTo (s.atTurn raws i) :=
      State.atTurn_induct (P := fun v => s.QuietTo v) (.of_prot (s.atPass_frame.mono (by decide)) (.of_link (s.atPass_frame .link (by decide))))
        fun j c v hj hc hslot hv => hv.trans (hquiet j c v (Nat.ne_of_lt hj) hc hslot)
    have hslot : (s.atTurn raws i).scan.slots[i.val]? = some sl := (s.atTurn_slot raws i).trans hsl
    refine ⟨fun hcond hturns => ?_, fun hrole hok => ?_⟩
    · obtain ⟨t, ht, hafter⟩ := State.turn_induct (P := fun v => ((s.atTurn raws i).readSlot i raw).QuietTo v) hraw s
        (fun _ => .refl _) fun j c v hj hc hslot hv => hv.trans (hquiet j c v hj hc hslot)
      have hraises {c : Cause} (hcause : sl.cfg.role.cause = some c) (hfan : c ≠ .fanStall)
          (hput : ∀ a : LiveActivity, (a.put c true).get c = true) (hoff : s.prot.active.get c = false)
          (hfree : ∀ e ∈ s.prot.stack, e.cause ≠ c) :
          t.prot.active.get c = true ∧ s.raisedBy c c.minLevel t := by
        obtain ⟨hraised, hactive⟩ := State.readSlot_raises raw hslot hen hcond hturns.2 hcause hfan
          ((hbefore.active c hfan).trans hoff) (by rw [hbefore.stack]; exact hfree)
        exact ⟨(hafter.active c hfan).trans (hactive.trans (hput _)), hraised.quiet hbefore hafter⟩
      refine ⟨fun hrole hoff hfree => ⟨t, ht, ?_⟩, fun hrole hoff hfree => ⟨t, ht, ?_⟩, fun hrole hoff hfree => ⟨t, ht, ?_⟩⟩
      · exact hraises (c := .housingOvertemp) (by rw [hrole]; rfl) (by decide) (fun _ => rfl) hoff hfree
      · exact hraises (c := .gateOvertemp) (by rw [hrole]; rfl) (by decide) (fun _ => rfl) hoff hfree
      · exact hraises (c := .lampOvercurrent) (by rw [hrole]; rfl) (by decide) (fun _ => rfl) hoff hfree
    · intro heard drive counts
      have hother (j : Nat) (c : BitVec 12) (v : State) (hj : j ≠ i.val) (hslot : v.scan.slots[j]? = s.scan.slots[j]?) :
          v.lamp.AgreesWith (v.readSlot j c).lamp :=
        State.readSlot_lamp_other c fun x hx _ hxrole =>
          hroles.apart hsl (hslot.symm.trans hx) hj.symm (by rw [hrole]; decide) (hrole.trans hxrole.symm)
      have hstart : s.atPass.lamp = s.lamp := by
        refine s.atPass_lamp.trans (if_pos (List.any_eq_true.mpr ⟨sl, List.mem_of_getElem? hsl, ?_⟩))
        rw [hen, hrole]
        rfl
      have hlamp : s.lamp.AgreesWith (s.atTurn raws i).lamp :=
        State.atTurn_induct (P := fun v => s.lamp.AgreesWith v.lamp) (.of_eq hstart)
          fun j c v hj _ hslot hv => hv.trans (hother j c v (Nat.ne_of_lt hj) hslot)
      have hth : (s.atTurn raws i).cool.th = if heard.isSome then heard else s.cool.th := by
        have hzero : (s.atTurn raws 0).cool.th = s.cool.th := congrArg (·.th) (s.atPass_frame .cool (by decide))
        have heard_def : heard = (List.range i.val).findSome? (housingHeard s.scan.slots raws) := by
          refine congrArg (fun f => (List.range i.val).findSome? f) (funext fun j => ?_)
          unfold housingHeard
          cases s.scan.slots[j]? with
          | none => rfl
          | some x => cases raws[j]? <;> rfl
        rw [← hzero, heard_def]
        refine heard_eq (f := housingHeard s.scan.slots raws) (g := fun k => (s.atTurn raws k).cool.th)
          (fun j k hj hk => ?_) fun k hk => ?_
        · obtain ⟨x, hx, hxrole⟩ := housingHeard_isSome hj
          obtain ⟨y, hy, hyrole⟩ := housingHeard_isSome hk
          by_contra hne
          exact hroles.apart hx hy hne (by rw [hxrole]; decide) (hxrole.trans hyrole.symm)
        · have hkraws : k < raws.length := hk.trans (List.getElem?_eq_some_iff.mp hraw).1
          have hkslots : k < s.scan.slots.length := hlen ▸ hk.trans i.isLt
          have hc : raws[k]? = some raws[k] := List.getElem?_eq_getElem hkraws
          have hx : s.scan.slots[k]? = some s.scan.slots[k] := List.getElem?_eq_getElem hkslots
          have hxturn : (s.atTurn raws k).scan.slots[k]? = some s.scan.slots[k] := (s.atTurn_slot raws k).trans hx
          have hheard : housingHeard s.scan.slots raws k = if s.scan.slots[k].cfg.role = .housing then
              some (slotResult s.scan.slots[k].cfg raws[k].toNat) else none := by
            unfold housingHeard
            rw [hx, hc]
            rfl
          rw [State.atTurn_succ hc, hheard]
          by_cases hxrole : s.scan.slots[k].cfg.role = .housing
          · have hxen := hroles.enabled (List.mem_of_getElem? hx) (by rw [hxrole]; decide)
            rw [State.readSlot_th _ hxturn hxen, if_pos hxrole, if_pos hxrole]
            rfl
          · rw [if_neg hxrole, State.readSlot_th_other _ fun y hy => by
              rw [hxturn] at hy
              cases hy
              exact hxrole]
            rfl
      have hdrive : (s.atTurn raws i).drive = drive :=
        State.drive_congr (congrArg (fun f : FadeEngine => f.lamp.level) (hbefore.frame .fade (by decide))) hlamp.switch
          hlamp.failed hlamp.guardEngaged hth (hbefore.frame .items (by decide)) hbefore.pl
      obtain ⟨hcount, hfailed, hflag⟩ := State.readSlot_failureTest raw hslot hen hrole (hlamp.failed.trans hok)
      rw [hlamp.mainsNormal, hlamp.failCount, hdrive] at hcount hfailed hflag
      obtain ⟨t, ht, hagrees, hflags⟩ := State.turn_induct
        (P := fun v => ((s.atTurn raws i).readSlot i raw).lamp.AgreesWith v.lamp
          ∧ ((s.atTurn raws i).readSlot i raw).keepsFlags v) hraw s (fun _ => ⟨.of_eq rfl, .refl _⟩)
        fun j c v hj _ hslot hv => ⟨hv.1.trans (hother j c v hj hslot), hv.2.trans (v.readSlot_keepsFlags c j)⟩
      refine ⟨t, ht, hagrees.failCount.trans hcount, hagrees.failed.trans hfailed, fun hc hthird =>
        ⟨hflags .lamp (by decide) (hflag hc hthird), State.drive_of_failed ?_⟩⟩
      exact (hagrees.failed.trans hfailed).trans (decide_eq_true ⟨hc, hthird⟩)

end Sys2Proof.Machine
end

section
/-! CLEAR-FAULT: the pop, what is raised again, and what the changer hears (R17, R151, R152). -/

namespace Sys2Proof.Machine

/-! ## What is raised again (R152) -/

/-- One live cause is looked at after a pop. -/
def State.raisesAgain (t : State) (c : Cause) : State :=
  if t.prot.active.get c ∧ stacked c t.prot.stack = false then t.recordRaise c else t

theorem State.reraise_eq (s : State) : s.reraise = liveCauses.foldl State.raisesAgain s := rfl

theorem stacked_false_iff {c : Cause} {l : List FaultEntry} : stacked c l = false ↔ ∀ x ∈ l, x.cause ≠ c := by
  simp [stacked]

theorem stacked_cons (c : Cause) (e : FaultEntry) (l : List FaultEntry) :
    stacked c (e :: l) = (e.cause == c || stacked c l) := rfl

/-- A raise stacks its own cause and leaves the others as they are. -/
theorem State.stacked_recordRaise {c d : Cause} (h : d ≠ c) (s : State) :
    stacked d (s.recordRaise c).prot.stack = stacked d s.prot.stack := by
  obtain ⟨_, hstack, _⟩ := s.recordRaise_spec c
  rw [hstack]
  split_ifs
  · rw [stacked_cons, beq_eq_false_iff_ne.mpr h.symm, Bool.false_or]
  · rfl

theorem State.stacked_recordRaise_of {c d : Cause} {s : State} (h : stacked d s.prot.stack = true) :
    stacked d (s.recordRaise c).prot.stack = true := by
  obtain ⟨_, hstack, _⟩ := s.recordRaise_spec c
  rw [hstack]
  split_ifs
  · rw [stacked_cons, h, Bool.or_true]
  · exact h

theorem State.recordRaise_pl_le (c : Cause) (s : State) : s.prot.pl ≤ (s.recordRaise c).prot.pl := by
  obtain ⟨hpl, _⟩ := s.recordRaise_spec c
  rw [hpl]
  split_ifs <;> omega

theorem State.recordRaise_minLevel (c : Cause) (s : State) : min 3 c.minLevel ≤ (s.recordRaise c).prot.pl := by
  obtain ⟨hpl, _⟩ := s.recordRaise_spec c
  rw [hpl]
  split_ifs <;> omega

theorem State.raisesAgain_active (c : Cause) (s : State) : (s.raisesAgain c).prot.active = s.prot.active := by
  unfold State.raisesAgain
  split_ifs
  · exact (s.recordRaise_spec c).2.2.1
  · rfl

theorem State.raisesAgain_skips {c : Cause} {s : State}
    (h : ¬(s.prot.active.get c = true ∧ stacked c s.prot.stack = false)) : s.raisesAgain c = s := if_neg h

/-- A cause that is stacked, or whose level stands, stays so. -/
def State.meets (c : Cause) (s : State) : Prop := stacked c s.prot.stack = true ∨ min 3 c.minLevel ≤ s.prot.pl

theorem State.meets.raisesAgain {c : Cause} {s : State} (h : s.meets c) (d : Cause) : (s.raisesAgain d).meets c := by
  unfold State.raisesAgain
  split_ifs
  · exact h.imp State.stacked_recordRaise_of fun hle => hle.trans (s.recordRaise_pl_le d)
  · exact h

theorem State.foldl_raisesAgain_skips {l : List Cause} {s : State}
    (h : ∀ d ∈ l, ¬(s.prot.active.get d = true ∧ stacked d s.prot.stack = false)) : l.foldl State.raisesAgain s = s := by
  induction l with
  | nil => rfl
  | cons d l ih =>
    obtain ⟨hd, hl⟩ := List.forall_mem_cons.mp h
    rw [List.foldl_cons, State.raisesAgain_skips hd]
    exact ih hl

theorem State.foldl_raisesAgain_active (l : List Cause) (s : State) :
    (l.foldl State.raisesAgain s).prot.active = s.prot.active := by
  induction l generalizing s with
  | nil => rfl
  | cons d l ih => exact (ih _).trans (s.raisesAgain_active d)

theorem State.foldl_raisesAgain_meets {l : List Cause} {c : Cause} {s : State} (hc : c ∈ l)
    (hactive : s.prot.active.get c = true) : (l.foldl State.raisesAgain s).meets c := by
  have hkeeps (l : List Cause) (u : State) (hu : u.meets c) : (l.foldl State.raisesAgain u).meets c := by
    induction l generalizing u with
    | nil => exact hu
    | cons d l ih => exact ih _ (hu.raisesAgain d)
  induction l generalizing s with
  | nil => cases hc
  | cons d l ih =>
    obtain rfl | hmem := List.mem_cons.mp hc
    · refine hkeeps l _ ?_
      unfold State.raisesAgain
      split_ifs with h
      · exact .inr (s.recordRaise_minLevel c)
      · exact .inl (by simpa [hactive] using h)
    · exact ih hmem (by rw [s.raisesAgain_active d]; exact hactive)

theorem State.foldl_raisesAgain_stacked {l : List Cause} {c : Cause} (hc : c ∉ l) (s : State) :
    stacked c (l.foldl State.raisesAgain s).prot.stack = stacked c s.prot.stack := by
  induction l generalizing s with
  | nil => rfl
  | cons d l ih =>
    have hcd : c ≠ d := fun h => hc (h ▸ List.mem_cons_self)
    have hcl : c ∉ l := fun h => hc (List.mem_cons_of_mem _ h)
    rw [List.foldl_cons, ih hcl]
    unfold State.raisesAgain
    split_ifs
    · exact State.stacked_recordRaise hcd s
    · rfl

/-- The one live cause that is active without an entry is raised once (R152). -/
theorem State.reraise_one {c : Cause} {s : State} (hc : c ∈ liveCauses)
    (hmissing : s.prot.active.get c = true ∧ stacked c s.prot.stack = false)
    (hothers : ∀ d ∈ liveCauses, d ≠ c → ¬(s.prot.active.get d = true ∧ stacked d s.prot.stack = false)) :
    s.reraise = s.recordRaise c := by
  have hnodup : liveCauses.Nodup := by decide
  obtain ⟨before, after, hsplit⟩ := List.append_of_mem hc
  rw [hsplit] at hnodup hothers
  have hbefore : c ∉ before := fun h => (List.nodup_append.mp hnodup).2.2 c h c List.mem_cons_self rfl
  have hafter : c ∉ after := (List.nodup_cons.mp (List.nodup_append.mp hnodup).2.1).1
  have hraised : s.raisesAgain c = s.recordRaise c := if_pos hmissing
  have hrest : after.foldl State.raisesAgain (s.recordRaise c) = s.recordRaise c := by
    refine State.foldl_raisesAgain_skips fun d hd ⟨hactive, hstacked⟩ => ?_
    have hne : d ≠ c := fun h => hafter (h ▸ hd)
    rw [(s.recordRaise_spec c).2.2.1] at hactive
    rw [State.stacked_recordRaise hne] at hstacked
    exact hothers d (List.mem_append_right _ (List.mem_cons_of_mem _ hd)) hne ⟨hactive, hstacked⟩
  rw [State.reraise_eq, hsplit, List.foldl_append, List.foldl_cons,
    State.foldl_raisesAgain_skips fun d hd => hothers d (List.mem_append_left _ hd) fun h => hbefore (h ▸ hd), hraised, hrest]

/-! ## What the changer hears (R17, R151) -/

section Jam
variable {c : Cause} {s : State}

/-- The changer is freed by a clear: LOST, with the pending fades let go (R17, R64). -/
def State.freed (s : State) : State := s.enterLost.takePendings

theorem State.freed_changer (s : State) : s.freed.changer = s.changer.lost :=
  s.enterLost.takePendings_frame .changer (by decide)

theorem State.freed_arb (s : State) : s.freed.arb = { s.arb with dwellDue := none } :=
  s.enterLost.takePendings_frame .arb (by decide)

theorem State.tellJamCleared_jam (hjam : c = .trayJam ∨ c = .gateJam) (hst : s.changer.state = .idle ∨ s.changer.state = .jammed) :
    s.tellJamCleared c = s.freed := by
  have hcleared : s.jamCleared = s.freed := by
    unfold State.jamCleared
    obtain h | h := hst <;> rw [h] <;> rfl
  unfold State.tellJamCleared
  rw [if_pos hjam, hcleared]
  refine if_neg fun h => ?_
  rw [State.freed_changer] at h
  exact absurd h.1 nofun

theorem State.tellJamCleared_waits (hjam : c = .trayJam ∨ c = .gateJam) (hidle : s.changer.state ≠ .idle)
    (hjammed : s.changer.state ≠ .jammed) (hlost : s.changer.state ≠ .lost) :
    s.tellJamCleared c = { s with changer := { s.changer with jamClear := true } } := by
  have hcleared : s.jamCleared = { s with changer := { s.changer with jamClear := true } } := by
    unfold State.jamCleared
    split
    · next h => exact absurd h hidle
    · next h => exact absurd h hjammed
    · next h => exact absurd h hlost
    · rfl
  unfold State.tellJamCleared
  rw [if_pos hjam, hcleared]
  exact if_neg fun h => hjammed h.1

theorem State.tellJamCleared_lost (hjam : c = .trayJam ∨ c = .gateJam) (hst : s.changer.state = .lost) :
    s.tellJamCleared c = s := by
  have hcleared : s.jamCleared = s := by
    unfold State.jamCleared
    rw [hst]
  unfold State.tellJamCleared
  rw [if_pos hjam, hcleared]
  refine if_neg fun h => ?_
  rw [hst] at h
  exact absurd h.1 nofun

/-- A clear of another cause frees a JAMMED changer below PL 3 with no TRAY-JAM stacked (R17). -/
theorem State.tellJamCleared_other (hjam : ¬(c = .trayJam ∨ c = .gateJam)) : s.tellJamCleared c =
    if s.changer.state = .jammed ∧ s.prot.pl < 3 ∧ stacked .trayJam s.prot.stack = false then s.freed else s := by
  unfold State.tellJamCleared
  rw [if_neg hjam]
  rfl

end Jam

/-- What a settling makes of the activities while a stalled fan runs at PL 2 or 3. -/
theorem State.settleFrom_prot_eq {t : State} (h : t.prot.active.fan = true → 2 ≤ t.prot.pl) (s : State) :
    (s.settleFrom t).prot = t.prot := by
  have hprot : ((t.driveChanged s.drive).offChanged s.offReady).prot = t.prot :=
    (driveChanged_frame _ _).andThen (cs := [.cool, .lamp, .store]) (offChanged_frame _ _) (by decide) (by decide)
      .prot (by decide)
  have hlife : (s.settleFrom t).prot = (((t.driveChanged s.drive).offChanged s.offReady).dutyChanged s.duty).prot :=
    raiseFlagIf_frame _ _ _ .prot (by decide)
  rw [hlife]
  rw [← hprot] at h ⊢
  generalize (t.driveChanged s.drive).offChanged s.offReady = u at h ⊢
  unfold State.dutyChanged
  split_ifs with hwarned hrises hfalls
  · rfl
  · rfl
  · have hfan : u.prot.active.fan = false := by
      rw [← Bool.not_eq_true]
      intro hon
      rw [State.duty_of_protected (h hon)] at hfalls
      omega
    show { u.prot with active := { u.prot.active with fan := false } } = u.prot
    rw [← hfan]
  · rfl

end Sys2Proof.Machine
end

section
/-! A pop of the fault stack: what stands in the Protect Unit after it, and what the other blocks hear (R143, R145, R148,
R151, R152). -/

namespace Sys2Proof.Machine

/-! ## The pop (R151) -/

/-- The level that a pop leaves before anything is raised again. -/
def levelBelow (rest : List FaultEntry) : Nat := (rest.head?.map FaultEntry.level).getD 0

/-- The top entry gone, and PL at the entry below. -/
def State.topPopped (rest : List FaultEntry) (s : State) : State :=
  { s with prot := { s.prot with stack := rest, pl := levelBelow rest } }

section Popped
variable {s : State} {e : FaultEntry} {rest : List FaultEntry}

theorem State.clearFault_active (hs : s.prot.stack = e :: rest) (h : s.prot.active.get e.cause = true) :
    s.clearFault = (s, .stillActive) := by
  unfold State.clearFault
  rw [hs]
  exact if_pos h

theorem State.clearFault_pops (hs : s.prot.stack = e :: rest) (h : s.prot.active.get e.cause = false) :
    s.clearFault = ((s.popped rest).tellJamCleared e.cause, .accepted) := by
  unfold State.clearFault
  rw [hs]
  exact if_neg (by rw [h]; decide)

theorem State.levelBelow_lt (hs : s.prot.stack = e :: rest) (hlaw : FaultLaw s) :
    levelBelow rest < s.prot.pl ∧ s.prot.pl ≤ 3 := by
  obtain ⟨_, hrise, hrange, hpl⟩ := hlaw
  rw [hs] at hrise hrange hpl
  obtain ⟨hone, hthree⟩ := hrange e List.mem_cons_self
  have hlevel : s.prot.pl = e.level := hpl
  refine ⟨?_, by omega⟩
  rw [hlevel]
  cases rest with
  | nil => exact hone
  | cons x rest => exact (List.pairwise_cons.mp hrise).1 x List.mem_cons_self

theorem State.popped_eq (rest : List FaultEntry) (s : State) :
    s.popped rest = (s.topPopped rest).reraise.handPL s.prot.pl := rfl

theorem State.popped_prot (rest : List FaultEntry) (s : State) :
    (s.popped rest).prot = (s.topPopped rest).reraise.prot := State.handPL_prot _ _

theorem State.popped_active (rest : List FaultEntry) (s : State) : (s.popped rest).prot.active = s.prot.active := by
  rw [State.popped_prot, State.reraise_eq, State.foldl_raisesAgain_active]
  rfl

/-- An entry of the stack stands no higher than PL (R145). -/
theorem State.level_le_pl (hlaw : FaultLaw s) {x : FaultEntry} (hx : x ∈ s.prot.stack) : x.level ≤ s.prot.pl := by
  obtain ⟨_, hrise, _, hpl⟩ := hlaw
  rw [hpl]
  cases hstack : s.prot.stack with
  | nil =>
    rw [hstack] at hx
    cases hx
  | cons top l =>
    rw [hstack] at hx hrise
    obtain rfl | hmem := List.mem_cons.mp hx
    · exact le_rfl
    · exact ((List.pairwise_cons.mp hrise).1 x hmem).le

/-- After a pop an active fan stall keeps PL at 2 or more (R143, R152). -/
theorem State.popped_fan (hs : s.prot.stack = e :: rest) (hlaw : FaultLaw s) (hlevel : FaultLevelLaw s)
    (hfan : (s.popped rest).prot.active.fan = true) : 2 ≤ (s.popped rest).prot.pl := by
  have hkeeps := State.popped_keeps hs
  have hactive : (s.topPopped rest).prot.active.get .fanStall = true := by
    rw [State.popped_active] at hfan
    exact hfan
  have hmeets := State.foldl_raisesAgain_meets (l := liveCauses) (by decide) hactive
  rw [← State.reraise_eq] at hmeets
  unfold State.meets at hmeets
  rw [← State.popped_prot] at hmeets
  obtain hstacked | hle := hmeets
  · obtain ⟨x, hx, hcause⟩ : ∃ x ∈ (s.popped rest).prot.stack, x.cause = .fanStall := by
      simpa [stacked] using hstacked
    have hmin := hkeeps.faultLevel hlevel x hx
    rw [if_pos (.inl hcause)] at hmin
    exact hmin.trans (State.level_le_pl (hkeeps.fault hlaw) hx)
  · exact hle

/-- With nothing to raise again, the pop tells the tape alone that PL fell below 2 (R148). -/
theorem State.popped_quiet (hs : s.prot.stack = e :: rest) (hlaw : FaultLaw s)
    (hquiet : ∀ d ∈ liveCauses, ¬(s.prot.active.get d = true ∧ stacked d rest = false)) :
    s.popped rest = if 2 ≤ s.prot.pl ∧ levelBelow rest < 2 then (s.topPopped rest).removeReason .safe
      else s.topPopped rest := by
  obtain ⟨hlt, _⟩ := State.levelBelow_lt hs hlaw
  have hreraise : (s.topPopped rest).reraise = s.topPopped rest := by
    rw [State.reraise_eq]
    exact State.foldl_raisesAgain_skips hquiet
  have hpl : (s.topPopped rest).prot.pl = levelBelow rest := rfl
  rw [State.popped_eq, hreraise]
  unfold State.handPL
  dsimp only
  rw [hpl, if_neg (c := s.prot.pl < 2 ∧ 2 ≤ levelBelow rest) (by omega),
    if_neg (c := s.prot.pl < 3 ∧ 3 ≤ levelBelow rest) (by omega)]

theorem State.popped_quiet_spec (hs : s.prot.stack = e :: rest) (hlaw : FaultLaw s)
    (hquiet : ∀ d ∈ liveCauses, ¬(s.prot.active.get d = true ∧ stacked d rest = false)) :
    s.onlyChanges [.prot, .tape] (s.popped rest) ∧ (s.popped rest).prot = (s.topPopped rest).prot
      ∧ (s.popped rest).tape = (if 2 ≤ s.prot.pl ∧ levelBelow rest < 2 then s.tape.drops .safe s.clock else s.tape) := by
  have htop : s.onlyChanges [.prot] (s.topPopped rest) := by
    intro b hb; cases b <;> first | rfl | simp at hb
  have hdrops := State.removeReason_frame_tape .safe (s.topPopped rest)
  rw [State.popped_quiet hs hlaw hquiet]
  split_ifs
  · exact ⟨htop.andThen hdrops (by decide) (by decide), hdrops .prot (by decide), State.removeReason_tape _ _⟩
  · exact ⟨htop.mono (by decide), rfl, rfl⟩

/-- The one active live cause without an entry is raised again (R152). -/
theorem State.popped_missing {c : Cause} (hs : s.prot.stack = e :: rest) (hlaw : FaultLaw s) (hc : c ∈ liveCauses)
    (hmissing : s.prot.active.get c = true ∧ stacked c rest = false)
    (hothers : ∀ d ∈ liveCauses, d ≠ c → ¬(s.prot.active.get d = true ∧ stacked d rest = false)) :
    let level := min 3 (max (levelBelow rest + 1) c.minLevel)
    (s.popped rest).prot.stack = ⟨c, level, s.usage.uptime⟩ :: rest ∧ (s.popped rest).prot.pl = level
      ∧ (s.popped rest).prot.last = ⟨some c, level, true, s.usage.uptime, min 255 (s.prot.last.raises + 1),
          s.prot.last.restarts⟩
      ∧ (s.popped rest).link.flags.fault = true := by
  intro level
  obtain ⟨hlt, hthree⟩ := State.levelBelow_lt hs hlaw
  have hone : (s.topPopped rest).reraise = (s.topPopped rest).recordRaise c := State.reraise_one hc hmissing hothers
  obtain ⟨hpl, hstack, _, hflag⟩ := (s.topPopped rest).recordRaise_spec c
  have hlow : (s.topPopped rest).prot.pl < 3 := by
    show levelBelow rest < 3
    omega
  rw [State.popped_prot, hone]
  refine ⟨hstack.trans (if_pos hlow), hpl.trans (if_pos hlow), ?_, ?_⟩
  · show (⟨some c, _, decide ((s.topPopped rest).prot.pl < 3), _, _, _⟩ : LastFault) = _
    rw [decide_eq_true hlow]
    rfl
  · rw [State.popped_eq, hone]
    exact State.handPL_keepsFlags _ _ .fault (by decide) hflag

/-- The pop raises no TRAY-JAM. -/
theorem State.popped_trayJam (rest : List FaultEntry) (s : State) :
    stacked .trayJam (s.popped rest).prot.stack = stacked .trayJam rest := by
  rw [State.popped_prot, State.reraise_eq, State.foldl_raisesAgain_stacked (by decide)]
  rfl

end Popped

theorem Cause.minLevel_live {c : Cause} (hc : c ∈ liveCauses) :
    c.minLevel = if c = .fanStall ∨ c = .lampOvercurrent then 2 else 1 := by
  cases c with
  | housingOvertemp | gateOvertemp | fanStall | lampOvercurrent => rfl
  | trayJam | gateJam | homeFail => exact absurd hc (by decide)

end Sys2Proof.Machine
end

section
/-! CLEAR-FAULT reads nothing of the port and writes its attention flags alone, so the panel's long press does what a
broadcast CLEAR-FAULT does (R151, R167). -/

namespace Sys2Proof.Machine

/-! ## A port with other contents and the same flags -/

/-- The state with the port's fields from elsewhere, but for the attention flags. -/
def State.relink (k : LinkPort) (s : State) : State := { s with link := { k with flags := s.link.flags } }

section Relink
variable (k : LinkPort)

/-- An operation that the fields of the port other than the flags do not bear on. -/
def State.blind (f : State → State) : Prop := ∀ s : State, f (s.relink k) = (f s).relink k

theorem State.blind.comp {f g : State → State} (hg : State.blind k g) (hf : State.blind k f) :
    State.blind k (fun s => g (f s)) := fun s => (congrArg g (hf s)).trans (hg (f s))

/-- A choice that reads nothing of the port. -/
theorem State.blind.ite {p : State → Prop} [∀ s, Decidable (p s)] {f g : State → State} (hf : State.blind k f)
    (hg : State.blind k g) (hp : ∀ s, p (s.relink k) ↔ p s) : State.blind k (fun s => if p s then f s else g s) := by
  intro s
  dsimp only
  by_cases h : p s
  · rw [if_pos h, if_pos ((hp s).mpr h)]
    exact hf s
  · rw [if_neg h, if_neg (mt (hp s).mp h)]
    exact hg s

theorem State.blind.foldl {α : Type} {f : State → α → State} (hf : ∀ a, State.blind k (fun s => f s a)) (l : List α) :
    State.blind k (fun s => l.foldl f s) := by
  intro s
  induction l generalizing s with
  | nil => rfl
  | cons a l ih => exact (congrArg (l.foldl f) (hf a s)).trans (ih _)

theorem State.blind_recordRaise (c : Cause) : State.blind k (State.recordRaise c) := fun _ => rfl

theorem State.blind_addReason (r : PauseReason) : State.blind k (State.addReason r) := by
  unfold State.addReason
  exact .ite k (fun _ => rfl) (fun _ => rfl) fun _ => Iff.rfl

theorem State.blind_removeReason (r : PauseReason) : State.blind k (State.removeReason r) := by
  unfold State.removeReason
  exact .ite k (.ite k (fun _ => rfl) (fun _ => rfl) fun _ => Iff.rfl) (fun _ => rfl) fun _ => Iff.rfl

theorem State.blind_judgeQueue : State.blind k State.judgeQueue := by
  unfold State.judgeQueue
  exact .ite k (.comp k (State.blind_addReason k .queue) fun _ => rfl)
    (.ite k (.comp k (State.blind_removeReason k .queue) fun _ => rfl) (fun _ => rfl) fun _ => Iff.rfl) fun _ => Iff.rfl

theorem State.blind_stopTape (c : StopCause) : State.blind k (State.stopTape c) := by
  intro s
  have hstate : (s.relink k).tape.state = s.tape.state := rfl
  unfold State.stopTape
  rw [hstate]
  cases s.tape.state <;> rfl

theorem State.blind_completeRequest (r : Request) (o : ChangeOutcome) (final : Option Nat) :
    State.blind k (State.completeRequest r o final) := by
  unfold State.completeRequest
  exact .ite k (fun _ => rfl) (fun _ => rfl) fun _ => Iff.rfl

theorem State.blind_flushed : State.blind k State.flushed := by
  intro s
  have hdone := State.blind.foldl k (fun r => State.blind_completeRequest k r .aborted s.changer.position)
    s.arb.queues.link s
  exact congrArg (fun u : State => { u with arb := { u.arb with queues := noQueues } }) hdone

theorem State.blind_crossToSafe : State.blind k State.crossToSafe := by
  have hflush : State.blind k (fun s : State => State.flushAll { s with cue := { s.cue with debt := 0 } }) := by
    intro s
    dsimp only
    rw [State.flushAll_owing_none rfl, State.flushAll_owing_none rfl]
    exact State.blind.comp k (State.blind_judgeQueue k) (State.blind_flushed k) { s with cue := { s.cue with debt := 0 } }
  have hadds := State.blind.comp k (State.blind_addReason k .safe) hflush
  exact hadds

theorem State.blind_handPL (old : Nat) : State.blind k (State.handPL old) := by
  have hlockout : State.blind k State.crossToLockout := .comp k (g := State.lockKeys) (fun _ => rfl) (State.blind_stopTape k .lockout)
  intro s
  have hfirst : State.blind k (fun s : State => if old < 2 ∧ 2 ≤ s.prot.pl then s.crossToSafe
      else if 2 ≤ old ∧ s.prot.pl < 2 then s.removeReason .safe else s) :=
    .ite k (State.blind_crossToSafe k) (.ite k (State.blind_removeReason k .safe) (fun _ => rfl) fun _ => Iff.rfl) fun _ => Iff.rfl
  exact State.blind.ite k (p := fun s => old < 3 ∧ 3 ≤ s.prot.pl) (.comp k hlockout hfirst) hfirst (fun _ => Iff.rfl) s

theorem State.blind_reraise : State.blind k State.reraise := by
  refine .foldl k (fun c => ?_) liveCauses
  exact .ite k (State.blind_recordRaise k c) (fun _ => rfl) fun _ => Iff.rfl

theorem State.blind_takePending (ch : Channel) : State.blind k (State.takePending ch) := by
  intro s
  have hfade : (s.relink k).fade = s.fade := rfl
  unfold State.takePending
  rw [hfade]
  dsimp only
  cases (s.fade.channel ch).pending <;> rfl

theorem State.blind_freed : State.blind k State.freed := by
  have htakes := State.blind.comp k (State.blind_takePending k .audio)
    (.comp k (State.blind_takePending k .lamp) (f := State.enterLost) fun _ => rfl)
  exact htakes

theorem State.blind_tellJamCleared (c : Cause) : State.blind k (State.tellJamCleared c) := by
  have hcleared : State.blind k State.jamCleared := by
    intro s
    have hchanger : (s.relink k).changer = s.changer := rfl
    have hfreed := State.blind_freed k s
    unfold State.jamCleared
    rw [hchanger]
    cases s.changer.state <;> first | exact hfreed | rfl
  have hfirst : State.blind k (fun s : State => if c = .trayJam ∨ c = .gateJam then s.jamCleared else s) :=
    .ite k hcleared (fun _ => rfl) fun _ => Iff.rfl
  have hsecond : State.blind k (fun s : State => if s.changer.state = .jammed ∧ s.prot.pl < 3
      ∧ stacked .trayJam s.prot.stack = false then s.freed else s) :=
    .ite k (State.blind_freed k) (fun _ => rfl) fun _ => Iff.rfl
  have htells := State.blind.comp k hsecond hfirst
  exact htells

theorem State.clearFault_relink (s : State) :
    (s.relink k).clearFault = (s.clearFault.1.relink k, s.clearFault.2) := by
  have hprot : (s.relink k).prot = s.prot := rfl
  unfold State.clearFault
  rw [hprot]
  cases hstack : s.prot.stack with
  | nil => rfl
  | cons e rest =>
    dsimp only
    split_ifs
    · rfl
    · refine congrArg (fun u : State => (u, ResultCode.accepted)) ?_
      exact State.blind.comp k (State.blind_tellJamCleared k e.cause)
        (.comp k (State.blind_handPL k s.prot.pl) (State.blind_reraise k))
        { s with prot := { s.prot with stack := rest, pl := (rest.head?.map FaultEntry.level).getD 0 } }

theorem State.settleFrom_relink (s t : State) : (s.relink k).settleFrom (t.relink k) = (s.settleFrom t).relink k := by
  have hdrive : State.blind k (State.driveChanged s.drive) := by
    unfold State.driveChanged
    refine .ite k (.comp k (g := State.requestCounterSave) ?_ fun _ => rfl) (.ite k (fun _ => rfl) (fun _ => rfl) fun _ => Iff.rfl)
      fun _ => Iff.rfl
    exact .ite k (fun _ => rfl) (fun _ => rfl) fun _ => Iff.rfl
  have hoff : State.blind k (State.offChanged s.offReady) := .ite k (fun _ => rfl) (fun _ => rfl) fun _ => Iff.rfl
  have hduty : State.blind k (State.dutyChanged s.duty) :=
    .ite k (fun _ => rfl) (.ite k (fun _ => rfl) (.ite k (fun _ => rfl) (fun _ => rfl) fun _ => Iff.rfl) fun _ => Iff.rfl)
      fun _ => Iff.rfl
  have hlife : State.blind k (State.lifeChanged s.lifeMark) := .ite k (fun _ => rfl) (fun _ => rfl) fun _ => Iff.rfl
  exact State.blind.comp k hlife (.comp k hduty (.comp k hoff hdrive)) t

end Relink

end Sys2Proof.Machine
end

section
/-! CLEAR-FAULT and the long press of HOLD (R17, R145, R148, R151, R152, R167). -/

namespace Sys2Proof.Machine

/-- CLEAR-FAULT is taken at every PL (R171, R151). -/
theorem exec_clearFault {h : Header} {s : State} (ht : s.takes h) : exec (.clearFault h []) s =
    .next (State.replied h s.framed.clearFault.2 [] (s.framed.settleFrom s.framed.clearFault.1)) := by
  have htests : commandTests 22 0 [] (fun t => let c := t.clearFault; ⟨c.1, c.2, []⟩) s.framed
      = ⟨s.framed.clearFault.1, s.framed.clearFault.2, []⟩ := by
    unfold commandTests
    rw [if_neg fun h => absurd h.2 (by decide), if_neg (by decide)]
  refine (linkCommand_takes 22 0 h [] _ s ht (.inr rfl)).trans ?_
  rw [htests]

theorem exec_panelHoldLongPress_idle {s : State} (h : s.panel.longDue = none) :
    exec .panelHoldLongPress s = .next s := by
  have hexec : exec .panelHoldLongPress s = execPanelHoldLongPress s := rfl
  rw [hexec]
  unfold execPanelHoldLongPress
  rw [h]

/-- The part as the long press of HOLD is noticed (R167). -/
def State.atLongPress (due : Nat) (s : State) : State :=
  { s with clock := max s.clock due, panel := { s.panel with longDue := none } }

theorem exec_panelHoldLongPress {s : State} {due : Nat} (h : s.panel.longDue = some due) :
    exec .panelHoldLongPress s = .next (if s.panel.keys.hold = ⟨true, false⟩ then
      (s.atLongPress due).settleFrom (s.atLongPress due).clearFault.1 else s.atLongPress due) := by
  have hkey : (s.panel.keys.hold.pressed = true ∧ s.panel.keys.hold.inert = false) ↔ s.panel.keys.hold = ⟨true, false⟩ := by
    cases s.panel.keys.hold
    simp
  have hexec : exec .panelHoldLongPress s = execPanelHoldLongPress s := rfl
  rw [hexec]
  unfold execPanelHoldLongPress
  rw [h]
  dsimp only
  by_cases hheld : s.panel.keys.hold = ⟨true, false⟩
  · rw [if_pos (hkey.mpr hheld), if_pos hheld]
    rfl
  · rw [if_neg (mt hkey.mp hheld), if_neg hheld]
    rfl

theorem State.handPL_longDue {s : State} (h : s.panel.longDue = none) (old : Nat) :
    (s.handPL old).panel.longDue = none := by
  have hsafe : s.crossToSafe.panel = s.panel := s.crossToSafe_frame .panel (by decide)
  have hfirst : (if old < 2 ∧ 2 ≤ s.prot.pl then s.crossToSafe
      else if 2 ≤ old ∧ s.prot.pl < 2 then s.removeReason .safe else s).panel = s.panel := by
    split_ifs
    · exact hsafe
    · exact State.removeReason_frame_tape _ _ .panel (by decide)
    · rfl
  unfold State.handPL
  dsimp only
  split
  · rfl
  · rw [hfirst]
    exact h

/-- A clear passes no time and starts no long press (R167). -/
theorem State.clearFault_settled {s : State} (h : s.panel.longDue = none) :
    (s.settleFrom s.clearFault.1).clock = s.clock ∧ (s.settleFrom s.clearFault.1).panel.longDue = none := by
  have hcleared : s.clearFault.1.panel.longDue = none := by
    unfold State.clearFault
    split
    · exact h
    · next e rest _ =>
      split_ifs
      · exact h
      · have htold := State.tellJamCleared_frame e.cause (s.popped rest) .panel (by decide)
        refine (congrArg (·.longDue) htold).trans (State.handPL_longDue ?_ _)
        exact (congrArg (·.longDue) (State.reraise_frame (s.topPopped rest) .panel (by decide))).trans h
  refine ⟨Eq.trans (State.settleFrom_frame s _ .clock (by decide)) (s.clearFault_frame .clock (by decide)), ?_⟩
  rw [State.settleFrom_frame s _ .panel (by decide)]
  exact hcleared

/-- A clear does the same with any contents of the port (R167). -/
theorem State.clearFault_settled_relink (k : LinkPort) (s : State) :
    (s.relink k).settleFrom (s.relink k).clearFault.1 = (s.settleFrom s.clearFault.1).relink k := by
  rw [State.clearFault_relink]
  exact State.settleFrom_relink k s s.clearFault.1

section Cleared
variable {s : State} {e : FaultEntry} {rest : List FaultEntry}

/-- The part after an accepted CLEAR-FAULT. -/
def State.clearedOf (e : FaultEntry) (rest : List FaultEntry) (s : State) : State :=
  s.settleFrom ((s.popped rest).tellJamCleared e.cause)

theorem State.clearedOf_frame (e : FaultEntry) (rest : List FaultEntry) (s : State) :
    s.onlyChanges [.prot, .tape, .dec, .changer, .arb, .fade, .lamp, .cool, .store, .link, .cue, .panel]
      (s.clearedOf e rest) :=
  ((s.popped_frame rest).andThen (State.tellJamCleared_frame e.cause _)
    (cs := [.prot, .arb, .link, .cue, .tape, .dec, .panel, .changer, .fade]) (by decide) (by decide)).andThen
    (State.settleFrom_frame s _) (by decide) (by decide)

/-- What neither the changer's answer nor the settling writes. -/
theorem State.clearedOf_keeps (e : FaultEntry) (rest : List FaultEntry) (s : State) :
    (s.popped rest).onlyChanges [.changer, .arb, .fade, .lamp, .cool, .store, .link, .prot] (s.clearedOf e rest) :=
  (State.tellJamCleared_frame e.cause _).andThen (State.settleFrom_frame s _) (by decide) (by decide)

theorem State.clearedOf_hears {b : Block} (e : FaultEntry) (rest : List FaultEntry) (s : State)
    (hb : b ∉ [Block.cool, .lamp, .store, .prot, .link]) :
    ((s.popped rest).tellJamCleared e.cause).same b (s.clearedOf e rest) := State.settleFrom_frame s _ b hb

theorem State.clearedOf_prot (hs : s.prot.stack = e :: rest) (hlaw : FaultLaw s) (hlevel : FaultLevelLaw s) :
    (s.clearedOf e rest).prot = (s.popped rest).prot := by
  have htold : ((s.popped rest).tellJamCleared e.cause).prot = (s.popped rest).prot :=
    State.tellJamCleared_frame e.cause _ .prot (by decide)
  refine (State.settleFrom_prot_eq (fun hfan => ?_) s).trans htold
  rw [htold] at hfan ⊢
  exact State.popped_fan hs hlaw hlevel hfan

theorem State.clearedOf_flags (e : FaultEntry) (rest : List FaultEntry) (s : State) :
    (s.popped rest).keepsFlags (s.clearedOf e rest) :=
  .trans (.of_link (State.tellJamCleared_frame e.cause _ .link (by decide))) (State.settleFrom_keepsFlags s _)

/-- Of the arbiter a clear ends the dwell timer at most (R37). -/
theorem State.tellJamCleared_arb (c : Cause) (s : State) :
    (s.tellJamCleared c).arb = { s.arb with dwellDue := (s.tellJamCleared c).arb.dwellDue } := by
  by_cases hjam : c = .trayJam ∨ c = .gateJam
  · by_cases hrests : s.changer.state = .idle ∨ s.changer.state = .jammed
    · rw [State.tellJamCleared_jam hjam hrests, State.freed_arb]
    · by_cases hlost : s.changer.state = .lost
      · rw [State.tellJamCleared_lost hjam hlost]
      · rw [State.tellJamCleared_waits hjam (fun h => hrests (.inl h)) (fun h => hrests (.inr h)) hlost]
  · rw [State.tellJamCleared_other hjam]
    split_ifs
    · rw [State.freed_arb]
    · rfl

/-- An accepted CLEAR-FAULT with nothing to raise again (R148, R151). -/
theorem State.clearedOf_quiet (hs : s.prot.stack = e :: rest) (hlaw : FaultLaw s) (hlevel : FaultLevelLaw s)
    (hquiet : ∀ d ∈ liveCauses, ¬(s.prot.active.get d = true ∧ stacked d rest = false)) :
    (s.clearedOf e rest).prot = (s.topPopped rest).prot
      ∧ (s.clearedOf e rest).arb = { s.arb with dwellDue := (s.clearedOf e rest).arb.dwellDue }
      ∧ (s.clearedOf e rest).panel = s.panel ∧ (s.clearedOf e rest).cue = s.cue ∧ (s.clearedOf e rest).dec = s.dec
      ∧ (s.clearedOf e rest).tape = (if 2 ≤ s.prot.pl ∧ levelBelow rest < 2 then s.tape.drops .safe s.clock else s.tape) := by
  obtain ⟨hframe, hprot, htape⟩ := State.popped_quiet_spec hs hlaw hquiet
  have hkeeps := State.clearedOf_keeps e rest s
  refine ⟨(State.clearedOf_prot hs hlaw hlevel).trans hprot, ?_, ?_, ?_, ?_, Eq.trans (hkeeps .tape (by decide)) htape⟩
  · have hhears : (s.clearedOf e rest).arb = ((s.popped rest).tellJamCleared e.cause).arb :=
      State.clearedOf_hears e rest s (b := .arb) (by decide)
    rw [hhears, State.tellJamCleared_arb, show (s.popped rest).arb = s.arb from hframe .arb (by decide)]
  · exact Eq.trans (hkeeps .panel (by decide)) (hframe .panel (by decide))
  · exact Eq.trans (hkeeps .cue (by decide)) (hframe .cue (by decide))
  · exact Eq.trans (hkeeps .dec (by decide)) (hframe .dec (by decide))

/-- A changer that is freed by the clear. -/
theorem State.clearedOf_frees (h : (s.popped rest).tellJamCleared e.cause = (s.popped rest).freed) :
    (s.clearedOf e rest).changer = s.changer.lost ∧ (s.clearedOf e rest).arb.dwellDue = none := by
  have hchanger : (s.popped rest).changer = s.changer := s.popped_frame rest .changer (by decide)
  have harb : (s.clearedOf e rest).arb = ((s.popped rest).tellJamCleared e.cause).arb :=
    State.clearedOf_hears e rest s (b := .arb) (by decide)
  have hhears : (s.clearedOf e rest).changer = ((s.popped rest).tellJamCleared e.cause).changer :=
    State.clearedOf_hears e rest s (b := .changer) (by decide)
  rw [hhears, harb, h, State.freed_changer, State.freed_arb, hchanger]
  exact ⟨rfl, rfl⟩

/-- A changer that hears nothing it acts on. -/
theorem State.clearedOf_stays (h : (s.popped rest).tellJamCleared e.cause = s.popped rest) :
    (s.clearedOf e rest).changer = s.changer ∧ ((s.popped rest).arb = s.arb → (s.clearedOf e rest).arb = s.arb) := by
  have hchanger : (s.popped rest).changer = s.changer := s.popped_frame rest .changer (by decide)
  have harb : (s.clearedOf e rest).arb = ((s.popped rest).tellJamCleared e.cause).arb :=
    State.clearedOf_hears e rest s (b := .arb) (by decide)
  have hhears : (s.clearedOf e rest).changer = ((s.popped rest).tellJamCleared e.cause).changer :=
    State.clearedOf_hears e rest s (b := .changer) (by decide)
  rw [hhears, harb, h]
  exact ⟨hchanger, id⟩

/-- A changer in flight, on which the clear waits (R17). -/
theorem State.clearedOf_waits (h : (s.popped rest).tellJamCleared e.cause = { s.popped rest with
      changer := { (s.popped rest).changer with jamClear := true } }) :
    (s.clearedOf e rest).changer = { s.changer with jamClear := true }
      ∧ ((s.popped rest).arb = s.arb → (s.clearedOf e rest).arb = s.arb) := by
  have hchanger : (s.popped rest).changer = s.changer := s.popped_frame rest .changer (by decide)
  have harb : (s.clearedOf e rest).arb = ((s.popped rest).tellJamCleared e.cause).arb :=
    State.clearedOf_hears e rest s (b := .arb) (by decide)
  have hhears : (s.clearedOf e rest).changer = ((s.popped rest).tellJamCleared e.cause).changer :=
    State.clearedOf_hears e rest s (b := .changer) (by decide)
  rw [hhears, harb, h, hchanger]
  exact ⟨rfl, id⟩

end Cleared

/-- Settles O48. -/
theorem clearFaultPopsTheStack : Obligations.ClearFaultPopsTheStack := by
  refine ⟨fun h s ht => ?_, fun s => ?_, ?_, fun s hno => ?_, ?_⟩
  · refine ⟨s.framed.settleFrom s.framed.clearFault.1, (exec_clearFault ht).trans ?_⟩
    have hprot : s.framed.prot = s.prot := rfl
    have hcode : s.framed.clearFault.2 = match s.prot.stack with
        | [] => .accepted
        | e :: _ => if s.prot.active.get e.cause then .stillActive else .accepted := by
      unfold State.clearFault
      rw [hprot]
      cases s.prot.stack with
      | nil => rfl
      | cons e rest =>
        dsimp only
        split_ifs <;> rfl
    exact congrArg (fun code => Host.Outcome.next (State.replied h code [] _)) hcode
  · cases hlong : s.panel.longDue with
    | none => exact ⟨s, exec_panelHoldLongPress_idle hlong, hlong, (max_eq_left (Nat.zero_le _)).symm⟩
    | some due =>
      refine ⟨_, exec_panelHoldLongPress hlong, ?_⟩
      split_ifs
      · obtain ⟨hclock, hdue⟩ := State.clearFault_settled (s := s.atLongPress due) rfl
        exact ⟨hdue, hclock⟩
      · exact ⟨rfl, rfl⟩
  · intro h s ht hlaw hlevel
    have hlaw' : FaultLaw s.framed := hlaw
    have hlevel' : FaultLevelLaw s.framed := hlevel
    refine ⟨fun hs => ?_, ?_⟩
    · have hempty : s.framed.clearFault = (s.framed, .accepted) := by
        unfold State.clearFault
        rw [show s.framed.prot.stack = [] from hs]
      rw [exec_clearFault ht, hempty, State.settleFrom_self]
    · intro e rest hs live missing quiet below jam
      have hs' : s.framed.prot.stack = e :: rest := hs
      have hmissing (c : Cause) : missing c ↔ s.framed.prot.active.get c = true ∧ stacked c rest = false :=
        and_congr_right fun _ => stacked_false_iff.symm
      refine ⟨fun hactive => ?_, fun hclear => ⟨s.framed.clearedOf e rest, ?_, State.clearedOf_frame e rest _, ?_⟩⟩
      · rw [exec_clearFault ht, State.clearFault_active hs' hactive, State.settleFrom_self]
      · rw [exec_clearFault ht, State.clearFault_pops hs' hclear]
        rfl
      · have hprot := State.clearedOf_prot hs' hlaw' hlevel'
        have hnone (hq : quiet) (d : Cause) (hd : d ∈ liveCauses) := mt (hmissing d).mpr (hq d hd)
        have harb (hq : quiet) : (s.framed.popped rest).arb = s.framed.arb :=
          (State.popped_quiet_spec hs' hlaw' (hnone hq)).1 .arb (by decide)
        have hchanger : (s.framed.popped rest).changer = s.changer := State.popped_frame rest _ .changer (by decide)
        have htray : stacked .trayJam (s.framed.popped rest).prot.stack = false ↔ ∀ x ∈ rest, x.cause ≠ .trayJam := by
          rw [State.popped_trayJam, stacked_false_iff]
        refine ⟨?_, fun hq => State.clearedOf_quiet hs' hlaw' hlevel' (hnone hq), fun c hc hm hothers => ?_,
          fun hjam hst => ?_, fun hjam hidle hjammed hlost => ?_, fun hjam hst => ?_, fun hjam hst => ?_,
          fun hjam hst hpl hfree => ?_, fun hjam hst hheld => ?_⟩
        · rw [hprot, State.popped_active]
          rfl
        · intro least level
          obtain ⟨hstack, hpl, hlast, hflag⟩ := State.popped_missing hs' hlaw' hc ((hmissing c).mp hm)
            fun d hd hdc => mt (hmissing d).mpr (hothers d hd hdc)
          rw [Cause.minLevel_live hc] at hstack hpl hlast
          rw [hprot]
          exact ⟨hstack, hpl, hlast, State.clearedOf_flags e rest s.framed .fault (by decide) hflag⟩
        · exact State.clearedOf_frees (State.tellJamCleared_jam hjam (by rw [hchanger]; exact hst))
        · obtain ⟨hwaits, hkept⟩ := State.clearedOf_waits (s := s.framed) (State.tellJamCleared_waits hjam
            (by rw [hchanger]; exact hidle) (by rw [hchanger]; exact hjammed) (by rw [hchanger]; exact hlost))
          exact ⟨hwaits, fun hq => hkept (harb hq)⟩
        · obtain ⟨hstays, hkept⟩ := State.clearedOf_stays (s := s.framed) (State.tellJamCleared_lost hjam
            (by rw [hchanger]; exact hst))
          exact ⟨hstays, fun hq => hkept (harb hq)⟩
        · obtain ⟨hstays, hkept⟩ := State.clearedOf_stays (s := s.framed) (rest := rest)
            ((State.tellJamCleared_other hjam).trans (if_neg fun h => hst (by rw [← hchanger]; exact h.1)))
          exact ⟨hstays, fun hq => hkept (harb hq)⟩
        · rw [hprot] at hpl
          exact State.clearedOf_frees ((State.tellJamCleared_other hjam).trans
            (if_pos ⟨by rw [hchanger]; exact hst, hpl, htray.mpr hfree⟩))
        · rw [hprot] at hheld
          have hstuck : ¬((s.framed.popped rest).changer.state = .jammed ∧ (s.framed.popped rest).prot.pl < 3
              ∧ stacked .trayJam (s.framed.popped rest).prot.stack = false) := by
            rintro ⟨_, hlow, hfree⟩
            obtain hhigh | ⟨x, hx, hcause⟩ := hheld
            · exact absurd hlow (Nat.not_lt.mpr hhigh)
            · exact htray.mp hfree x hx hcause
          obtain ⟨hstays, hkept⟩ := State.clearedOf_stays (s := s.framed) (rest := rest)
            ((State.tellJamCleared_other hjam).trans (if_neg hstuck))
          exact ⟨hstays, fun hq => hkept (harb hq)⟩
  · exact exec_panelHoldLongPress_idle hno
  · intro s due hdue now heard
    refine ⟨fun hkey => ?_, fun hkey => ?_⟩
    · rw [exec_panelHoldLongPress hdue, if_neg hkey]
      rfl
    · have hheard : exec (.clearFault ⟨31#5, 0#2, false⟩ []) heard
          = .next (heard.framed.settleFrom heard.framed.clearFault.1) :=
        (exec_clearFault ⟨rfl, .inl rfl⟩).trans (congrArg Host.Outcome.next (if_neg fun h => h.1 rfl))
      refine ⟨_, hheard, ?_⟩
      rw [exec_panelHoldLongPress hdue, if_pos hkey]
      have hport : heard.framed = (s.atLongPress due).relink heard.framed.link := rfl
      have hown : s.atLongPress due = (s.atLongPress due).relink s.link := rfl
      rw [hport, State.clearFault_settled_relink]
      conv_lhs => rw [hown, State.clearFault_settled_relink]
      rfl

end Sys2Proof.Machine
end

section
/-! The bytes of a reply and of the reads (R173, R178, section 11.3). -/

namespace Sys2Proof.Machine

/-! ## Fields of bytes -/

theorem b4_eq (n : Nat) : b4 n = [BitVec.ofNat 8 (n / 16777216), BitVec.ofNat 8 (n / 65536), BitVec.ofNat 8 (n / 256),
    BitVec.ofNat 8 n] := by
  unfold b4 b2
  rw [Nat.div_div_eq_div_mul]
  rfl

theorem map_b1_flatten (l : List Nat) : (l.map b1).flatten = l.map (BitVec.ofNat 8) := by
  induction l with
  | nil => rfl
  | cons n l ih =>
    rw [List.map_cons, List.flatten_cons, ih]
    rfl

/-- Bits packed from bit i on. -/
theorem sum_mapIdx_bits (l : List Bool) (i : Nat) :
    (l.mapIdx (fun j b => if b then 2 ^ (j + i) else 0)).sum = 2 ^ i * packBits l := by
  induction l generalizing i with
  | nil => rfl
  | cons b l ih =>
    have hrest : (fun j b => if b = true then 2 ^ (j + 1 + i) else 0) = (fun j b => if b = true then 2 ^ (j + (i + 1)) else 0) := by
      funext j b
      rw [Nat.add_right_comm, Nat.add_assoc]
    rw [List.mapIdx_cons, List.sum_cons, hrest, ih (i + 1), packBits, Nat.mul_add, Nat.zero_add, ← Nat.mul_assoc, ← Nat.pow_succ]
    cases b with
    | false => rfl
    | true =>
      rw [Bool.toNat_true, Nat.mul_one]
      rfl

theorem packBits_eq (l : List Bool) : (l.mapIdx (fun j b => if b then 2 ^ j else 0)).sum = packBits l := by
  have h := sum_mapIdx_bits l 0
  simpa using h

/-! ## The check byte (R170) -/

/-! ## The reply (R173) -/

theorem State.grantsDue_none {s : State} (h : s.preferred = none) (n : Nat) : s.grantsDue n = s := by
  cases n with
  | zero => rfl
  | succ n =>
    unfold State.grantsDue State.grantOnce
    rw [h]

theorem State.replyBody_eq (code : ResultCode) (data : List Byte) (s : State) : s.replyBody code data =
    [BitVec.ofNat 8 s.link.strap.toNat, BitVec.ofNat 8 code.code, BitVec.ofNat 8 s.changer.state.code,
      BitVec.ofNat 8 (s.changer.position.getD 255), BitVec.ofNat 8 s.statusByte, BitVec.ofNat 8 s.tape.state.code,
      BitVec.ofNat 8 s.link.flags.byte, BitVec.ofNat 8 data.length] ++ data := rfl

theorem State.statusByte_eq (s : State) : s.statusByte =
    s.prot.pl % 4 + 4 * s.cool.power.code + (if s.link.showMode then 16 else 0) + if s.arb.hold then 32 else 0 := by
  unfold State.statusByte
  cases s.link.showMode <;> cases s.arb.hold <;> rfl

/-! ## The attention flags that a READ gives up (R178) -/

/-- The flags after the READ of an item. -/
def Attention.readOf (n : Nat) (f : Attention) : Attention :=
  if n = 1 then { f with showStore := false } else if n = 2 then { f with lamp := false }
  else if n = 4 then { f with syncTape := false } else if n = 5 then { f with limit := false }
  else if n = 6 then { f with fault := false } else if n = 7 then { f with cuemap := false } else f

theorem readFlag_clears (n : Nat) (s : State) : (readFlag n).elim s (fun f => s.clearFlag f)
    = { s with link := { s.link with flags := s.link.flags.readOf n } } := by
  unfold readFlag Attention.readOf
  split_ifs <;> rfl

theorem State.readDraws_iff (item : Nat) (s : State) :
    s.readDraws item = true ↔ (item = 4 ∧ s.tape.seekTarget = none) ∨ (item = 6 ∧ s.prot.last.cause = none) := by
  simp [State.readDraws]

/-- A step that writes attention flags and the free value counter alone leads to nothing more. -/
theorem State.settleFrom_flags (f : Attention) (n : Nat) (s : State) :
    s.settleFrom { s with link := { s.link with flags := f }, freeCount := n }
      = { s with link := { s.link with flags := f }, freeCount := n } :=
  State.settleFrom_quiet _ _ rfl rfl rfl rfl

section Reads
variable {h : Header} {s : State}

/-- An own frame of a read whose body leads to nothing more (R172). -/
theorem linkCommand_reads {code len : Nat} {args : List Byte} {body : State → Answer} {u : State} {r : ResultCode}
    {data : List Byte} (ht : s.takesOwn h) (hpl : s.prot.pl < 3 ∨ takenAtLockout code = true) (hlen : args.length = len)
    (hbody : body s.framed = ⟨u, r, data⟩) (hquiet : s.framed.settleFrom u = u) :
    linkCommand code len h args body s = .next (State.replied h r data u) := by
  obtain ⟨hr, hall, hown⟩ := ht
  have htests : commandTests code len args body s.framed = ⟨u, r, data⟩ := by
    have hunlocked : ¬(3 ≤ s.framed.prot.pl ∧ takenAtLockout code = false) := by
      rintro ⟨hhigh, hlocked⟩
      obtain hlow | htaken := hpl
      · exact absurd hlow (Nat.not_lt.mpr hhigh)
      · exact absurd (htaken.symm.trans hlocked) (by decide)
    exact ((if_neg hunlocked).trans (if_neg (not_not_intro hlen))).trans hbody
  rw [linkCommand_takes code len h args body s ⟨hr, .inr hown⟩ (.inl hall), htests]
  exact congrArg (fun v => Host.Outcome.next (State.replied h r data v)) hquiet

theorem exec_read_badItem (ht : s.takesOwn h) {item : Byte} (param : Byte) (hitem : 9 ≤ item.toNat) :
    exec (.read h [item, param]) s = .next (s.framed.replied h .badArg []) :=
  linkCommand_reads ht (.inr rfl) rfl (if_pos (by exact hitem)) s.framed.settleFrom_self

theorem exec_read (ht : s.takesOwn h) {item : Byte} (param : Byte) (hitem : item.toNat ≤ 8) :
    exec (.read h [item, param]) s = .next (State.replied h .accepted (s.framed.readItem item.toNat param.toNat)
      { s.framed with
        link := { s.framed.link with flags := s.link.flags.readOf item.toNat }
        freeCount := if s.readDraws item.toNat then s.freeCount + 1 else s.freeCount }) := by
  have hclears := readFlag_clears item.toNat s.framed
  refine linkCommand_reads ht (.inr rfl) rfl ((if_neg (Nat.not_lt.mpr hitem)).trans ?_) (State.settleFrom_flags _ _ _)
  have hanswer : (if s.framed.readDraws item.toNat = true then
        { (readFlag item.toNat).elim s.framed (fun f => s.framed.clearFlag f) with freeCount := s.framed.freeCount + 1 }
      else (readFlag item.toNat).elim s.framed (fun f => s.framed.clearFlag f))
      = { s.framed with
          link := { s.framed.link with flags := s.link.flags.readOf item.toNat }
          freeCount := if s.readDraws item.toNat then s.freeCount + 1 else s.freeCount } := by
    have hdraws : s.framed.readDraws item.toNat = s.readDraws item.toNat := rfl
    rw [hclears, hdraws]
    split_ifs <;> rfl
  have harg : arg [item, param] 0 = item.toNat := rfl
  refine congrArg (fun u => (⟨u, .accepted, s.framed.readItem item.toNat param.toNat⟩ : Answer)) (Eq.trans ?_ hanswer)
  rw [harg]
  cases readFlag item.toNat <;> rfl

theorem exec_readCompletion_none (ht : s.takesOwn h) (hpl : s.prot.pl < 3) (hnone : s.arb.completions = []) :
    exec (.readCompletion h []) s = .next (s.framed.replied h .accepted []) := by
  refine linkCommand_reads ht (.inl hpl) rfl ?_ s.framed.settleFrom_self
  dsimp only
  rw [show s.framed.arb.completions = [] from hnone]
  rfl

theorem exec_readCompletion (ht : s.takesOwn h) (hpl : s.prot.pl < 3) {c : Completion} {rest : List Completion}
    (hsome : s.arb.completions = c :: rest) :
    exec (.readCompletion h []) s = .next (State.replied h .accepted c.bytes { s.framed with
      link := { s.framed.link with flags := if rest = [] then { s.link.flags with completion := false } else s.link.flags }
      arb := { s.arb with completions := rest } }) := by
  refine linkCommand_reads ht (.inl hpl) rfl ?_ (State.settleFrom_quiet _ _ rfl rfl rfl rfl)
  dsimp only
  rw [show s.framed.arb.completions = c :: rest from hsome]
  dsimp only
  split_ifs <;> rfl

theorem exec_readCounters (ht : s.takesOwn h) (hpl : s.prot.pl < 3) :
    exec (.readCounters h []) s = .next (State.replied h .accepted s.counterBytes { s.framed with
      link := { s.framed.link with flags := { s.link.flags with counter := false } } }) :=
  linkCommand_reads ht (.inl hpl) rfl rfl (State.settleFrom_quiet _ _ rfl rfl rfl rfl)

end Reads

end Sys2Proof.Machine
end

section
/-! The tables of the reads (section 11.3). -/

namespace Sys2Proof.Machine

/-! ## The items of a READ (R178) -/

/-- The ceiling that sets, by its place in the table (R46). -/
theorem State.ceilingSetter_eq (s : State) : s.ceilingSetter =
    [s.switchCeiling, s.derateCeiling, s.filmCeiling, s.protectCeiling, s.failedCeiling].findIdx
      (fun x => x == s.ceiling) := by
  have hleast : s.switchCeiling = s.ceiling ∨ s.derateCeiling = s.ceiling ∨ s.filmCeiling = s.ceiling
      ∨ s.protectCeiling = s.ceiling ∨ s.failedCeiling = s.ceiling := by
    unfold State.ceiling
    omega
  unfold State.ceilingSetter
  simp only [List.findIdx_cons, List.findIdx_nil, beq_iff_eq, cond_eq_ite]
  by_cases h0 : s.switchCeiling = s.ceiling
  · rw [if_pos h0, if_pos h0]
  by_cases h1 : s.derateCeiling = s.ceiling
  · rw [if_neg h0, if_pos h1, if_neg h0, if_pos h1]
  by_cases h2 : s.filmCeiling = s.ceiling
  · rw [if_neg h0, if_neg h1, if_pos h2, if_neg h0, if_neg h1, if_pos h2]
  by_cases h3 : s.protectCeiling = s.ceiling
  · rw [if_neg h0, if_neg h1, if_neg h2, if_pos h3, if_neg h0, if_neg h1, if_neg h2, if_pos h3]
  · rw [if_neg h0, if_neg h1, if_neg h2, if_neg h3, if_neg h0, if_neg h1, if_neg h2, if_neg h3, if_pos (by omega)]

theorem State.relay_toNat (s : State) : s.relay.toNat = if s.cool.power = .off then 0 else 1 := by
  unfold State.relay
  cases s.cool.power <;> rfl

theorem State.darkSeconds_eq (s : State) :
    s.darkTime.map (fun d => d / 1000000) = s.cool.darkStart.map (fun d => (s.clock - d) / 1000000) := by
  unfold State.darkTime
  cases s.cool.darkStart <;> rfl

theorem State.mutes_eq (s : State) : s.levelMute.toNat + 2 * s.transportMute.toNat =
    (if s.fade.audio.level = 0 then 1 else 0) + if s.tape.state = .play then 0 else 2 := by
  have hlevel : s.levelMute.toNat = if s.fade.audio.level = 0 then 1 else 0 := by
    unfold State.levelMute
    by_cases h : s.fade.audio.level = 0 <;> simp [h]
  have htransport : 2 * s.transportMute.toNat = if s.tape.state = .play then 0 else 2 := by
    unfold State.transportMute
    cases s.tape.state <;> rfl
  rw [hlevel, htransport]

/-- The seek target that the tape read sends; one that is absent is a free value (log 14). -/
def State.seekSent (s : State) : Nat := s.tape.seekTarget.getD (Config.absentSeekTarget s.freeCount).toNat

theorem State.readTape_eq (s : State) : s.readTape =
    [BitVec.ofNat 8 s.tape.state.code, BitVec.ofNat 8 s.tape.cassette.toNat] ++ b2 s.tape.counter
      ++ [BitVec.ofNat 8 s.tape.direction.code,
        BitVec.ofNat 8 (packBits [s.tape.pause.hold, s.tape.pause.queue, s.tape.pause.cueStop, s.tape.pause.safe]),
        BitVec.ofNat 8 (packBits [s.tape.standing.hold, s.tape.standing.queue, s.tape.standing.safe,
          s.tape.seekTarget.isSome]),
        BitVec.ofNat 8 (s.seekSent / 256), BitVec.ofNat 8 s.seekSent, BitVec.ofNat 8 s.tape.lastStop.code]
      ++ (opt2 (s.dec.lastWindow.map LastWindow.count)
        ++ [BitVec.ofNat 8 (((s.dec.lastWindow.bind LastWindow.cls).map ToneClass.code).getD 4)])
      ++ b2 s.fade.audio.level ++ b2 s.fade.audio.target
      ++ [BitVec.ofNat 8 s.fade.audio.state.code, BitVec.ofNat 8 s.attenuation,
        BitVec.ofNat 8 (s.levelMute.toNat + 2 * s.transportMute.toNat)] := by
  unfold State.readTape State.seekSent
  dsimp only
  cases s.tape.seekTarget <;> rfl

theorem ScanSlot.readBytes_eq (sl : ScanSlot) : sl.readBytes =
    [BitVec.ofNat 8 sl.cfg.input, BitVec.ofNat 8 ((if sl.cfg.enable then 128 else 0) + sl.cfg.role.code)]
      ++ b2 sl.cfg.offset ++ b2 sl.cfg.low ++ b2 sl.cfg.high ++ opt2 sl.result
      ++ [BitVec.ofNat 8 (packBits [sl.latchedHigh, sl.latchedLow, sl.highCond, sl.lowCond])] := by
  have henable : 128 * sl.cfg.enable.toNat = if sl.cfg.enable then 128 else 0 := by
    cases sl.cfg.enable <;> rfl
  unfold ScanSlot.readBytes
  rw [henable]
  rfl

theorem faultBytes_none : faultBytes none = [0#8, 0#8, 0#8, 0#8, 0#8, 0#8] := by decide

theorem faultBytes_some (e : FaultEntry) : faultBytes (some e) = [BitVec.ofNat 8 e.cause.number, BitVec.ofNat 8 e.level]
    ++ [BitVec.ofNat 8 (e.time / 16777216), BitVec.ofNat 8 (e.time / 65536), BitVec.ofNat 8 (e.time / 256),
      BitVec.ofNat 8 e.time] := by
  rw [← b4_eq]
  rfl

/-- The byte of the last fault's cause; where there is none it is a free value (log 14). -/
def State.causeSent (s : State) : Nat :=
  (s.prot.last.cause.map Cause.number).getD (Config.noCauseByte s.freeCount).toNat

theorem State.restartReady_toNat (s : State) : s.restartReady.toNat =
    if s.prot.active = ⟨false, false, false, false⟩ ∧ s.cool.darkStart = none ∧ s.cool.th ≠ none
      ∧ s.cool.th.getD 0 < s.items.coolTemp then 1 else 0 := by
  have hactive : (!(s.prot.active.housing || s.prot.active.gate || s.prot.active.fan || s.prot.active.overcurrent)) = true
      ↔ s.prot.active = ⟨false, false, false, false⟩ := by
    cases s.prot.active
    simp [and_assoc]
  have hcool : (!s.hotHousing && s.cool.th != some s.items.coolTemp) = true
      ↔ s.cool.th ≠ none ∧ s.cool.th.getD 0 < s.items.coolTemp := by
    unfold State.hotHousing
    cases s.cool.th with
    | none => simp
    | some th =>
      simp
      omega
  have hready : s.restartReady = true ↔ s.prot.active = ⟨false, false, false, false⟩ ∧ s.cool.darkStart = none
      ∧ s.cool.th ≠ none ∧ s.cool.th.getD 0 < s.items.coolTemp := by
    unfold State.restartReady
    rw [Bool.and_assoc, Bool.and_eq_true, Bool.and_eq_true, hactive, hcool, Option.isNone_iff_eq_none, and_assoc]
  rw [← if_congr hready rfl rfl]
  cases s.restartReady <;> rfl

theorem State.readFault_eq (s : State) : s.readFault =
    [BitVec.ofNat 8 s.prot.pl, BitVec.ofNat 8 s.prot.stack.length]
      ++ [faultBytes s.prot.stack.reverse[0]?, faultBytes s.prot.stack.reverse[1]?,
        faultBytes s.prot.stack.reverse[2]?].flatten
      ++ [BitVec.ofNat 8 (packBits [s.prot.active.housing, s.prot.active.gate, s.prot.active.fan, s.prot.active.overcurrent]),
        BitVec.ofNat 8 s.causeSent, BitVec.ofNat 8 s.prot.last.level, BitVec.ofNat 8 s.prot.last.stacked.toNat]
      ++ b4 s.prot.last.time
      ++ [BitVec.ofNat 8 s.prot.last.raises, BitVec.ofNat 8 s.prot.last.restarts, BitVec.ofNat 8 s.items.lockoutRestart.toNat,
        BitVec.ofNat 8 s.restartReady.toNat] := by
  unfold State.readFault State.causeSent
  dsimp only
  rw [List.length_reverse]
  cases s.prot.last.cause <;> simp only [Option.map_none, Option.map_some, Option.getD_none, Option.getD_some,
    b1, bBool, List.flatten_cons, List.flatten_nil, List.append_nil, List.append_assoc, List.cons_append,
    List.nil_append]

/-- Up to n entries from place a on, each with its index. -/
theorem flatten_mapIdx_range {α β : Type} (f : Nat → α → List β) (n : Nat) (l : List α) (h : l.length ≤ n) :
    (l.mapIdx f).flatten = ((List.range n).map (fun i => l[i]?.elim [] (f i))).flatten := by
  induction n generalizing f l with
  | zero =>
    rw [List.eq_nil_of_length_eq_zero (Nat.le_zero.mp h)]
    rfl
  | succ n ih =>
    rw [List.range_succ_eq_map, List.map_cons, List.map_map, List.flatten_cons]
    cases l with
    | nil =>
      have hnone : (List.range n).map ((fun i => ([] : List α)[i]?.elim [] (f i)) ∘ Nat.succ) = (List.range n).map fun _ => [] := rfl
      rw [hnone]
      simp
    | cons x l =>
      rw [List.mapIdx_cons, List.flatten_cons, ih (fun i => f (i + 1)) l (Nat.le_of_succ_le_succ h)]
      rfl

theorem State.readCues_eq (start : Nat) (s : State) : s.readCues start =
    [BitVec.ofNat 8 s.cue.entries.length, BitVec.ofNat 8 s.cue.debt, BitVec.ofNat 8 s.cue.queueLen,
      BitVec.ofNat 8 (packBits [s.dec.trackers.a.stuck, s.dec.trackers.b.stuck, s.dec.trackers.c.stuck,
        s.dec.trackers.d.stuck, s.cue.queueAsked])]
      ++ ((List.range 15).map (fun i => s.cue.entries[max start 1 - 1 + i]?.elim [] (cueBytes (max start 1 + i)))).flatten := by
  have hstart : start - 1 = max start 1 - 1 := by omega
  have hfun : (fun i => ((s.cue.entries.drop (start - 1)).take 15)[i]?.elim [] (fun e => cueBytes (start - 1 + i + 1) e))
      = fun i => if i < 15 then s.cue.entries[max start 1 - 1 + i]?.elim [] (cueBytes (max start 1 + i)) else [] := by
    funext i
    rw [List.getElem?_take, hstart, show max start 1 - 1 + i + 1 = max start 1 + i by omega]
    by_cases hi : i < 15
    · rw [if_pos hi, if_pos hi, List.getElem?_drop]
    · rw [if_neg hi, if_neg hi]
      rfl
  unfold State.readCues
  dsimp only
  rw [flatten_mapIdx_range _ 15 _ (List.length_take_le _ _), hfun]
  have hwithin : (List.range 15).map (fun i => if i < 15 then
        s.cue.entries[max start 1 - 1 + i]?.elim [] (cueBytes (max start 1 + i)) else [])
      = (List.range 15).map (fun i => s.cue.entries[max start 1 - 1 + i]?.elim [] (cueBytes (max start 1 + i))) :=
    List.map_congr_left fun i hi => if_pos (List.mem_range.mp hi)
  rw [hwithin]
  rfl

end Sys2Proof.Machine
end

section
/-! What every reply and every read reports (R40, R60, R106, R117, R173, R178, R180, R184). -/

namespace Sys2Proof.Machine

/-! ## The reply, whole (R173) -/

/-- The attention byte by its bits (section 11.3). -/
theorem Attention.byte_eq (f : Attention) : f.byte = f.completion.toNat + 2 * f.fault.toNat + 4 * f.limit.toNat
    + 8 * f.cuemap.toNat + 16 * f.lamp.toNat + 32 * f.counter.toNat + 64 * f.syncTape.toNat + 128 * f.showStore.toNat := by
  simp only [Attention.byte, packBits]
  omega

theorem frameReply_eq (body : List Byte) : (frameReply body).length = body.length + 2
    ∧ (((frameReply body).drop 1).map BitVec.toNat).sum % 256 = 0
    ∧ (frameReply body).take (body.length + 1) = 0xD4#8 :: body := by
  refine ⟨?_, (eq_checkByte_iff _ _).mp rfl, ?_⟩
  · simp [frameReply]
  · unfold frameReply
    rw [List.take_succ_cons, List.take_left']
    rfl

/-! ## The counters (R184) -/

theorem State.counterBytes_eq (s : State) : s.counterBytes =
    (s.usage.counters.all.map (fun c => [BitVec.ofNat 8 (c.value / 16777216), BitVec.ofNat 8 (c.value / 65536),
        BitVec.ofNat 8 (c.value / 256), BitVec.ofNat 8 c.value])).flatten
      ++ [BitVec.ofNat 8 (s.usage.counters.all.mapIdx (fun i c => if c.overflow then 2 ^ i else 0)).sum] := by
  have hflags : (s.usage.counters.all.mapIdx (fun i c => if c.overflow then 2 ^ i else 0)).sum
      = packBits (s.usage.counters.all.map Counter.overflow) := packBits_eq (s.usage.counters.all.map Counter.overflow)
  have hfields : (fun c : Counter => [BitVec.ofNat 8 (c.value / 16777216), BitVec.ofNat 8 (c.value / 65536),
      BitVec.ofNat 8 (c.value / 256), BitVec.ofNat 8 c.value]) = fun c => b4 c.value :=
    funext fun c => (b4_eq c.value).symm
  rw [hflags, hfields]
  rfl

/-! ## Fields of the status (section 11.3) -/

theorem State.storeState_byte (s : State) : BitVec.ofNat 8 s.storeStateCode =
    if s.store.saving.isSome then 2#8 else if s.store.factoryLoaded then 1#8 else 0#8 := by
  unfold State.storeStateCode
  split_ifs <;> rfl

/-- A READ draws one free value where its item sends one (log 14). -/
theorem State.drawn_eq (item : Byte) (s : State) :
    (if s.readDraws item.toNat then s.freeCount + 1 else s.freeCount) = s.freeCount
      + if (item = 4#8 ∧ s.tape.seekTarget = none) ∨ (item = 6#8 ∧ s.prot.last.cause = none) then 1 else 0 := by
  have hitem (b : Byte) : item.toNat = b.toNat ↔ item = b := BitVec.toNat_inj
  have hdraws : s.readDraws item.toNat = true
      ↔ (item = 4#8 ∧ s.tape.seekTarget = none) ∨ (item = 6#8 ∧ s.prot.last.cause = none) :=
    (s.readDraws_iff item.toNat).trans
      (or_congr (and_congr_left' (hitem 4#8)) (and_congr_left' (hitem 6#8)))
  by_cases h : s.readDraws item.toNat = true
  · rw [if_pos h, if_pos (hdraws.mp h)]
  · rw [if_neg h, if_neg (mt hdraws.mpr h)]
    rfl

/-- Settles O50. -/
theorem readsAndRepliesReportTheState : Obligations.ReadsAndRepliesReportTheState := by
  refine ⟨fun code data s => ?_, ?_, ?_⟩
  · intro bytes g f byte
    obtain ⟨hlength, hsum, htake⟩ := frameReply_eq (g.replyBody code data)
    have hbody : (g.replyBody code data).length = data.length + 8 := by
      rw [State.replyBody_eq, List.length_append, Nat.add_comm]
      rfl
    rw [hbody] at hlength htake
    refine ⟨fun h => State.grantsDue_none h 32, hlength, hsum, htake.trans ?_⟩
    rw [State.replyBody_eq, State.statusByte_eq, Attention.byte_eq]
    rfl
  · intro h s ht f cleared flagged
    refine ⟨fun item param hitem => exec_read_badItem ht param hitem, fun item param hitem => ?_,
      fun hpl hnone => exec_readCompletion_none ht hpl hnone, fun hpl c rest hsome => exec_readCompletion ht hpl hsome,
      fun hpl => ?_⟩
    · refine (exec_read ht param hitem).trans ?_
      rw [State.drawn_eq]
      rfl
    · intro values flags
      refine (exec_readCounters ht hpl).trans ?_
      rw [State.counterBytes_eq]
  · intro s param byte up left
    refine ⟨rfl, ?_, ?_, ?_⟩
    · show s.readStack = _
      unfold State.readStack
      rw [map_b1_flatten]
      rfl
    · show s.readStatus = _
      unfold State.readStatus
      rw [b4_eq, ← State.storeState_byte]
      rfl
    · intro two four may bits fadeCode class_ number role ceilings l c a tp p
      have hfour (n : Nat) : b4 n = four n := b4_eq n
      have hbits (l : List Bool) : bits l = BitVec.ofNat 8 (packBits l) := congrArg byte (packBits_eq l)
      refine ⟨?_, ?_, ?_, ?_, ?_, ?_⟩
      · show s.readLamp = _
        unfold State.readLamp
        rw [hfour, State.ceilingSetter_eq]
        rfl
      · show s.readCooling = _
        unfold State.readCooling bBool
        rw [State.relay_toNat, State.darkSeconds_eq]
        rfl
      · refine ⟨BitVec.ofNat 8 (s.seekSent / 256), BitVec.ofNat 8 s.seekSent, ?_, fun n hn => ?_⟩
        · rw [hbits, hbits, ← State.mutes_eq]
          show s.readTape = _
          have hdirection : s.tape.direction.code = if s.tape.direction = .forward then 0 else 1 := by
            cases s.tape.direction <;> rfl
          rw [State.readTape_eq, hdirection]
          cases s.dec.lastWindow <;> rfl
        · have hsent : s.seekSent = n := by
            unfold State.seekSent
            rw [show s.tape.seekTarget = some n from hn]
            rfl
          rw [hsent]
      · show (s.scan.slots.map ScanSlot.readBytes).flatten = _
        refine congrArg List.flatten (List.map_congr_left fun sl _ => ?_)
        rw [hbits]
        exact sl.readBytes_eq
      · refine ⟨BitVec.ofNat 8 s.causeSent, ?_, fun k hk => ?_⟩
        · rw [hbits, ← State.restartReady_toNat, ← hfour]
          show s.readFault = _
          have hplaces : [faultBytes s.prot.stack.reverse[0]?, faultBytes s.prot.stack.reverse[1]?,
              faultBytes s.prot.stack.reverse[2]?] = (List.range 3).map (fun i => faultBytes s.prot.stack.reverse[i]?) := rfl
          rw [State.readFault_eq, hplaces]
          refine congrArg (fun l => [byte s.prot.pl, byte s.prot.stack.length] ++ List.flatten l ++ _ ++ _ ++ _)
            (List.map_congr_left fun i _ => ?_)
          cases s.prot.stack.reverse[i]? with
          | none => exact faultBytes_none
          | some e => exact faultBytes_some e
        · have hsent : s.causeSent = k.number := by
            unfold State.causeSent
            rw [show s.prot.last.cause = some k from hk]
            rfl
          rw [hsent]
          cases k <;> rfl
      · rw [hbits]
        refine (s.readCues_eq param).trans ?_
        refine congrArg (fun l => _ ++ List.flatten l) (List.map_congr_left fun i _ => ?_)
        cases s.cue.entries[max param 1 - 1 + i]? <;> rfl

end Sys2Proof.Machine
end
